-- ==== Sys2Proof/Word.lean ====
section
/-! DEFINITION. The words of the part: bytes, web counts, and the comparison of web counts (00_scope.md, 3.1). -/

namespace Sys2Proof

/-- A byte of a link, of the colour head port or of the label port. -/
abbrev Byte := BitVec 8

/-- A web count or datum: 32 bits, wrapping, one count being 10 µm of web (00_scope.md, 3.1). -/
abbrev Count := BitVec 32

/-- One of the eight print stations (R38). -/
abbrev StationId := Fin 8

/-- One of the nine step channels: 0 to 7 for the stations, 8 for the emboss motor (04, 4.4). -/
abbrev ChannelId := Fin 9

/-- The signed 32-bit difference a − b of two web counts. -/
def ahead (a b : Count) : Int := (a - b).toInt

/-- "Position a has been reached" by h: the signed difference h − a is zero or positive (00_scope.md, 3.1). -/
def reached (h a : Count) : Bool := decide (0 ≤ ahead h a)

/-- The count that lies n counts further on. -/
def fwd (a : Count) (n : Nat) : Count := a + BitVec.ofNat 32 n

/-- The count that lies n counts back. -/
def back (a : Count) (n : Nat) : Count := a - BitVec.ofNat 32 n

/-- The further on of two counts. -/
def further (a b : Count) : Count := if 0 < ahead b a then b else a

end Sys2Proof
end

