-- ==== Sys2Proof/Syntax.lean ====
section
/-! DEFINITION. The commands of the block: one constructor for each row of spec/opcode_table.json.
The table gives no operands; those here are the model's (notes/assumptions/11.md). -/

namespace Sys2Proof

/-- The two serial links (12): the Line Link and the Service Link. -/
inductive LinkId where
  | line | service
deriving DecidableEq, Repr

/-- The two lines of the web encoder (R1). -/
inductive EncoderLine where
  | a | b
deriving DecidableEq, Repr

/-- The two spindles of the turret (R114). -/
inductive Spindle where
  | a | b
deriving DecidableEq, Repr

/-- The two label printers; printer A serves spindle A, printer B spindle B (10). -/
inductive Printer where
  | a | b
deriving DecidableEq, Repr

/-- The two PWM generators (R83, R115). -/
inductive PwmId where
  | nip | torque
deriving DecidableEq, Repr

/-- The levels at the part's inputs: link straps (R191), encoder lines (R1), defect line (R17), printers' READY (R168). -/
structure Pins where
  strapLine    : BitVec 2
  strapService : BitVec 2
  encA         : Bool
  encB         : Bool
  defectLine   : Bool
  readyA       : Bool
  readyB       : Bool
deriving DecidableEq, Repr

/-- A command of the block: a row of spec/opcode_table.json. A request carries the link it is taken on, its tag and
its payload fields as 12.7 lays them out. -/
inductive Instr where
  -- reset, encoder and clock of the web (01, 11)
  | partReset (pins : Pins)
  | encoderTransition (line : EncoderLine)
  | encoderFault
  | speedWindowEnd
  | stoppedFlagSet
  -- scanner, stations and step channels (02, 04)
  | markEdge
  | referenceWindowExpiry
  | reacquisitionWindowExpiry
  | captureClose
  | flywheelClosing
  | settleEnd (station : StationId)
  | stepPulse (channel : ChannelId)
  -- events and records of the web track (01)
  | splicePulse
  | defectLineRise
  | defectLineFall
  | defectLengthLimit
  | operatorButton
  | eventAttribution
  | eventRemoval
  | recordFold
  -- emboss (05)
  | engageTimerExpiry
  | liftTimerExpiry
  | liftCoverageBegin
  | liftCoverageEnd
  | liftCheck
  | indexEdge
  | embossWindowExpiry
  | embossStatusWrite
  -- shade (06)
  | shadeStartPoint
  | triggerPulseEnd
  | dataReady
  | readComplete (lHi lLo aHi aLo bHi bLo : Byte)
  | headTimeout
  -- winder (07)
  | cutDue
  | overlengthCondition
  | transferTimerExpiry
  | knifePulseEnd
  | turretPulseEnd
  | torqueUpdate
  | doff (spindle : Spindle)
  -- labels (10)
  | printerReadyChange (printer : Printer) (level : Bool)
  | labelTransferEnd (verdict : Byte)
  | printerTimeout (printer : Printer)
  | applied (printer : Printer)
  -- links (12)
  | byteReceived (link : LinkId) (byte : Byte) (framingError : Bool)
  | gapTimeout (link : LinkId)
  | requestTake (link : LinkId)
  | frameSent (link : LinkId)
  -- requests of class MONITOR (12.7)
  | identify (link : LinkId) (tag : Byte)
  | lineStatus (link : LinkId) (tag : Byte)
  | probe (link : LinkId) (tag : Byte) (datum : Count)
  | stationStatus (link : LinkId) (tag : Byte) (station : Byte)
  | embossStatus (link : LinkId) (tag : Byte)
  | shadeStatus (link : LinkId) (tag : Byte)
  | winderStatus (link : LinkId) (tag : Byte)
  | rollRead (link : LinkId) (tag : Byte) (seq : BitVec 32)
  | batchReport (link : LinkId) (tag : Byte)
  | batchRead (link : LinkId) (tag : Byte) (index : Byte)
  | labelStatus (link : LinkId) (tag : Byte)
  | noticeMask (link : LinkId) (tag : Byte) (mask : BitVec 16)
  -- requests of class OPERATE
  | start (link : LinkId) (tag : Byte)
  | hold (link : LinkId) (tag : Byte)
  | resume (link : LinkId) (tag : Byte)
  | endJob (link : LinkId) (tag : Byte)
  | abortJob (link : LinkId) (tag : Byte)
  | stationEngage (link : LinkId) (tag : Byte) (station : Byte)
  | stationDisengage (link : LinkId) (tag : Byte) (station : Byte)
  | tuneStation (link : LinkId) (tag : Byte) (station : Byte) (gain deadband : BitVec 16) (averaging : Byte)
      (tolerance : BitVec 16)
  | embossLift (link : LinkId) (tag : Byte)
  | embossClose (link : LinkId) (tag : Byte)
  | markEvent (link : LinkId) (tag : Byte)
  | releaseEntries (link : LinkId) (tag : Byte) (seq : BitVec 32)
  | reprint (link : LinkId) (tag : Byte) (seq : BitVec 32) (printer : Byte)
  | closeBatch (link : LinkId) (tag : Byte) (code : BitVec 16)
  | headReset (link : LinkId) (tag : Byte)
  | printerReset (link : LinkId) (tag : Byte) (printer : Byte)
  -- requests of class CONFIGURE
  | loadJob (link : LinkId) (tag : Byte) (payload : List Byte)
  | setStation (link : LinkId) (tag : Byte) (payload : List Byte)
  | pinBatch (link : LinkId) (tag : Byte) (code : BitVec 16) (l a b : BitVec 16)
  | purgeBatches (link : LinkId) (tag : Byte) (first last includePinned : Byte)
  | setBatchCode (link : LinkId) (tag : Byte) (code : BitVec 16)
  | grantService (link : LinkId) (tag : Byte)
  | revokeService (link : LinkId) (tag : Byte)
  | reset (link : LinkId) (tag : Byte)
  -- outputs that fall, and PWM periods (04, 05)
  | stepPulseEnd (channel : ChannelId)
  | pwmPeriodStart (generator : PwmId)
deriving DecidableEq, Repr

end Sys2Proof
end

