-- ==== Sys2Proof/WellFormed.lean ====
section
/-! DEFINITION. The checks on a command's operands that their types do not make: the payload lengths of 12.7. -/

namespace Sys2Proof

/-- The payload bytes of LOAD_JOB (12.8). -/
def Config.loadJobBytes : Nat := 173

/-- The payload bytes of SET_STATION (12.8). -/
def Config.setStationBytes : Nat := 25

/-- A command is well formed when a payload carried as bytes has the length that the table of request kinds gives. -/
def Instr.wellFormed : Instr → Bool
  | .loadJob _ _ payload    => payload.length == Config.loadJobBytes
  | .setStation _ _ payload => payload.length == Config.setStationBytes
  | _ => true

end Sys2Proof
end

