-- ==== Sys2Proof/Decode.lean ====
section
/-! DEFINITION. Words that spell a command: none, since no row of spec/opcode_table.json gives bits.
(Requests framed as bytes are decoded in Machine/Links.lean, by 12.7 and 12.8.) -/

namespace Sys2Proof

/-- The command that a word spells by the table's bits: the table gives no row any bits. -/
def decodeTableWord (_nbits _w : Nat) : Option Instr := none

end Sys2Proof
end

