-- ==== Sys2Proof/Config.lean ====
section
/-! DEFINITION. What an implementation fixes: the one value the spec leaves open, and the figures of the rules. -/

namespace Sys2Proof

/-- The silicon revision letter that IDENTIFY reports (R197): the spec gives no letter, so it is a free value
(notes/assumptions/8.md). -/
opaque Config.revisionLetter : Byte

/-- The part code of IDENTIFY (R197). -/
def Config.partCode : Nat := 0x5708

/-- Cycles of the 40 MHz reference clock in a millisecond (R76). -/
def Config.cyclesPerMs : Nat := 40000

/-- Cycles of the reference clock in a microsecond. -/
def Config.cyclesPerUs : Nat := 40

/-- The 10 ms speed window (R5). -/
def Config.speedWindow : Nat := 400000

/-- The 500 ms of the stopped timer (R7). -/
def Config.stoppedLimit : Nat := 20000000

/-- The 10 ms of a knife or turret pulse (R115). -/
def Config.pulse : Nat := 400000

/-- The 10 µs of a TRIGGER pulse (R98). -/
def Config.triggerPulse : Nat := 400

/-- The 392 µs of a label transfer (R169). -/
def Config.labelTransfer : Nat := 15680

/-- The 10 s of a printer's timeout timer (R172). -/
def Config.printerTimeout : Nat := 400000000

/-- The 2 ms of a link's gap timer (R191). -/
def Config.gapLimit : Nat := 80000

/-- Capacities (00_scope.md, capacities at a glance). -/
def Config.trackRecords : Nat := 512
/-- Events in the event list (R15). -/
def Config.eventCap : Nat := 16
/-- Edges captured per repeat (R34). -/
def Config.captureCap : Nat := 16
/-- Readings in the drift window (R110). -/
def Config.driftCap : Nat := 8
/-- Samples in an accumulator (R57, R88). -/
def Config.accumulatorCap : Nat := 8
/-- Entries in the roll log (R134). -/
def Config.logCap : Nat := 32
/-- Labels in the label queue (R166). -/
def Config.labelCap : Nat := 8
/-- Places in a printer's sent list (R170). -/
def Config.sentCap : Nat := 32
/-- Requests, and replies, queued per link (R192). -/
def Config.linkCap : Nat := 4
/-- The longest DEFECT event (R17). -/
def Config.defectLimit : Nat := 200000
/-- Where the saturating counts stop. -/
def Config.countLimit : Nat := 65535

end Sys2Proof
end

