-- ==== Sys2Proof/Machine/State.lean ====
section
/-! DEFINITION. The state of the part, block by block, as plain data, and its value right after a part reset. -/

namespace Sys2Proof.Machine

/-! ### Jobs and line states (11) -/

/-- The line states (R178, R179). -/
inductive LineState where
  | unconfigured | ready | run | hold | ending
deriving DecidableEq, Repr

/-- The nine hold causes, in the order of the table of R183. -/
inductive HoldCause where
  | encoder | overspeed | refLost | stationLost | overlength | eventLost | headOffline | printerOffline | host
deriving DecidableEq, Repr

/-- A set of hold causes (R183, R199). -/
structure Causes where
  encoder : Bool := false
  overspeed : Bool := false
  refLost : Bool := false
  stationLost : Bool := false
  overlength : Bool := false
  eventLost : Bool := false
  headOffline : Bool := false
  printerOffline : Bool := false
  host : Bool := false
deriving DecidableEq, Repr

/-- The match types of a design (R180 field 6). -/
inductive MatchType where
  | straight | drop
deriving DecidableEq, Repr

/-- The cut modes (R117, R180 field 65). -/
inductive CutMode where
  | length | matched
deriving DecidableEq, Repr

/-- The splice policies (R120, R180 field 70). -/
inductive SplicePolicy where
  | mark | remove
deriving DecidableEq, Repr

/-- The roles of a gate (R24). -/
inductive GateRole where
  | ref | marks | both
deriving DecidableEq, Repr

/-- A gate of the gate table (R24). -/
structure Gate where
  enabled : Bool
  base : Byte
  mask : Byte
  role : GateRole
deriving DecidableEq, Repr

/-- The parameters of one correction channel that the CAU reads, with its step rate (R39 fields 6 to 12, R180
fields 39 to 45). -/
structure Tuning where
  averaging : Nat
  gain : Nat
  deadband : Nat
  stepLimit : Nat
  trimLimit : Nat
  ratio : Nat
  rate : Nat
deriving DecidableEq, Repr

/-- The job record: the fields of R180, gates apart (the gate table holds them, R24, R181). -/
structure Job where
  design : List Byte
  colourway : List Byte
  lotText : List Byte
  firstRoll : Nat
  L : Nat
  matchType : MatchType
  vMax : Nat
  mask : Causes
  wRef : Nat
  wMark : Nat
  refMissLimit : Nat
  gates : Vector Gate 4
  dSh : Nat
  dEm : Nat
  dCut : Nat
  uSpl : Nat
  uDef : Nat
  embossOn : Bool
  k : Nat
  phaseSelect : Nat
  oEm : Nat
  wEm : Nat
  tolEm : Nat
  emboss : Tuning
  embossMissLimit : Nat
  engageMs : Nat
  liftMs : Nat
  lead : Nat
  trail : Nat
  liftOnDefect : Bool
  vMinEmboss : Nat
  pressure : Nat
  pressurePeriod : Nat
  pressurePrescale : Nat
  sampleInterval : Nat
  oSh : Nat
  acquisitionUs : Nat
  headTimeoutMs : Nat
  spanLimit : Nat
  tolB : Nat
  warn : Nat
  rollsPerBatch : Nat
  lt : Nat
  cutMode : CutMode
  cutOffset : Nat
  minRoll : Nat
  transferMs : Nat
  maxOver : Nat
  splicePolicy : SplicePolicy
  clearance : Nat
  d0 : Nat
  taper : Nat
  torquePeriod : Nat
  torquePrescale : Nat
  rejReg : Nat
  bReg : Nat
  bUnknown : Nat
  rejEmb : Nat
  rejectOnSplice : Bool
deriving DecidableEq, Repr

/-- The Line State Controller (R178). -/
structure Lsc where
  job : Option Job
  lineState : LineState
  holdMask : Option Causes
  latched : Causes
  reported : Causes
  runPermit : Bool
  serviceGrant : Bool
deriving DecidableEq, Repr

/-! ### Web position (01) -/

/-- The direction of travel (R1). -/
inductive Direction where
  | forward | reverse
deriving DecidableEq, Repr

/-- The Web Position Unit (R1 to R8). Times are in cycles of the reference clock. -/
structure Wpu where
  w : Count
  h : Count
  direction : Direction
  v : Nat
  stopped : Bool
  stoppedTime : Nat
  faultCount : Nat
  encoderCond : Bool
  /-- an encoder fault lies in the present speed window (R2) -/
  faultInWindow : Bool
  overCount : Nat
  overspeedCond : Bool
  windowStart : Count
  windowTime : Nat
  /-- reverse travel since the last advance of H (R17, opening occasions) -/
  reversed : Bool
deriving DecidableEq, Repr

/-! ### Web track (01) -/

/-- A shade triple, in hundredths of a unit (00_scope.md, 3.2). -/
structure Shade where
  l : Int
  a : Int
  b : Int
deriving DecidableEq, Repr

/-- The kinds of an origin (R9, R27). -/
inductive OriginKind where
  | marked | flywheel
deriving DecidableEq, Repr

/-- The outcome of a station in a repeat (R9, R35, R58). -/
inductive StationOutcome where
  | sample (e : Int) | missing | ambiguous | notEngaged | notUsed | absent
deriving DecidableEq, Repr

/-- The register class of a repeat (R9, R59). -/
inductive RegClass where
  | pending | inside | outside | unknown
deriving DecidableEq, Repr

/-- The shade state of a repeat (R9). -/
inductive ShadeState where
  | notScheduled | pending | present | absent | skipped | smeared
deriving DecidableEq, Repr

/-- The emboss status of a repeat (R9, R91). -/
inductive EmbossMark where
  | notReached | lifted | inRegister | offRegister | unknown
deriving DecidableEq, Repr

/-- A repeat record (R9). -/
structure RepeatRecord where
  index : BitVec 32
  origin : Count
  kind : OriginKind
  outcomes : Vector StationOutcome 8
  cls : RegClass
  worst : Option Int
  shadeState : ShadeState
  shade : Option Shade
  emboss : EmbossMark
  overflow : Bool
  liftLate : Bool
  points : List Count
deriving DecidableEq, Repr

/-- The kinds of a web event (R15). -/
inductive EventKind where
  | splice | defect | operator
deriving DecidableEq, Repr

/-- An event of the event list (R15). -/
structure WebEvent where
  kind : EventKind
  datum : Count
  length : Nat
  /-- the open DEFECT event, whose length follows the web (R17) -/
  isOpen : Bool
  attributed : Bool
  liftLate : Bool
  /-- its coverage of the nip has begun (R80) -/
  joined : Bool
  /-- its lift check has been made (R81) -/
  checked : Bool
  /-- it has been judged for the active segment (R120) -/
  judged : Bool
deriving DecidableEq, Repr

/-- The Web Track (R9 to R21). -/
structure Trk where
  records : List RepeatRecord
  events : List WebEvent
  eventLost : Bool
deriving DecidableEq, Repr

/-! ### Mark scanner (02) -/

/-- The reference states (02, 2.2). -/
inductive RefState where
  | seeking | locked | flywheel | lost
deriving DecidableEq, Repr

/-- The current origin and its kind (R26). -/
structure Origin where
  datum : Count
  kind : OriginKind
deriving DecidableEq, Repr

/-- The open capture of a MARKED repeat, with its capture list and overflow point (R33, R34). -/
structure Capture where
  index : BitVec 32
  origin : Count
  edges : List Count
  overflow : Option Count
deriving DecidableEq, Repr

/-- A pending closing (R27, R35, R36). -/
structure Closing where
  index : BitVec 32
  origin : Count
  kind : OriginKind
deriving DecidableEq, Repr

/-- The Mark Scanner (R24, R26, R43). -/
structure Msc where
  gates : Vector Gate 4
  refState : RefState
  origin : Option Origin
  prevEdge : Option Count
  missCount : Nat
  nextIndex : BitVec 32
  capture : Option Capture
  closings : List Closing
  offsets : Vector (Option Nat) 8
  oMax : Nat
deriving DecidableEq, Repr

/-! ### Station table and register loop (02, 04) -/

/-- The fields a RESIDENT descriptor holds (R39). -/
structure ResidentDesc where
  offset : Nat
  settle : Nat
  tuning : Tuning
  missLimit : Nat
  tol : Nat
deriving DecidableEq, Repr

/-- The fields an INDIRECT descriptor holds (R39). -/
structure IndirectDesc where
  target : StationId
  stepLimit : Nat
  trimLimit : Nat
  ratio : Nat
  rate : Nat
deriving DecidableEq, Repr

/-- A station descriptor: its kind and the fields the kind holds (R38, R39). -/
inductive Descriptor where
  | reference
  | resident (d : ResidentDesc)
  | indirect (d : IndirectDesc)
  | invalid
deriving DecidableEq, Repr

/-- The station states of a RESIDENT station (R57). -/
inductive StationState where
  | disengaged | seeking | tracking | correcting | settling | lost
deriving DecidableEq, Repr

/-- The flags of a CAU result (R52). -/
structure CauFlags where
  saturated : Bool := false
  atLimit : Bool := false
  belowStep : Bool := false
deriving DecidableEq, Repr

/-- What an owner notes of a train in flight: the trim before it and its commanded correction (R57, R62, R88). -/
structure TrainNote where
  before : Int
  c : Int
deriving DecidableEq, Repr

/-- What the RLP holds for a station (R57), with its descriptor. -/
structure Station where
  desc : Descriptor
  engaged : Bool
  st : StationState
  acc : List Int
  bad : Nat
  settleEnd : Option Count
  trim : Int
  train : Option TrainNote
  lastC : Option Int
  flags : CauFlags
  lastOutcome : Option StationOutcome
deriving DecidableEq, Repr

/-- The Station Table and Register Loop. -/
structure Rlp where
  stations : Vector Station 8
deriving DecidableEq, Repr

/-- A step channel (R66, R67). -/
structure Channel where
  inFlight : Bool
  remaining : Nat
  emitted : Nat
  /-- the direction output: high for retard -/
  retard : Bool
  period : Nat
  /-- the step output -/
  stepHigh : Bool
  /-- cycles to the next step of the train in flight -/
  toStep : Nat
  /-- cycles the raised step output stays high -/
  highLeft : Nat
deriving DecidableEq, Repr

/-- The Step Generators. -/
structure Stg where
  channels : Vector Channel 9
deriving DecidableEq, Repr

/-! ### Emboss (05) -/

/-- The nip states (R76). -/
inductive NipState where
  | lifted | engaging | closed | lifting
deriving DecidableEq, Repr

/-- The emboss register states (R87). -/
inductive EmbReg where
  | seeking | inRegister | offRegister | lost
deriving DecidableEq, Repr

/-- The correction phases of the emboss channel (R88). -/
inductive EmbPhase where
  | idle | inFlight | settling
deriving DecidableEq, Repr

/-- An expected index window (R84). -/
structure EmbWindow where
  index : BitVec 32
  kind : OriginKind
  expected : Count
  sample : Option Int
deriving DecidableEq, Repr

/-- A PWM generator (R83): what the present period runs with, and what the next one will take. -/
structure Pwm where
  period : Nat
  prescale : Nat
  /-- the duty of the present period -/
  duty : Nat
  nextPeriod : Nat
  nextPrescale : Nat
  /-- the duty last set -/
  setDuty : Nat
  /-- cycles since the present period began -/
  cycle : Nat
deriving DecidableEq, Repr

/-- The Emboss Controller (R76 to R97). -/
structure Emb where
  nip : NipState
  nipTime : Option Nat
  closedSince : Option Count
  hostLift : Bool
  zoneActive : Bool
  release : Option Count
  heldOpen : Bool
  windows : List EmbWindow
  reg : EmbReg
  missCount : Nat
  phase : EmbPhase
  acc : List Int
  trim : Int
  train : Option TrainNote
  lastC : Option Int
  flags : CauFlags
  lateCount : Nat
  lastLate : Option (EventKind × Count)
  lastSample : Option (Int × BitVec 32)
  pwm : Pwm
deriving DecidableEq, Repr

/-! ### Shade (06) -/

/-- The head states (R99). -/
inductive HeadState where
  | idle | acquiring | reading | offline
deriving DecidableEq, Repr

/-- The measurement in flight (R99, R102, R103). -/
structure Measurement where
  index : BitVec 32
  trigPos : Count
  /-- cycles since the trigger -/
  since : Nat
  /-- cycles left on the timeout timer, while it runs -/
  timeout : Option Nat
  smeared : Bool
deriving DecidableEq, Repr

/-- The verdicts of a drift comparison (R111). -/
inductive DriftVerdict where
  | inside | warning | drift
deriving DecidableEq, Repr

/-- A drift comparison (R111). -/
structure DriftComparison where
  mean : Shade
  d2 : Nat
  verdict : DriftVerdict
deriving DecidableEq, Repr

/-- The line batch as the Shade Unit holds it (R109). -/
structure LineBatch where
  code : Nat
  ref : Shade
deriving DecidableEq, Repr

/-- The outcome counts of the Shade Unit (R99). -/
structure ShadeCounts where
  started : Nat := 0
  present : Nat := 0
  smeared : Nat := 0
  skipped : Nat := 0
  timedOut : Nat := 0
  notStarted : Nat := 0
deriving DecidableEq, Repr

/-- The Shade Unit (R98, R99). -/
structure Shu where
  head : HeadState
  faultCount : Nat
  meas : Option Measurement
  /-- the start list: record index and start point (R100) -/
  starts : List (BitVec 32 × Count)
  clampL : Bool
  clampA : Bool
  clampB : Bool
  lastReading : Option (Shade × BitVec 32)
  drift : List Shade
  lineBatch : Option LineBatch
  lastDrift : Option DriftComparison
  counts : ShadeCounts
  /-- the TRIGGER output, and the cycles it stays high -/
  trigger : Bool
  triggerLeft : Nat
  /-- the head select is asserted: a read of six bytes runs on the port (R98) -/
  select : Bool
deriving DecidableEq, Repr

/-! ### Winder (07) -/

/-- A spindle's state, with the entry wound on it (R114). -/
inductive SpindleState where
  | empty | winding (seq : BitVec 32) | full (seq : BitVec 32)
deriving DecidableEq, Repr

/-- The roles of a segment (R114). -/
inductive Role where
  | leadIn | roll | remove | tail
deriving DecidableEq, Repr

/-- The name of a MATCH point: record index and half (R117). -/
structure PointName where
  index : BitVec 32
  half : Nat
deriving DecidableEq, Repr

/-- The active segment (R114), with the eligible point at which it started (MATCH mode). -/
structure Segment where
  seq : BitVec 32
  start : Count
  role : Role
  point : Option PointName
deriving DecidableEq, Repr

/-- Where a planned cut falls (R119, R121, R125). -/
inductive CutTarget where
  /-- a datum, with its point in MATCH mode -/
  | known (datum : Count) (point : Option PointName)
  /-- a point of a record not yet appended -/
  | named (point : PointName)
  /-- the first eligible point at or after a floor -/
  | fromFloor (floor : Count)
  /-- a SEEKING cut1 -/
  | seekingCut1
  /-- WAITING -/
  | waiting
deriving DecidableEq, Repr

/-- The planned cut: where it falls and the role it opens. -/
structure CutPlan where
  target : CutTarget
  opens : Role
  /-- planned anew at the earliest cut datum after a refusal (R125, LENGTH mode) -/
  replanned : Bool
deriving DecidableEq, Repr

/-- The states of cut1 (R121). -/
inductive Cut1 where
  | fixed (datum : Count) (point : Option PointName)
  | candidate (datum : Count) (point : Option PointName)
  | none
  | seeking
deriving DecidableEq, Repr

/-- A standing REMOVE plan (R121, R122). -/
structure SplicePlan where
  /-- x − c of the splice that started the plan -/
  limit : Count
  /-- the latest judged splice -/
  lastSplice : Count
  cut1 : Cut1
  cut2 : CutTarget
deriving DecidableEq, Repr

/-- The causes of a refused cut (R125). -/
inductive RefusalCause where
  | logFull | spindleNotReady
deriving DecidableEq, Repr

/-- The Winder Controller (R114, R115). -/
structure Wnd where
  spindleA : SpindleState
  spindleB : SpindleState
  lastWinding : Option Spindle
  active : Option Segment
  planned : Option CutPlan
  eMin : Option Count
  lastCut : Option Count
  plan : Option SplicePlan
  /-- the limit x − c of a search for cut1 that END_JOB keeps, the rest of its splice plan being dropped (R130) -/
  search : Option Count
  /-- the eligible points of the records appended so far that have not passed the knife, in (index, half) order (R117) -/
  points : List (PointName × Count)
  divert : Bool
  /-- cycles left of the transfer in flight -/
  transfer : Option Nat
  pwm : Pwm
  /-- the thousands of wound length at which the duty was last set (R129) -/
  torqueMark : Nat
  overlength : Bool
  refusals : Nat
  lastRefusal : Option RefusalCause
  overlaps : Nat
  /-- cycles left of the knife pulse, the output being high while it runs -/
  knife : Option Nat
  /-- cycles left of the turret index pulse -/
  turret : Option Nat
deriving DecidableEq, Repr

/-! ### Roll log (08) -/

/-- The states of a roll log entry (R134). -/
inductive EntryState where
  | opened | cut | closed
deriving DecidableEq, Repr

/-- The kinds of a closed entry (R141). -/
inductive EntryKind where
  | roll | short | waste
deriving DecidableEq, Repr

/-- The grades (R143). -/
inductive Grade where
  | a | b | reject
deriving DecidableEq, Repr

/-- The label states (R134). -/
inductive LabelState where
  | none | due | queued | sent | applied | missing
deriving DecidableEq, Repr

/-- The flags of an entry (R134, R137). -/
structure EntryFlags where
  overlength : Bool := false
  eventLost : Bool := false
  driftSeen : Bool := false
  unmeasured : Bool := false
  batchOverflow : Bool := false
  aborted : Bool := false
  doffed : Bool := false
deriving DecidableEq, Repr

/-- A roll log entry (R134). -/
structure Entry where
  seq : BitVec 32
  state : EntryState
  role : Role
  kind : Option EntryKind
  start : Count
  stop : Option Count
  length : Option Nat
  spindle : Option Spindle
  roll : Option Nat
  repeats : Nat
  firstIndex : Option (BitVec 32)
  lastIndex : Option (BitVec 32)
  inCount : Nat
  outCount : Nat
  unknownCount : Nat
  worst : Option Int
  embIn : Nat
  embOff : Nat
  embLifted : Nat
  embUnknown : Nat
  splices : Nat
  defects : Nat
  operators : Nat
  readings : Nat
  sum : Shade
  low : Option Shade
  high : Option Shade
  mean : Option Shade
  spread2 : Option Nat
  batch : Option Nat
  grade : Option Grade
  flags : EntryFlags
  label : LabelState
deriving DecidableEq, Repr

/-- The Roll Log (R134, R135, R141); the oldest entry stands first. -/
structure Rlg where
  log : List Entry
  nextSeq : BitVec 32
  nextRoll : Nat
deriving DecidableEq, Repr

/-! ### Batch table (09) -/

/-- What an OPEN or CLOSED batch entry holds (R148). -/
structure Batch where
  isOpen : Bool
  code : Nat
  ref : Shade
  count : Nat
  pinned : Bool
deriving DecidableEq, Repr

/-- A batch entry: FREE without a batch, and its marks (R148, R149). -/
structure BatchEntry where
  batch : Option Batch
  used : Bool
  changed : Bool
deriving DecidableEq, Repr

/-- The outcomes of an assignment (R148). -/
inductive AssignOutcome where
  | joined | opened | overflow
deriving DecidableEq, Repr

/-- The last assignment (R148). -/
structure Assignment where
  roll : Nat
  code : Nat
  outcome : AssignOutcome
deriving DecidableEq, Repr

/-- The Batch Table (R148). -/
structure Bat where
  entries : Vector BatchEntry 32
  nextCode : Nat
  lineBatch : Option (Fin 32)
  lastAssign : Option Assignment
  overflows : Nat
deriving DecidableEq, Repr

/-! ### Label channel (10) -/

/-- A label of the queue (R166). Its count of transfers made has no bound: R166 gives none, and stops only the counts of its
last row at 65,535 (DESIGN CHOICE: notes/assumptions/51.md). -/
structure Label where
  seq : BitVec 32
  printer : Printer
  roll : Nat
  record : List Byte
  transfers : Nat
deriving DecidableEq, Repr

/-- The transfer under way (R169), and whether its label was withdrawn meanwhile (R175). -/
structure Transfer where
  label : Label
  withdrawn : Bool
  /-- cycles left of the 392 µs -/
  left : Nat
deriving DecidableEq, Repr

/-- The last fault of a printer (R166). -/
inductive PrinterFault where
  | jammed | timeout | dropped
deriving DecidableEq, Repr

/-- What the LBC holds for a printer (R166). -/
structure PrinterState where
  online : Bool
  rejects : Nat
  /-- the timeout timer's elapsed cycles, while it runs -/
  timer : Option Nat
  /-- the sent list: an entry's sequence number, or an unattached place -/
  sent : List (Option (BitVec 32))
  lastFault : Option PrinterFault
deriving DecidableEq, Repr

/-- The Label Channel (R166). -/
structure Lbc where
  queue : List Label
  channel : Option Transfer
  printerA : PrinterState
  printerB : PrinterState
  accepted : Nat
  rejections : Nat
  dropped : Nat
  jams : Nat
  timeouts : Nat
  unattached : Nat
deriving DecidableEq, Repr

/-! ### Links (12) -/

/-- The status codes of a reply (R193). -/
inductive Status where
  | done | illegal | length | param | state | denied | busy | notFound
deriving DecidableEq, Repr

/-- A decoded request in a request queue (R192). -/
structure RawRequest where
  kind : Byte
  tag : Byte
  payload : List Byte
deriving DecidableEq, Repr

/-- A notice kind with its subject (R196). -/
inductive Notice where
  | lineState
  | stationAlarm (station : StationId)
  | embossAlarm
  | eventListFull
  | shadeDrift
  | labelFault (printer : Printer)
  | headFault
  | shadeWarning
  | rollsClosed
  | batchChanged
  | logSpace
deriving DecidableEq, Repr

/-- The close conditions that fail (R77, R94, R97). -/
structure CloseFails where
  notRun : Bool
  disabled : Bool
  hostLift : Bool
  zone : Bool
  eventLost : Bool
  slow : Bool
deriving DecidableEq, Repr

/-- The contents of IDENTIFY's reply (R197). -/
structure IdentifyReply where
  partCode : Nat
  revision : Byte
  stations : Nat
  trackRecords : Nat
  events : Nat
  logEntries : Nat
  batchEntries : Nat
  labels : Nat
  link : LinkId
  rate : BitVec 2
  abandoned : Nat
  crcFail : Nat
  queueFull : Nat
deriving DecidableEq, Repr

/-- The job items of LINE_STATUS, present while a job is loaded (R190). -/
structure JobIdentity where
  holdMask : Causes
  design : List Byte
  colourway : List Byte
  lotText : List Byte
  L : Nat
  matchType : MatchType
  cutMode : CutMode
deriving DecidableEq, Repr

/-- The contents of LINE_STATUS's reply (R190). -/
structure LineStatusReply where
  lineState : LineState
  runPermit : Bool
  serviceGrant : Bool
  latched : Causes
  reported : Causes
  conditions : Causes
  job : Option JobIdentity
  w : Count
  h : Count
  direction : Direction
  v : Nat
  stopped : Bool
  faultCount : Nat
  refState : RefState
  missCount : Nat
  origin : Option Origin
  records : Nat
  events : Nat
  entries : Nat
  nextRoll : Nat
deriving DecidableEq, Repr

/-- A step channel as the status replies give it (R75, R97). -/
structure ChannelReport where
  inFlight : Bool
  remaining : Nat
  emitted : Nat
  retard : Bool
deriving DecidableEq, Repr

/-- The items of STATION_STATUS for a RESIDENT station only (R75). -/
structure ResidentReport where
  st : StationState
  acc : List Int
  bad : Nat
  settleEnd : Option Count
  lastOutcome : Option StationOutcome
deriving DecidableEq, Repr

/-- The items of STATION_STATUS for a RESIDENT or INDIRECT station (R75). -/
structure DriveReport where
  engaged : Bool
  trim : Int
  lastC : Option Int
  flags : CauFlags
deriving DecidableEq, Repr

/-- The contents of STATION_STATUS's reply (R75). -/
structure StationStatusReply where
  desc : Descriptor
  resident : Option ResidentReport
  drive : Option DriveReport
  channel : ChannelReport
deriving DecidableEq, Repr

/-- The contents of EMBOSS_STATUS's reply (R97). -/
structure EmbossStatusReply where
  nip : NipState
  nipTime : Option Nat
  fails : CloseFails
  hostLift : Bool
  zoneActive : Bool
  release : Option Count
  heldOpen : Bool
  closedSince : Option Count
  reg : EmbReg
  missCount : Nat
  lastSample : Option (Int × BitVec 32)
  windows : Nat
  nextExpected : Option Count
  phase : EmbPhase
  acc : List Int
  trim : Int
  lastC : Option Int
  flags : CauFlags
  lateCount : Nat
  lastLate : Option (EventKind × Count)
  lateListed : Nat
  channel : ChannelReport
  duty : Nat
  liftOutput : Bool
deriving DecidableEq, Repr

/-- The measurement in flight as SHADE_STATUS gives it (R113). -/
structure MeasurementReport where
  index : BitVec 32
  trigPos : Count
  since : Nat
deriving DecidableEq, Repr

/-- The contents of SHADE_STATUS's reply (R113). -/
structure ShadeStatusReply where
  head : HeadState
  faultCount : Nat
  offlineCond : Bool
  meas : Option MeasurementReport
  starts : Nat
  nextStart : Option Count
  clampL : Bool
  clampA : Bool
  clampB : Bool
  lastReading : Option (Shade × BitVec 32)
  drift : List Shade
  lineBatch : Option LineBatch
  lastDrift : Option DriftComparison
  counts : ShadeCounts
deriving DecidableEq, Repr

/-- The active segment as WINDER_STATUS gives it (R133). -/
structure SegmentReport where
  seq : BitVec 32
  role : Role
  start : Count
  length : Int
deriving DecidableEq, Repr

/-- The contents of WINDER_STATUS's reply (R133). -/
structure WinderStatusReply where
  spindleA : SpindleState
  spindleB : SpindleState
  lastWinding : Option Spindle
  active : Option SegmentReport
  planned : Option CutPlan
  eMin : Option Count
  lastCut : Option Count
  plan : Option SplicePlan
  divert : Bool
  duty : Nat
  transfer : Option Nat
  overlength : Bool
  refusals : Nat
  lastRefusal : Option RefusalCause
  overlaps : Nat
deriving DecidableEq, Repr

/-- The contents of BATCH_REPORT's reply (R162). -/
structure BatchReportReply where
  entries : List (Nat × BatchEntry)
  stillMarked : Nat
  nextCode : Nat
  lineBatch : Option (Fin 32)
  lastAssign : Option Assignment
  overflows : Nat
deriving DecidableEq, Repr

/-- A label as LABEL_STATUS gives it (R177). -/
structure LabelReport where
  seq : BitVec 32
  roll : Nat
  printer : Printer
  transfers : Nat
deriving DecidableEq, Repr

/-- A printer as LABEL_STATUS gives it (R177). -/
structure PrinterReport where
  online : Bool
  ready : Bool
  rejects : Nat
  timer : Option Nat
  sent : List (Option (BitVec 32))
  lastFault : Option PrinterFault
deriving DecidableEq, Repr

/-- The contents of LABEL_STATUS's reply (R177). -/
structure LabelStatusReply where
  labels : List LabelReport
  sending : Option (BitVec 32)
  printerA : PrinterReport
  printerB : PrinterReport
  offlineCond : Bool
  dueCount : Nat
  oldestDue : Option (BitVec 32)
  accepted : Nat
  rejections : Nat
  dropped : Nat
  jams : Nat
  timeouts : Nat
  unattached : Nat
deriving DecidableEq, Repr

/-- What a reply carries after its status byte (R192), by the rule of the request. -/
inductive ReplyBody where
  /-- nothing further -/
  | empty
  /-- the number of the first failing field (PARAM) -/
  | field (number : Nat)
  /-- the check of R42 and the station it names (PARAM refusing START) -/
  | check (number : Nat) (station : Nat)
  /-- a set of hold causes (HOLD, and STATE refusing RESUME) -/
  | causes (set : Causes)
  | identify (r : IdentifyReply)
  | lineStatus (r : LineStatusReply)
  | probeRecord (r : RepeatRecord)
  | probeEntry (seq : BitVec 32) (kind : Option EntryKind)
  | probeNone
  | stationStatus (r : StationStatusReply)
  | embossStatus (r : EmbossStatusReply)
  | shadeStatus (r : ShadeStatusReply)
  | winderStatus (r : WinderStatusReply)
  | rollEntry (e : Entry)
  | batchReport (r : BatchReportReply)
  | batchEntry (index : Nat) (e : BatchEntry)
  | labelStatus (r : LabelStatusReply)
  | noticeMask (mask : BitVec 11)
  | started (lineState : LineState) (latched : Causes)
  | nipState (nip : NipState)
  | nipClose (nip : NipState) (fails : CloseFails)
  | markEvent (datum : Count) (lost : Bool)
  | released (removed : Nat) (oldest : Option (BitVec 32)) (left : Nat)
  | queued (labels : Nat)
  | batchClosed (index : Nat) (stillOpen : Bool)
  | head (head : HeadState) (faults : Nat)
  | printer (online ready : Bool) (labels : Nat)
  | pinned (index : Nat) (count : Nat)
  | purged (freed free : Nat)
  | nextCode (code : Nat)
  | grant (on : Bool)
deriving DecidableEq, Repr

/-- A reply: a frame with kind (request kind + 0x80) mod 256, the request's tag, and its status (R192). -/
structure Reply where
  kind : Byte
  tag : Byte
  status : Status
  body : ReplyBody
deriving DecidableEq, Repr

/-- What a notice carries, built when its sending begins (R195, R196), by the rule of the block that raises it. -/
inductive NoticeBody where
  | lineState (lineState : LineState) (latched conditions : Causes) (runPermit : Bool) (reported : Causes)
  | stationAlarm (st : Option StationState) (flags : CauFlags)
  | embossAlarm (nip : NipState) (reg : EmbReg) (misses lates : Nat) (flags : CauFlags)
  | eventListFull
  | drift (last : Option DriftComparison) (code : Option Nat)
  | labelFault (online ready : Bool) (rejects : Nat) (lastFault : Option PrinterFault) (queued sent : Nat)
  | headFault (head : HeadState) (faults : Nat)
  | rollsClosed (closed : Nat) (newest : Option (BitVec 32)) (free : Nat)
  | batchChanged (free opened closed marked nextCode : Nat) (last : Option Assignment) (overflows : Nat)
  | logSpace (free : Nat) (oldest : Option (BitVec 32)) (releasable : Bool)
deriving DecidableEq, Repr

/-- The frame a transmitter is sending (R195). -/
inductive Frame where
  | reply (r : Reply)
  | notice (n : Notice) (body : NoticeBody)
deriving DecidableEq, Repr

/-- The states of a receive assembler (R191), with the bytes of the frame so far: the count N and the bytes after it. -/
inductive Rx where
  | hunt
  | count
  | body (n : Nat) (bytes : List Byte)
  | check (n : Nat) (bytes : List Byte) (first : Option Byte)
deriving DecidableEq, Repr

/-- One half of the Link Controller (R191 to R198). -/
structure LinkHalf where
  rate : BitVec 2
  rx : Rx
  /-- cycles since the gap timer was started, while it runs -/
  gapTime : Option Nat
  abandoned : Nat
  crcFail : Nat
  queueFull : Nat
  requests : List RawRequest
  replies : List Reply
  tx : Option Frame
  slots : List Notice
  mask : BitVec 11
  resetWait : Bool
deriving DecidableEq, Repr

/-- The Link Controller: the two halves. -/
structure Lnk where
  line : LinkHalf
  service : LinkHalf
deriving DecidableEq, Repr

/-! ### The whole part -/

/-- The state of the part, its inputs' levels, and the commands that wait, oldest first. -/
structure State where
  pins : Pins
  wpu : Wpu
  trk : Trk
  msc : Msc
  rlp : Rlp
  stg : Stg
  emb : Emb
  shu : Shu
  wnd : Wnd
  rlg : Rlg
  bat : Bat
  lbc : Lbc
  lsc : Lsc
  lnk : Lnk
  pending : List Instr
deriving DecidableEq, Repr

/-- Why the part stops: for no reason. The spec names no event that stops the part (R193 answers a wrong request,
R191 drops a bad frame, R183 latches a fault of the line), so no meaning faults and there is no constructor. -/
inductive Fault where
deriving DecidableEq, Repr

/-- Why the model gives a command no meaning. -/
inductive Refusal where
  /-- Raised by exec alone, for a command without a meaning (none is left); safe, since nothing follows from it. -/
  | notModelled (mnemonic : String)
deriving DecidableEq, Repr

/-! ### Part reset -/

/-- The levels of the inputs right after reset: low (DESIGN CHOICE, unsafe: notes/assumptions/6.md). -/
def Pins.low : Pins :=
  { strapLine := 0, strapService := 0, encA := false, encB := false, defectLine := false, readyA := false, readyB := false }

/-- R8. -/
def Wpu.reset : Wpu :=
  { w := 0, h := 0, direction := .forward, v := 0, stopped := true, stoppedTime := Config.stoppedLimit, faultCount := 0,
    encoderCond := false, faultInWindow := false, overCount := 0, overspeedCond := false, windowStart := 0,
    windowTime := 0, reversed := false }

/-- R14, R15, R21. -/
def Trk.reset : Trk := { records := [], events := [], eventLost := false }

/-- A disabled gate (R24); its other fields are DESIGN CHOICE (notes/assumptions/7.md). -/
def Gate.off : Gate := { enabled := false, base := 0, mask := 0, role := .ref }

/-- R24, R26, R37. -/
def Msc.reset : Msc :=
  { gates := Vector.replicate 4 Gate.off, refState := .seeking, origin := none, prevEdge := none, missCount := 0,
    nextIndex := 0, capture := none, closings := [], offsets := Vector.replicate 8 none, oMax := 0 }

/-- A station after a part reset (R40, R74). -/
def Station.reset : Station :=
  { desc := .invalid, engaged := true, st := .seeking, acc := [], bad := 0, settleEnd := none, trim := 0, train := none,
    lastC := none, flags := {}, lastOutcome := none }

/-- R40, R74. -/
def Rlp.reset : Rlp := { stations := Vector.replicate 8 Station.reset }

/-- A channel after a part reset: idle, outputs low (R68, R74). -/
def Channel.reset : Channel :=
  { inFlight := false, remaining := 0, emitted := 0, retard := false, period := 0, stepHigh := false, toStep := 0,
    highLeft := 0 }

/-- R68, R74. -/
def Stg.reset : Stg := { channels := Vector.replicate 9 Channel.reset }

/-- A generator after a part reset: period value 0, prescale 1, duty 0 (R83, R115). -/
def Pwm.reset : Pwm :=
  { period := 0, prescale := 1, duty := 0, nextPeriod := 0, nextPrescale := 1, setDuty := 0, cycle := 0 }

/-- R76, R83, R96. -/
def Emb.reset : Emb :=
  { nip := .lifted, nipTime := none, closedSince := none, hostLift := false, zoneActive := false, release := none,
    heldOpen := false, windows := [], reg := .seeking, missCount := 0, phase := .idle, acc := [], trim := 0,
    train := none, lastC := none, flags := {}, lateCount := 0, lastLate := none, lastSample := none, pwm := Pwm.reset }

/-- R98, R99. -/
def Shu.reset : Shu :=
  { head := .idle, faultCount := 0, meas := none, starts := [], clampL := false, clampA := false, clampB := false,
    lastReading := none, drift := [], lineBatch := none, lastDrift := none, counts := {}, trigger := false,
    triggerLeft := 0, select := false }

/-- R114, R115. -/
def Wnd.reset : Wnd :=
  { spindleA := .empty, spindleB := .empty, lastWinding := none, active := none, planned := none, eMin := none,
    lastCut := none, plan := none, search := none, points := [], divert := true, transfer := none,
    pwm := Pwm.reset, torqueMark := 0, overlength := false, refusals := 0, lastRefusal := none, overlaps := 0, knife := none, turret := none }

/-- R147. -/
def Rlg.reset : Rlg := { log := [], nextSeq := 0, nextRoll := 1 }

/-- R150. -/
def Bat.reset : Bat :=
  { entries := Vector.replicate 32 { batch := none, used := false, changed := false }, nextCode := 1, lineBatch := none,
    lastAssign := none, overflows := 0 }

/-- R166. -/
def PrinterState.reset : PrinterState := { online := true, rejects := 0, timer := none, sent := [], lastFault := none }

/-- R166. -/
def Lbc.reset : Lbc :=
  { queue := [], channel := none, printerA := PrinterState.reset, printerB := PrinterState.reset, accepted := 0,
    rejections := 0, dropped := 0, jams := 0, timeouts := 0, unattached := 0 }

/-- R178. -/
def Lsc.reset : Lsc :=
  { job := none, lineState := .unconfigured, holdMask := none, latched := {}, reported := {}, runPermit := false,
    serviceGrant := false }

/-- A half of the Link Controller after a part reset, with the rate its straps give (R191, R192, R196). -/
def LinkHalf.reset (straps : BitVec 2) (mask : BitVec 11) : LinkHalf :=
  { rate := straps, rx := .hunt, gapTime := none, abandoned := 0, crcFail := 0, queueFull := 0, requests := [],
    replies := [], tx := none, slots := [], mask := mask, resetWait := false }

/-- R191, R192, R196: the Line Link has every notice kind enabled, the Service Link none. -/
def Lnk.reset (pins : Pins) : Lnk :=
  { line := LinkHalf.reset pins.strapLine (BitVec.allOnes 11), service := LinkHalf.reset pins.strapService 0 }

/-- The part right after a part reset that ends with its inputs at the given levels (R178 and the tables it names). -/
def State.resetWith (pins : Pins) (pending : List Instr) : State :=
  { pins := pins, wpu := Wpu.reset, trk := Trk.reset, msc := Msc.reset, rlp := Rlp.reset, stg := Stg.reset,
    emb := Emb.reset, shu := Shu.reset, wnd := Wnd.reset, rlg := Rlg.reset, bat := Bat.reset, lbc := Lbc.reset,
    lsc := Lsc.reset, lnk := Lnk.reset pins, pending := pending }

/-- The part right after reset, with an empty queue of commands. -/
def State.reset : State := State.resetWith Pins.low []

end Sys2Proof.Machine
end

