-- ==== Sys2Proof/Machine/Ops.lean ====
section
/-! DEFINITION. Operations that several blocks share: counts, hold causes, notices and the arbiter, PWM generators,
the nip, the line state, step channels, and access to the indexed parts of the state. -/

namespace Sys2Proof.Machine

/-! ### Arithmetic of the conventions (00_scope.md, 3.3) -/

/-- A count that stops at 65,535. -/
def satInc (n : Nat) : Nat := if n < Config.countLimit then n + 1 else n

/-- The quotient n / d rounded half away from zero. -/
def roundDiv (n : Int) (d : Nat) : Int :=
  n.sign * (((2 * n.natAbs + d) / (2 * d) : Nat) : Int)

/-- The least integer not below n / d. -/
def ceilDiv (n d : Nat) : Nat := (n + d - 1) / d

/-- A value brought into a..b. -/
def clamp (lo hi x : Int) : Int := if x < lo then lo else if hi < x then hi else x

/-! ### Hold causes (R183) -/

/-- Membership of a set of causes. -/
def Causes.has (c : Causes) : HoldCause → Bool
  | .encoder => c.encoder
  | .overspeed => c.overspeed
  | .refLost => c.refLost
  | .stationLost => c.stationLost
  | .overlength => c.overlength
  | .eventLost => c.eventLost
  | .headOffline => c.headOffline
  | .printerOffline => c.printerOffline
  | .host => c.host

/-- The set with one cause more. -/
def Causes.add (c : Causes) : HoldCause → Causes
  | .encoder => { c with encoder := true }
  | .overspeed => { c with overspeed := true }
  | .refLost => { c with refLost := true }
  | .stationLost => { c with stationLost := true }
  | .overlength => { c with overlength := true }
  | .eventLost => { c with eventLost := true }
  | .headOffline => { c with headOffline := true }
  | .printerOffline => { c with printerOffline := true }
  | .host => { c with host := true }

/-- The causes in both sets. -/
def Causes.inter (c d : Causes) : Causes :=
  { encoder := c.encoder && d.encoder, overspeed := c.overspeed && d.overspeed, refLost := c.refLost && d.refLost,
    stationLost := c.stationLost && d.stationLost, overlength := c.overlength && d.overlength,
    eventLost := c.eventLost && d.eventLost, headOffline := c.headOffline && d.headOffline,
    printerOffline := c.printerOffline && d.printerOffline, host := c.host && d.host }

/-- The causes of either set. -/
def Causes.union (c d : Causes) : Causes :=
  { encoder := c.encoder || d.encoder, overspeed := c.overspeed || d.overspeed, refLost := c.refLost || d.refLost,
    stationLost := c.stationLost || d.stationLost, overlength := c.overlength || d.overlength,
    eventLost := c.eventLost || d.eventLost, headOffline := c.headOffline || d.headOffline,
    printerOffline := c.printerOffline || d.printerOffline, host := c.host || d.host }

/-- The causes of c that d does not hold. -/
def Causes.minus (c d : Causes) : Causes :=
  { encoder := c.encoder && !d.encoder, overspeed := c.overspeed && !d.overspeed, refLost := c.refLost && !d.refLost,
    stationLost := c.stationLost && !d.stationLost, overlength := c.overlength && !d.overlength,
    eventLost := c.eventLost && !d.eventLost, headOffline := c.headOffline && !d.headOffline,
    printerOffline := c.printerOffline && !d.printerOffline, host := c.host && !d.host }

/-- No cause is in the set. -/
def Causes.isEmpty (c : Causes) : Bool := c == {}

/-! ### Reading the state -/

/-- A job runs: RUN, HOLD or ENDING (R15, R23, R85). -/
def State.running (s : State) : Bool :=
  match s.lsc.lineState with
  | .run | .hold | .ending => true
  | .unconfigured | .ready => false

/-- Reverse travel: the signed difference W − H is negative (R4). -/
def State.reverse (s : State) : Bool := decide (ahead s.wpu.w s.wpu.h < 0)

/-- H has reached a. -/
def State.at (s : State) (a : Count) : Bool := reached s.wpu.h a

/-- Run an operation that needs the job in force; without a job nothing happens. -/
def State.withJob (s : State) (f : Job → State) : State :=
  match s.lsc.job with
  | none => s
  | some j => f j

/-- What the RLP holds for station i. -/
def State.station (s : State) (i : StationId) : Station := s.rlp.stations[i]

/-- Store what the RLP holds for station i. -/
def State.putStation (s : State) (i : StationId) (x : Station) : State :=
  { s with rlp := { stations := s.rlp.stations.set i x } }

/-- Step channel c. -/
def State.chan (s : State) (c : ChannelId) : Channel := s.stg.channels[c]

/-- Store step channel c. -/
def State.putChan (s : State) (c : ChannelId) (x : Channel) : State :=
  { s with stg := { channels := s.stg.channels.set c x } }

/-- The half of the Link Controller that serves link l. -/
def State.half (s : State) : LinkId → LinkHalf
  | .line => s.lnk.line
  | .service => s.lnk.service

/-- Store the half that serves link l. -/
def State.putHalf (s : State) (l : LinkId) (x : LinkHalf) : State :=
  match l with
  | .line => { s with lnk := { s.lnk with line := x } }
  | .service => { s with lnk := { s.lnk with service := x } }

/-- The state of a printer. -/
def State.printer (s : State) : Printer → PrinterState
  | .a => s.lbc.printerA
  | .b => s.lbc.printerB

/-- Store the state of a printer. -/
def State.putPrinter (s : State) (p : Printer) (x : PrinterState) : State :=
  match p with
  | .a => { s with lbc := { s.lbc with printerA := x } }
  | .b => { s with lbc := { s.lbc with printerB := x } }

/-- The level of a printer's READY input. -/
def State.readyLevel (s : State) : Printer → Bool
  | .a => s.pins.readyA
  | .b => s.pins.readyB

/-- The state of a spindle. -/
def State.spindle (s : State) : Spindle → SpindleState
  | .a => s.wnd.spindleA
  | .b => s.wnd.spindleB

/-- Store the state of a spindle. -/
def State.putSpindle (s : State) (k : Spindle) (x : SpindleState) : State :=
  match k with
  | .a => { s with wnd := { s.wnd with spindleA := x } }
  | .b => { s with wnd := { s.wnd with spindleB := x } }

/-- Change every record of one index (R10: a record that has left the track is changed by nothing). -/
def State.updateRecord (s : State) (index : BitVec 32) (f : RepeatRecord → RepeatRecord) : State :=
  { s with trk := { s.trk with records := s.trk.records.map fun r => if r.index = index then f r else r } }

/-- Change the roll log entry with one sequence number; an entry that has left the log is changed by nothing (R137). -/
def State.updateEntry (s : State) (seq : BitVec 32) (f : Entry → Entry) : State :=
  { s with rlg := { s.rlg with log := s.rlg.log.map fun e => if e.seq = seq then f e else e } }

/-- Change the entry open at the knife: the entry of the active segment (R114, R137). -/
def State.updateOpenEntry (s : State) (f : Entry → Entry) : State :=
  match s.wnd.active with
  | none => s
  | some g => s.updateEntry g.seq f

/-- The station's kind is RESIDENT. -/
def Station.isResident (x : Station) : Bool :=
  match x.desc with
  | .resident _ => true
  | _ => false

/-- The station's kind is INDIRECT. -/
def Station.isIndirect (x : Station) : Bool :=
  match x.desc with
  | .indirect _ => true
  | _ => false

/-- The reference station, when there is one (R42: a running job has exactly one). -/
def State.referenceStation (s : State) : Option StationId :=
  (List.finRange 8).find? fun i => (s.station i).desc == .reference

/-- Every engaged RESIDENT station in LOST makes the STATION_LOST condition (R60). -/
def State.stationLostCond (s : State) : Bool :=
  (List.finRange 8).any fun i => (s.station i).isResident && (s.station i).engaged && (s.station i).st == .lost

/-- The PRINTER_OFFLINE condition: at least one printer is OFFLINE (R172). -/
def State.printerOfflineCond (s : State) : Bool := !s.lbc.printerA.online || !s.lbc.printerB.online

/-- The hold-cause conditions present (R183). HOST is present while it is latched (DEDUCED: notes/assumptions/12.md). -/
def State.conditions (s : State) : Causes :=
  { encoder := s.wpu.encoderCond, overspeed := s.wpu.overspeedCond, refLost := s.msc.refState == .lost,
    stationLost := s.stationLostCond, overlength := s.wnd.overlength, eventLost := s.trk.eventLost,
    headOffline := s.shu.head == .offline, printerOffline := s.printerOfflineCond, host := s.lsc.latched.host }

/-- An entry that RELEASE_ENTRIES may remove: CLOSED with label state NONE, APPLIED or MISSING (R145). -/
def Entry.releasable (e : Entry) : Bool :=
  e.state == .closed && (e.label == .none || e.label == .applied || e.label == .missing)

/-! ### Notices and the arbiter (R195, R196) -/

/-- The bit of a notice's kind: its code is 0x60 plus this. -/
def Notice.kindIndex : Notice → Nat
  | .lineState => 0
  | .stationAlarm _ => 1
  | .embossAlarm => 2
  | .eventListFull => 3
  | .shadeDrift => 4
  | .labelFault _ => 5
  | .headFault => 6
  | .shadeWarning => 7
  | .rollsClosed => 8
  | .batchChanged => 9
  | .logSpace => 10

/-- The subject byte of a notice: 255 when it has none. -/
def Notice.subject : Notice → Nat
  | .stationAlarm i => i
  | .labelFault .a => 0
  | .labelFault .b => 1
  | _ => 255

/-- High priority: the kinds 0x60 to 0x66. -/
def Notice.isHigh (n : Notice) : Bool := decide (n.kindIndex ≤ 6)

/-- The order among pending notices of one priority: lowest kind, then lowest subject. -/
def Notice.rank (n : Notice) : Nat := 256 * n.kindIndex + n.subject

/-- The notice that comes first in that order. -/
def Notice.pick : List Notice → Option Notice
  | [] => none
  | n :: ns =>
    match Notice.pick ns with
    | none => some n
    | some m => if m.rank < n.rank then some m else some n

/-- A notice raised on one link: its slot becomes pending if the kind is enabled; a pending slot takes it in. -/
def LinkHalf.raise (h : LinkHalf) (n : Notice) : LinkHalf :=
  if h.mask.getLsbD n.kindIndex && !(h.slots.contains n) then { h with slots := h.slots ++ [n] } else h

/-- A block raises a notice on both links. -/
def State.raiseNotice (s : State) (n : Notice) : State :=
  { s with lnk := { line := s.lnk.line.raise n, service := s.lnk.service.raise n } }

/-- The content of a notice, from its owner's state as it stands. Where no CLOSED entry is left (ROLLS_CLOSED) or the log is
empty (LOG_SPACE), the entry is absent, and it cannot be released (DESIGN CHOICE: notes/assumptions/45.md). STATION_ALARM of a
station that is not RESIDENT, as the REFERENCE station of R30, carries the station state absent and its flag set as always
present, which at a REFERENCE station is empty (DESIGN CHOICE: notes/assumptions/49.md). -/
def State.noticeBody (s : State) : Notice → NoticeBody
  | .lineState => .lineState s.lsc.lineState s.lsc.latched s.conditions s.lsc.runPermit s.lsc.reported
  | .stationAlarm i =>
    .stationAlarm (if (s.station i).isResident then some (s.station i).st else none) (s.station i).flags
  | .embossAlarm => .embossAlarm s.emb.nip s.emb.reg s.emb.missCount s.emb.lateCount s.emb.flags
  | .eventListFull => .eventListFull
  | .shadeDrift | .shadeWarning => .drift s.shu.lastDrift (s.shu.lineBatch.map LineBatch.code)
  | .labelFault p =>
    .labelFault (s.printer p).online (s.readyLevel p) (s.printer p).rejects (s.printer p).lastFault
      (s.lbc.queue.countP fun x => x.printer == p) (s.printer p).sent.length
  | .headFault => .headFault s.shu.head s.shu.faultCount
  | .rollsClosed =>
    .rollsClosed (s.rlg.log.countP fun e => e.state == .closed)
      ((s.rlg.log.reverse.find? fun e => e.state == .closed).map Entry.seq) (Config.logCap - s.rlg.log.length)
  | .batchChanged =>
    .batchChanged (s.bat.entries.toList.countP fun e => e.batch.isNone)
      (s.bat.entries.toList.countP fun e => e.batch.any Batch.isOpen)
      (s.bat.entries.toList.countP fun e => e.batch.any fun b => !b.isOpen)
      (s.bat.entries.toList.countP fun e => e.used || e.changed) s.bat.nextCode s.bat.lastAssign s.bat.overflows
  | .logSpace =>
    .logSpace (Config.logCap - s.rlg.log.length) (s.rlg.log.head?.map Entry.seq) (s.rlg.log.head?.any Entry.releasable)

/-- The arbiter of link l at a frame boundary: an idle transmitter takes the first high-priority notice, else the oldest
reply, else the first low-priority notice (R195). -/
def State.sendNext (s : State) (l : LinkId) : State :=
  let h := s.half l
  match h.tx with
  | some _ => s
  | none =>
    match Notice.pick (h.slots.filter Notice.isHigh) with
    | some n => s.putHalf l { h with tx := some (.notice n (s.noticeBody n)), slots := h.slots.erase n }
    | none =>
      match h.replies with
      | r :: rs => s.putHalf l { h with tx := some (.reply r), replies := rs }
      | [] =>
        match Notice.pick h.slots with
        | some n => s.putHalf l { h with tx := some (.notice n (s.noticeBody n)), slots := h.slots.erase n }
        | none => s

/-- The end of every event: each link's arbiter sees what the event made pending (R195; notes/assumptions/5.md). -/
def State.endOfEvent (s : State) : State := (s.sendNext .line).sendNext .service

/-! ### PWM generators (R83) -/

/-- A duty is set: 0 takes effect at once, any other at the start of the next period. -/
def Pwm.setTo (p : Pwm) (duty : Nat) : Pwm :=
  if duty = 0 then { p with setDuty := 0, duty := 0 } else { p with setDuty := duty }

/-- A period value and a prescale are set: they take effect at the start of the next period. -/
def Pwm.configure (p : Pwm) (period prescale : Nat) : Pwm :=
  { p with nextPeriod := period, nextPrescale := prescale }

/-- The next period begins. -/
def Pwm.newPeriod (p : Pwm) : Pwm :=
  { p with period := p.nextPeriod, prescale := p.nextPrescale, duty := p.setDuty, cycle := 0 }

/-- The cycles of a period: (P + 1) × 4 × prescale. -/
def Pwm.length (p : Pwm) : Nat := (p.period + 1) * 4 * p.prescale

/-- The output: high for the first D × prescale cycles of the period, and continuously with D ≥ 4 × (P + 1), also in the
cycle in which the next period is about to begin. -/
def Pwm.output (p : Pwm) : Bool := decide (4 * (p.period + 1) ≤ p.duty) || decide (p.cycle < p.duty * p.prescale)

/-- The level of a line that a selection drives: low, or shifting the selection's bits, whose timing is left out
(notes/assumptions/9.md). -/
inductive LineLevel where
  | low | shifting
deriving DecidableEq, Repr

/-! ### The nip (R76 to R78) -/

/-- The close conditions that fail at this moment (R77). With no job in force R97 does not say which fail: emboss then fails
as not enabled, and the speed condition holds (DESIGN CHOICE: notes/assumptions/47.md). -/
def State.closeFails (s : State) : CloseFails :=
  { notRun := s.lsc.lineState != .run
    disabled := !(s.lsc.job.any Job.embossOn)
    hostLift := s.emb.hostLift
    zone := s.emb.zoneActive
    eventLost := s.trk.eventLost
    slow := s.lsc.job.any fun j => decide (s.wpu.v < j.vMinEmboss) }

/-- Every close condition holds. -/
def State.mayClose (s : State) : Bool :=
  let f := s.closeFails
  !f.notRun && !f.disabled && !f.hostLift && !f.zone && !f.eventLost && !f.slow

/-- The nip begins to close: lift released, the job's pressure duty, engage timer started. -/
def State.nipEngage (s : State) (j : Job) : State :=
  { s with emb := { s.emb with nip := .engaging, nipTime := some (j.engageMs * Config.cyclesPerMs), closedSince := none,
                               pwm := s.emb.pwm.setTo j.pressure } }

/-- The nip begins to lift: lift asserted, pressure duty 0 at once, lift timer started, closed-since removed. -/
def State.nipLift (s : State) : State :=
  { s with emb := { s.emb with nip := .lifting,
                               nipTime := some ((s.lsc.job.map Job.liftMs).getD 0 * Config.cyclesPerMs),
                               closedSince := none, pwm := s.emb.pwm.setTo 0 } }

/-- An evaluation of the close conditions (R77, R78). -/
def State.evaluateNip (s : State) : State :=
  match s.emb.nip with
  | .lifted => if s.mayClose then s.withJob s.nipEngage else s
  | .engaging | .closed => if s.mayClose then s else s.nipLift
  | .lifting => s

/-! ### The line state (R179, R183, R189) -/

/-- Change the line state: notice LINE_STATE, and the EMB evaluates its close conditions, when it differs. -/
def State.setLineState (s : State) (x : LineState) : State :=
  if s.lsc.lineState = x then s
  else ({ s with lsc := { s.lsc with lineState := x } }.raiseNotice .lineState).evaluateNip

/-- Drive run-permit low (R188). -/
def State.dropPermit (s : State) : State := { s with lsc := { s.lsc with runPermit := false } }

/-- The hold mask allows the cause to latch. -/
def State.masked (s : State) (c : HoldCause) : Bool := s.lsc.holdMask.any fun m => m.has c

/-- The cause joins the reported causes. -/
def State.report (s : State) (c : HoldCause) : State :=
  { s with lsc := { s.lsc with reported := s.lsc.reported.add c } }

/-- The cause joins the latched causes. -/
def State.latch (s : State) (c : HoldCause) : State :=
  { s with lsc := { s.lsc with latched := s.lsc.latched.add c } }

/-- A hold cause is raised (R183). -/
def State.raiseCause (s : State) (c : HoldCause) : State :=
  if s.masked c then
    match s.lsc.lineState with
    | .run => ((s.latch c).dropPermit).setLineState .hold
    | .hold => if s.lsc.latched.has c then s else (s.latch c).raiseNotice .lineState
    | .ending =>
      if s.lsc.latched.has c then s.dropPermit else ((s.latch c).dropPermit).raiseNotice .lineState
    | .unconfigured | .ready => s.report c
  else s.report c

/-! ### Step channels (R66 to R68) -/

/-- Start a train of n steps on channel c; the direction is that of the correction's sign, high for retard. -/
def State.startTrain (s : State) (c : ChannelId) (n : Nat) (correction : Int) (rate : Nat) : State :=
  s.putChan c { s.chan c with
    inFlight := true, remaining := n, emitted := 0, retard := decide (0 < correction),
    period := 40000000 / rate, toStep := 40000000 / rate }

/-- Stop the train on channel c; a pulse already raised completes its high time (R68). -/
def State.stopTrain (s : State) (c : ChannelId) : State := s.putChan c { s.chan c with inFlight := false }

/-- The trim after an abort of a train with k of its n steps emitted (R55). -/
def prorate (note : TrainNote) (k n : Nat) : Int :=
  note.before + note.c.sign * ((note.c.natAbs * k / n : Nat) : Int)

/-- The step channel of a station. -/
def channelOf (i : StationId) : ChannelId := ⟨i.val, by omega⟩

/-- The step channel of the emboss motor. -/
def embossChannel : ChannelId := 8

end Sys2Proof.Machine
end

