-- ==== Sys2Proof/Machine/Flags.lean ====
section
/-! DEFINITION. The Correction Arithmetic Unit: its eight stages and their flags (03). It holds no state (R44). -/

namespace Sys2Proof.Machine

/-- The result of a computation: no train, or a train of steps with its commanded correction; and its flags (R52). -/
structure CauResult where
  train : Option (Nat × Int)
  flags : CauFlags
deriving DecidableEq, Repr

/-- Stage 1, the mean (R46). -/
def cauMean (samples : List Int) : Int :=
  let sum := samples.foldl (· + ·) 0
  sum.sign * (((sum.natAbs + samples.length / 2) / samples.length : Nat) : Int)

/-- Stages 3, 4 and 5: product, scale and direction (R48). -/
def cauCorrection (mean : Int) (gain : Nat) : Int :=
  let p := mean * gain
  0 - p.sign * (((p.natAbs + 2048) / 4096 : Nat) : Int)

/-- Stage 6, the step limit: the correction, and whether SATURATED is set (R49). -/
def cauStepLimit (c : Int) (limit : Nat) : Int × Bool :=
  if limit < c.natAbs then (c.sign * limit, true) else (c, false)

/-- Stage 7, the trim limit: the correction, and whether AT_LIMIT is set (R50). -/
def cauTrimLimit (c trim : Int) (limit : Nat) : Int × Bool :=
  if limit < (trim + c).natAbs then ((trim + c).sign * limit - trim, true) else (c, false)

/-- Stage 8, steps: the magnitude at the step ratio, rounded half up (R51). -/
def cauSteps (c : Int) (ratio : Nat) : Nat := (c.natAbs * ratio + 128) / 256

/-- Stages 6 to 8 on a correction: a follower conversion, and the end of a full computation (R49 to R53). -/
def cauFinish (c trim : Int) (stepLimit trimLimit ratio : Nat) : CauResult :=
  let c6 := cauStepLimit c stepLimit
  let c7 := cauTrimLimit c6.1 trim trimLimit
  let n := cauSteps c7.1 ratio
  if c7.2 && c7.1 == 0 then { train := none, flags := { saturated := c6.2, atLimit := true } }
  else if n = 0 then { train := none, flags := { saturated := c6.2, atLimit := c7.2, belowStep := true } }
  else { train := some (n, c7.1), flags := { saturated := c6.2, atLimit := c7.2 } }

/-- A full computation: stages 1 to 8 (R46 to R52). -/
def cauFull (samples : List Int) (trim : Int) (t : Tuning) : CauResult :=
  let m := cauMean samples
  if m.natAbs ≤ t.deadband then { train := none, flags := {} }
  else cauFinish (cauCorrection m t.gain) trim t.stepLimit t.trimLimit t.ratio

/-- The flags of a result latched into a channel's status (R72, R95). -/
def CauFlags.latch (held new : CauFlags) : CauFlags :=
  { saturated := held.saturated || new.saturated, atLimit := held.atLimit || new.atLimit,
    belowStep := held.belowStep || new.belowStep }

end Sys2Proof.Machine
end

