-- ==== Sys2Proof/Machine/EmbossOps.lean ====
section
/-! DEFINITION. Operations of the Emboss Controller (05): lift-zone coverage and lift checks, the window queue, register
state and correction, emboss status, and the job boundaries. -/

namespace Sys2Proof.Machine

/-! ### Lift zones (R79 to R81) -/

/-- The length of an event: that of the open DEFECT follows the web (R17). -/
def State.eventLength (s : State) (j : Job) (e : WebEvent) : Nat :=
  if e.isOpen then (ahead (fwd s.wpu.h j.uDef) e.datum).toNat else e.length

/-- A lifting event: a SPLICE, or a DEFECT when the job lifts on defects (R79). -/
def WebEvent.isLifting (j : Job) (e : WebEvent) : Bool :=
  match e.kind with
  | .splice => true
  | .defect => j.liftOnDefect
  | .operator => false

/-- Where the coverage of the nip by an event's zone begins (R79). -/
def coverBeginAt (j : Job) (e : WebEvent) : Count := fwd (back e.datum j.lead) j.dEm

/-- Where the coverage of the nip by an event's zone ends (R79). -/
def State.coverEndAt (s : State) (j : Job) (e : WebEvent) : Count :=
  fwd e.datum (s.eventLength j e + j.trail + j.dEm + 1)

/-- An event's coverage of the nip has fallen due to begin. -/
def State.coverBeginDue (s : State) (j : Job) (e : WebEvent) : Bool :=
  e.isLifting j && !e.joined && s.at (coverBeginAt j e) && (e.isOpen || !s.at (s.coverEndAt j e))

/-- Change the event at position n of the event list. -/
def State.modifyEvent (s : State) (n : Nat) (f : WebEvent → WebEvent) : State :=
  { s with trk := { s.trk with events := s.trk.events.modify n f } }

/-- The event at position n joins the coverage, and the nip lifts (R80). -/
def State.coverBegin (s : State) (j : Job) (n : Nat) : State :=
  match s.trk.events[n]? with
  | none => s
  | some e =>
    let stop := s.coverEndAt j e
    let release := if s.emb.zoneActive then (s.emb.release.map fun r => further r stop).getD stop else stop
    let held := e.isOpen || (s.emb.zoneActive && s.emb.heldOpen)
    let s := s.modifyEvent n fun e => { e with joined := true }
    { s with emb := { s.emb with zoneActive := true, release := some release, heldOpen := held } }.evaluateNip

/-- The coverage ends (R80). -/
def State.coverEnd (s : State) : State :=
  { s with emb := { s.emb with zoneActive := false, release := none, heldOpen := false } }.evaluateNip

/-- The open DEFECT, among the joined events, has closed: the release position is no longer held open (R80). -/
def State.coverClosed (s : State) (j : Job) (e : WebEvent) : State :=
  if e.joined && s.emb.zoneActive then
    let stop := s.coverEndAt j e
    { s with emb := { s.emb with
        release := some ((s.emb.release.map fun r => further r stop).getD stop), heldOpen := false } }
  else s

/-- A record covers the datums from its origin up to the next record's origin, the tail record up to its origin + L
(R22). -/
def recordCovering (L : Nat) : List RepeatRecord → Count → Option RepeatRecord
  | [], _ => none
  | [r], d => if reached d r.origin && !reached d (fwd r.origin L) then some r else none
  | r :: r' :: rs, d =>
    if reached d r.origin && !reached d r'.origin then some r else recordCovering L (r' :: rs) d

/-- The datum of the event at position n has reached the nip: a nip still LIFTING makes the lift late (R81). -/
def State.liftCheck (s : State) (j : Job) (n : Nat) : State :=
  match s.trk.events[n]? with
  | none => s
  | some e =>
    if s.emb.nip = .lifting then
      let s := s.modifyEvent n fun e => { e with checked := true, liftLate := true }
      let s :=
        match recordCovering j.L s.trk.records e.datum with
        | none => s
        | some r => s.updateRecord r.index fun r => { r with liftLate := true }
      { s with emb := { s.emb with lateCount := satInc s.emb.lateCount, lastLate := some (e.kind, e.datum) } }.raiseNotice
        .embossAlarm
    else s.modifyEvent n fun e => { e with checked := true }

/-- An event's lift check has fallen due: its datum is at the nip and its coverage has begun (R81). -/
def State.liftCheckDue (s : State) (j : Job) (e : WebEvent) : Bool :=
  e.isLifting j && !e.checked && s.at (fwd e.datum j.dEm) && !s.coverBeginDue j e

/-! ### Index windows, register state and correction (R84 to R90) -/

/-- A record appended to the track adds its expected window (R84). -/
def State.addWindow (s : State) (j : Job) (r : RepeatRecord) : State :=
  if j.embossOn && r.index.toNat % j.k == j.phaseSelect then
    { s with emb := { s.emb with windows := s.emb.windows ++
        [{ index := r.index, kind := r.kind, expected := fwd r.origin (j.dEm + j.oEm), sample := none }] } }
  else s

/-- A window contains the count x (R84). -/
def EmbWindow.contains (j : Job) (w : EmbWindow) (x : Count) : Bool :=
  decide ((ahead x w.expected).natAbs ≤ j.wEm)

/-- Where a window expires (R86). -/
def EmbWindow.expiresAt (j : Job) (w : EmbWindow) : Count := fwd w.expected (j.wEm + 1)

/-- Flags of a CAU result are latched into the emboss status; AT_LIMIT raises EMBOSS_ALARM (R95). -/
def State.latchEmboss (s : State) (flags : CauFlags) : State :=
  let s := { s with emb := { s.emb with flags := s.emb.flags.latch flags } }
  if flags.atLimit then s.raiseNotice .embossAlarm else s

/-- The emboss accumulator has filled: the CAU is called, and a train starts on channel 8 (R88). -/
def State.embossCompute (s : State) (j : Job) (samples : List Int) : State :=
  let r := cauFull samples s.emb.trim j.emboss
  let s := { s with emb := { s.emb with acc := [] } }
  let s := s.latchEmboss r.flags
  match r.train with
  | none => s
  | some (n, c) =>
    { s with emb := { s.emb with
        train := some { before := s.emb.trim, c := c }, trim := s.emb.trim + c, lastC := some c,
        phase := .inFlight } }.startTrain embossChannel n c j.emboss.rate

/-- A sample is offered to the correction phase (R88, R89). -/
def State.embossOffer (s : State) (j : Job) (e : Int) (eligible : Bool) : State :=
  match s.emb.phase with
  | .inFlight => s
  | .settling => { s with emb := { s.emb with phase := .idle } }
  | .idle =>
    if eligible then
      let acc := s.emb.acc ++ [e]
      if acc.length < j.emboss.averaging then { s with emb := { s.emb with acc := acc } }
      else s.embossCompute j acc
    else s

/-- A sample of a window is taken by the register state and then by the correction phase (R85, R87, R88). -/
def State.embossSample (s : State) (j : Job) (w : EmbWindow) (e : Int) : State :=
  let eligible := (s.emb.reg == .inRegister || s.emb.reg == .offRegister) && w.kind == .marked
  let s := { s with emb := { s.emb with
    missCount := 0, reg := if e.natAbs ≤ j.tolEm then .inRegister else .offRegister, lastSample := some (e, w.index) } }
  s.embossOffer j e eligible

/-- A window was missed (R86, R87). -/
def State.embossMiss (s : State) (j : Job) : State :=
  let n := min (s.emb.missCount + 1) j.embossMissLimit
  let s := { s with emb := { s.emb with missCount := n } }
  if s.emb.reg != .lost && decide (j.embossMissLimit ≤ n) then
    { s with emb := { s.emb with reg := .lost, acc := [] } }.raiseNotice .embossAlarm
  else s

/-- Channel 8 has completed its train (R89). -/
def State.embossTrainDone (s : State) : State := { s with emb := { s.emb with phase := .settling, train := none } }

/-- The EMB aborts its train with prorating; an idle channel is left alone (R90). -/
def State.abortEmboss (s : State) : State :=
  let ch := s.chan embossChannel
  if ch.inFlight then
    let s := s.stopTrain embossChannel
    match s.emb.train with
    | none => { s with emb := { s.emb with phase := .idle } }
    | some note =>
      { s with emb := { s.emb with
          trim := prorate note ch.emitted (ch.emitted + ch.remaining), train := none, phase := .idle } }
  else s

/-! ### Emboss status (R91, R92) -/

/-- The emboss status of a record whose span's end reaches the nip (R91). -/
def State.embossMark (s : State) (j : Job) (r : RepeatRecord) : EmbossMark :=
  if !j.embossOn then .lifted
  else
    match s.emb.nip, s.emb.closedSince with
    | .closed, some c =>
      if 0 < ahead c (fwd r.origin j.dEm) then .lifted
      else
        match s.emb.reg with
        | .inRegister => .inRegister
        | .offRegister => .offRegister
        | .seeking | .lost => .unknown
    | _, _ => .lifted

/-- Write an emboss status that is not final yet (R10). -/
def RepeatRecord.markEmboss (r : RepeatRecord) (m : EmbossMark) : RepeatRecord :=
  if r.emboss = .notReached then { r with emboss := m } else r

/-- The first record whose span's end has reached the nip without its emboss status written, with the origin after it. -/
def embossWriteDue (s : State) (j : Job) : List RepeatRecord → Option RepeatRecord
  | r :: r' :: rs =>
    if r.emboss == .notReached && s.at (fwd r'.origin j.dEm) then some r else embossWriteDue s j (r' :: rs)
  | _ => none

/-! ### Job boundaries (R96) -/

/-- The EMB at START, its conditions not yet evaluated (R96). -/
def Emb.atStart (e : Emb) : Emb :=
  { e with hostLift := false, zoneActive := false, release := none, heldOpen := false,
           closedSince := if e.nip = .closed then e.closedSince else none,
           windows := [], reg := .seeking, missCount := 0, phase := .idle, acc := [], trim := 0, train := none,
           lastC := none, flags := {}, lateCount := 0, lastLate := none, lastSample := none }

/-- The EMB when a LOAD_JOB is taken (R76, R96). -/
def Emb.atLoad (e : Emb) (j : Job) : Emb :=
  { e with nip := .lifted, nipTime := none, closedSince := none, zoneActive := false, release := none,
           heldOpen := false, windows := [], reg := .seeking, missCount := 0, phase := .idle, acc := [], trim := 0,
           train := none, lastC := none, flags := {}, lateCount := 0, lastLate := none, lastSample := none,
           pwm := (e.pwm.setTo 0).configure j.pressurePeriod j.pressurePrescale }

/-- The EMB at the return to READY, its train stopped (R96). -/
def Emb.atReturn (e : Emb) : Emb :=
  { e with zoneActive := false, release := none, heldOpen := false, windows := [], reg := .seeking, missCount := 0,
           phase := .idle, acc := [] }

end Sys2Proof.Machine
end

