-- ==== Sys2Proof/Machine/ShadeOps.lean ====
section
/-! DEFINITION. Operations of the Shade Unit (06): scheduling, the measurement cycle, the line batch, the drift window
and the job boundaries. -/

namespace Sys2Proof.Machine

/-! ### Shade distance (R108) -/

/-- The squared distance of two shades. -/
def shadeDist2 (x y : Shade) : Nat :=
  (x.l - y.l).natAbs ^ 2 + (x.a - y.a).natAbs ^ 2 + (x.b - y.b).natAbs ^ 2

/-- The warning threshold t_w = floor(tol_b × w / 100). -/
def Job.warnAt (j : Job) : Nat := j.tolB * j.warn / 100

/-! ### The line batch (R109, R157) -/

/-- The Batch Table reports the line batch: a change of it empties the drift window. A held code names its entry, since
no two entries hold one code (R153). -/
def State.reportLineBatch (s : State) (b : Option LineBatch) : State :=
  if s.shu.lineBatch = b then s else { s with shu := { s.shu with lineBatch := b, drift := [] } }

/-! ### Scheduling (R100, R101) -/

/-- A record whose shade state is PENDING joins the start list as it is appended (R100). -/
def State.addStart (s : State) (j : Job) (r : RepeatRecord) : State :=
  if r.shadeState = .pending then
    { s with shu := { s.shu with starts := s.shu.starts ++ [(r.index, fwd r.origin (j.dSh + j.oSh))] } }
  else s

/-- Write a shade state that is not final yet (R10). -/
def RepeatRecord.putShade (r : RepeatRecord) (x : ShadeState) (reading : Option Shade) : RepeatRecord :=
  if r.shadeState = .pending then { r with shadeState := x, shade := reading } else r

/-- The record of an index is in the track with its shade state PENDING. -/
def State.shadePending (s : State) (index : BitVec 32) : Bool :=
  s.trk.records.any fun r => r.index == index && r.shadeState == .pending

/-- A measurement starts for a record (R98, R102). -/
def State.startMeasurement (s : State) (j : Job) (index : BitVec 32) : State :=
  { s with shu := { s.shu with
      head := .acquiring, trigger := true, triggerLeft := Config.triggerPulse,
      meas := some { index := index, trigPos := s.wpu.h, since := 0, smeared := false,
                     timeout := some (j.acquisitionUs * Config.cyclesPerUs + j.headTimeoutMs * Config.cyclesPerMs) },
      counts := { s.shu.counts with started := satInc s.shu.counts.started } } }

/-- H has reached the start point at the head of the start list (R101). -/
def State.startPoint (s : State) (j : Job) (index : BitVec 32) (rest : List (BitVec 32 × Count)) : State :=
  let s := { s with shu := { s.shu with starts := rest } }
  match s.shu.head with
  | .idle => s.startMeasurement j index
  | .acquiring | .reading =>
    let s := s.updateRecord index fun r => r.putShade .skipped none
    { s with shu := { s.shu with counts := { s.shu.counts with skipped := satInc s.shu.counts.skipped } } }
  | .offline =>
    let s := s.updateRecord index fun r => r.putShade .absent none
    { s with shu := { s.shu with counts := { s.shu.counts with notStarted := satInc s.shu.counts.notStarted } } }

/-! ### The drift window (R110, R111) -/

/-- The mean of the window's readings, each channel rounded half away from zero. -/
def driftMean (window : List Shade) : Shade :=
  { l := roundDiv (window.foldl (fun n x => n + x.l) 0) Config.driftCap
    a := roundDiv (window.foldl (fun n x => n + x.a) 0) Config.driftCap
    b := roundDiv (window.foldl (fun n x => n + x.b) 0) Config.driftCap }

/-- The comparison of the window with the line batch. -/
def driftCompare (j : Job) (window : List Shade) (b : LineBatch) : DriftComparison :=
  let mean := driftMean window
  let d2 := shadeDist2 mean b.ref
  { mean := mean, d2 := d2,
    verdict := if j.tolB ^ 2 < d2 then .drift else if j.warnAt ^ 2 < d2 then .warning else .inside }

/-- The effects of a comparison's verdict. -/
def State.takeVerdict (s : State) (c : DriftComparison) : State :=
  let s := { s with shu := { s.shu with lastDrift := some c } }
  match c.verdict with
  | .drift =>
    (s.raiseNotice .shadeDrift).updateOpenEntry fun e => { e with flags := { e.flags with driftSeen := true } }
  | .warning => s.raiseNotice .shadeWarning
  | .inside => s

/-- A PRESENT reading is offered to the drift window, and a full window is compared with the line batch. -/
def State.offerReading (s : State) (j : Job) (x : Shade) : State :=
  let window := (if s.shu.drift.length < Config.driftCap then s.shu.drift else s.shu.drift.drop 1) ++ [x]
  let s := { s with shu := { s.shu with drift := window } }
  match s.shu.lineBatch with
  | none => s
  | some b => if window.length = Config.driftCap then s.takeVerdict (driftCompare j window b) else s

/-! ### The end of a measurement (R104, R105, R112) -/

/-- The head becomes IDLE, with no measurement in flight. -/
def State.headIdle (s : State) (faults : Nat) : State :=
  { s with shu := { s.shu with head := .idle, faultCount := faults, meas := none } }

/-- The bytes of a read within the span, as L, a and b before the clamp (R104). -/
def State.takeReading (s : State) (j : Job) (index : BitVec 32) (raw : Shade) : State :=
  let x : Shade := { l := clamp 0 10000 raw.l, a := clamp (-12800) 12700 raw.a, b := clamp (-12800) 12700 raw.b }
  let s := { s with shu := { s.shu with
    clampL := s.shu.clampL || x.l != raw.l, clampA := s.shu.clampA || x.a != raw.a,
    clampB := s.shu.clampB || x.b != raw.b } }
  if s.shadePending index then
    let s := s.updateRecord index fun r => r.putShade .present (some x)
    let s := { s with shu := { s.shu with
      lastReading := some (x, index), counts := { s.shu.counts with present := satInc s.shu.counts.present } } }
    s.offerReading j x
  else s

/-- The bytes of a smeared read are discarded (R104). -/
def State.takeSmeared (s : State) (index : BitVec 32) : State :=
  if s.shadePending index then
    let s := s.updateRecord index fun r => r.putShade .smeared none
    { s with shu := { s.shu with counts := { s.shu.counts with smeared := satInc s.shu.counts.smeared } } }
  else s

/-- The sixth byte of the read is in: the head select is released, and a head in READING finishes its measurement
(R98, R104). The bytes of an abandoned read are discarded (R112); but where a new measurement has been answered meanwhile,
the read that completes ends the new one (DESIGN CHOICE: notes/assumptions/43.md). -/
def State.readDone (s : State) (j : Job) (raw : Shade) : State :=
  let s := { s with shu := { s.shu with select := false } }
  match s.shu.head, s.shu.meas with
  | .reading, some m =>
    let s := s.headIdle 0
    if m.smeared then s.takeSmeared m.index else s.takeReading j m.index raw
  | _, _ => s

/-- The timeout timer of the measurement in flight expires in ACQUIRING (R105). -/
def State.headTimedOut (s : State) (m : Measurement) : State :=
  let s := s.updateRecord m.index fun r => r.putShade .absent none
  let s := { s with shu := { s.shu with
    meas := none, faultCount := s.shu.faultCount + 1,
    counts := { s.shu.counts with timedOut := satInc s.shu.counts.timedOut } } }
  if s.shu.faultCount < 3 then { s with shu := { s.shu with head := .idle } }
  else (({ s with shu := { s.shu with head := .offline } }).raiseNotice .headFault).raiseCause .headOffline

/-- The measurement in flight is abandoned; a read on the port runs to its sixth byte (R112). A TRIGGER still high stays
high to the end of its 10 µs (DESIGN CHOICE: notes/assumptions/42.md). -/
def State.abandonMeasurement (s : State) : State :=
  match s.shu.meas with
  | none => s
  | some m => (s.updateRecord m.index fun r => r.putShade .absent none).headIdle s.shu.faultCount

/-! ### The colour head port (R98) -/

/-- The levels at the outputs of the colour head port. -/
structure HeadPort where
  trigger : Bool
  select : Bool
  clock : LineLevel
  dataOut : LineLevel
deriving DecidableEq, Repr

/-- The outputs of the colour head port: TRIGGER, the head select, the clock, which runs while the head is selected, and
data-out, low during a read (R98). That the clock and data-out are low outside a read is DEDUCED:
notes/assumptions/38.md. -/
def State.headPort (s : State) : HeadPort :=
  { trigger := s.shu.trigger, select := s.shu.select, clock := if s.shu.select then .shifting else .low,
    dataOut := .low }

/-! ### Job boundaries (R99, R112) -/

/-- The SHU at START: the head state and the fault count are kept (R99). -/
def Shu.atStart (u : Shu) : Shu :=
  { u with meas := none, starts := [], clampL := false, clampA := false, clampB := false, lastReading := none,
           drift := [], lineBatch := none, lastDrift := none, counts := {} }

/-- The SHU at the return to READY: the measurement is abandoned and the start list emptied (R100, R112). -/
def State.shadeReturn (s : State) : State :=
  let s := s.abandonMeasurement
  { s with shu := { s.shu with starts := [] } }

end Sys2Proof.Machine
end

