-- ==== Sys2Proof/Machine/BatchOps.lean ====
section
/-! DEFINITION. Operations of the Batch Table (09): assignment, codes, closing, pinning, purging and reporting. -/

namespace Sys2Proof.Machine

/-! ### Codes (R153) -/

/-- Some OPEN or CLOSED entry holds the code. -/
def Bat.holds (b : Bat) (code : Nat) : Bool := b.entries.toList.any fun e => e.batch.any fun x => x.code == code

/-- The code after a code, 1 after 9,999. -/
def codeAfter (code : Nat) : Nat := if 9999 ≤ code then 1 else code + 1

/-- The first code from one code on, among n codes, that no entry holds. -/
def Bat.freeCode (b : Bat) : Nat → Nat → Nat
  | 0, code => code
  | n + 1, code => if b.holds code then b.freeCode n (codeAfter code) else code

/-! ### Entries -/

/-- Change entry i. -/
def Bat.put (b : Bat) (i : Fin 32) (e : BatchEntry) : Bat := { b with entries := b.entries.set i e }

/-- The first OPEN entry within the tolerance of a mean, in index order (R151). -/
def Bat.firstMatch (b : Bat) (tol2 : Nat) (mean : Shade) : Option (Fin 32) :=
  (List.finRange 32).find? fun i => b.entries[i].batch.any fun x => x.isOpen && decide (shadeDist2 mean x.ref ≤ tol2)

/-- The FREE entry of lowest index. -/
def Bat.firstFree (b : Bat) : Option (Fin 32) := (List.finRange 32).find? fun i => b.entries[i].batch.isNone

/-- The entry that holds a code. -/
def Bat.holder (b : Bat) (code : Nat) : Option (Fin 32) :=
  (List.finRange 32).find? fun i => b.entries[i].batch.any fun x => x.code == code

/-- Entry i becomes CLOSED, with its changed mark; a CLOSED or FREE entry is left as it is. A line batch that closes
becomes absent (R154, R155, R157, R159). -/
def Bat.close (b : Bat) (i : Fin 32) : Bat :=
  match b.entries[i].batch with
  | some x =>
    if x.isOpen then
      { b.put i { b.entries[i] with batch := some { x with isOpen := false }, changed := true } with
        lineBatch := if b.lineBatch = some i then none else b.lineBatch }
    else b
  | none => b

/-- Entry i is OPEN with a count at or above the rolls-per-batch limit. -/
def Bat.full (b : Bat) (i : Fin 32) (limit : Nat) : Bool :=
  b.entries[i].batch.any fun x => x.isOpen && decide (limit ≤ x.count)

/-- The line batch as the table reports it to the Shade Unit (R157). -/
def Bat.lineReport (b : Bat) : Option LineBatch :=
  match b.lineBatch with
  | none => none
  | some i => b.entries[i].batch.map fun x => { code := x.code, ref := x.ref }

/-! ### Assignment (R151 to R154, R156) -/

/-- A roll joins entry i (R151). -/
def Bat.join (b : Bat) (i : Fin 32) (x : Batch) (roll : Nat) : Bat :=
  { b.put i { b.entries[i] with batch := some { x with count := x.count + 1 }, used := true } with
    lastAssign := some { roll := roll, code := x.code, outcome := .joined }, lineBatch := some i }

/-- A roll opens the FREE entry i with its mean (R152, R153). -/
def Bat.openWith (b : Bat) (i : Fin 32) (roll : Nat) (mean : Shade) : Bat :=
  let code := b.freeCode 33 b.nextCode
  let b := b.put i { batch := some { isOpen := true, code := code, ref := mean, count := 1, pinned := false },
                     used := true, changed := true }
  { b with nextCode := b.freeCode 33 (codeAfter code), lineBatch := some i,
           lastAssign := some { roll := roll, code := code, outcome := .opened } }

/-- The rolls-per-batch limit closes an entry that has reached it (R154). -/
def Bat.applyLimit (b : Bat) (i : Fin 32) (limit : Nat) : Bat := if b.full i limit then b.close i else b

/-- An assignment that has joined or opened entry i: the limit is applied, BATCH_CHANGED raised where it is due, and
the line batch reported once (R152, R154, R157). -/
def State.settleAssign (s : State) (j : Job) (b : Bat) (i : Fin 32) (opened : Bool) : State :=
  let closed := b.full i j.rollsPerBatch
  let s := { s with bat := b.applyLimit i j.rollsPerBatch }
  let s := if opened || closed then s.raiseNotice .batchChanged else s
  s.reportLineBatch s.bat.lineReport

/-- The assignment of a closing roll's mean (R151, R152, R156): the state and the code given, 0 on overflow. -/
def State.assignBatch (s : State) (j : Job) (roll : Nat) (mean : Shade) : State × Nat :=
  match s.bat.firstMatch (j.tolB ^ 2) mean with
  | some i =>
    match s.bat.entries[i].batch with
    | some x => (s.settleAssign j (s.bat.join i x roll) i false, x.code)
    | none => (s, 0)
  | none =>
    match s.bat.firstFree with
    | some i => (s.settleAssign j (s.bat.openWith i roll mean) i true, s.bat.freeCode 33 s.bat.nextCode)
    | none =>
      ({ s with bat := { s.bat with
          lastAssign := some { roll := roll, code := 0, outcome := .overflow },
          overflows := satInc s.bat.overflows } }.raiseNotice .batchChanged, 0)

/-! ### Job boundaries (R150, R155) -/

/-- A LOAD_JOB that is taken closes every OPEN entry at or above the new limit (R155). -/
def State.batchLoad (s : State) (j : Job) : State :=
  let closes := (List.finRange 32).any fun i => s.bat.full i j.rollsPerBatch
  let s := { s with bat := (List.finRange 32).foldl (fun b i => b.applyLimit i j.rollsPerBatch) s.bat }
  let s := if closes then s.raiseNotice .batchChanged else s
  match s.bat.lineBatch with
  | some _ => s
  | none => s.reportLineBatch none

/-- The Batch Table at START (R150). -/
def Bat.atStart (b : Bat) : Bat := { b with lineBatch := none, overflows := 0 }

/-! ### Requests on the table (R159 to R163) -/

/-- CLOSE_BATCH of the entry i that holds the code (R159). -/
def State.closeBatchAt (s : State) (i : Fin 32) : State :=
  let was := s.bat.lineBatch
  let s := { s with bat := s.bat.close i }
  if was = some i && s.bat.lineBatch.isNone then s.reportLineBatch none else s

/-- What PIN_BATCH writes into its target entry (R160). -/
def pinEntry (e : BatchEntry) (code : Nat) (ref : Shade) : BatchEntry :=
  let count := match e.batch with
    | some x => if x.isOpen then x.count else 0
    | none => 0
  { e with batch := some { isOpen := true, code := code, ref := ref, count := count, pinned := true }, changed := true }

/-- PIN_BATCH on its target entry (R160, R157). -/
def State.pinAt (s : State) (i : Fin 32) (code : Nat) (ref : Shade) : State :=
  let s := { s with bat := s.bat.put i (pinEntry s.bat.entries[i] code ref) }
  if s.bat.lineBatch = some i then s.reportLineBatch s.bat.lineReport else s

/-- PURGE_BATCHES frees the entry (R161). -/
def BatchEntry.purgeable (e : BatchEntry) (includePinned : Bool) : Bool :=
  e.batch.any fun x => !x.isOpen && (!x.pinned || includePinned)

/-- PURGE_BATCHES over the indices first to last (R161). -/
def Bat.purge (b : Bat) (first last : Nat) (includePinned : Bool) : Bat :=
  { b with entries := Vector.ofFn fun i : Fin 32 =>
      if first ≤ i.val && i.val ≤ last && b.entries[i].purgeable includePinned then
        { b.entries[i] with batch := none, changed := true }
      else b.entries[i] }

/-- How many entries are FREE. -/
def Bat.freeCount (b : Bat) : Nat := b.entries.toList.countP fun e => e.batch.isNone

/-- The indices of the marked entries, lowest first (R162). -/
def Bat.marked (b : Bat) : List (Fin 32) :=
  (List.finRange 32).filter fun i => b.entries[i].used || b.entries[i].changed

/-- Both marks of an entry are cleared (R162). -/
def Bat.clearMarks (b : Bat) (i : Fin 32) : Bat := b.put i { b.entries[i] with used := false, changed := false }

/-- BATCH_REPORT's reply, built from the table as it stands (R162). -/
def Bat.report (b : Bat) : BatchReportReply :=
  { entries := (b.marked.take 16).map fun i => (i.val, b.entries[i]), stillMarked := b.marked.length - 16,
    nextCode := b.nextCode, lineBatch := b.lineBatch, lastAssign := b.lastAssign, overflows := b.overflows }

/-- The table after BATCH_REPORT: the marks of the reported entries are clear (R162). -/
def Bat.afterReport (b : Bat) : Bat := (b.marked.take 16).foldl Bat.clearMarks b

end Sys2Proof.Machine
end

