-- ==== Sys2Proof/Machine/Operands.lean ====
section
/-! DEFINITION. The operands of requests: reading payload fields (R199), and the field checks and records of LOAD_JOB
(R180), SET_STATION (R39, R41) and TUNE_STATION (R71). -/

namespace Sys2Proof.Machine

/-- A multi-byte number, high byte first (R199). -/
def beNat (bytes : List Byte) : Nat := bytes.foldl (fun n b => 256 * n + b.toNat) 0

/-- A number as n bytes, high byte first (R199). -/
def beBytes : Nat → Nat → List Byte
  | 0, _ => []
  | n + 1, x => BitVec.ofNat 8 (x / 256 ^ n) :: beBytes n x

/-- The bytes from an offset. -/
def slice (bytes : List Byte) (offset width : Nat) : List Byte := (bytes.drop offset).take width

/-- Numbers of the given widths, one after another. -/
def splitFields : List Nat → List Byte → List Nat
  | [], _ => []
  | w :: ws, bytes => beNat (bytes.take w) :: splitFields ws (bytes.drop w)

/-- lo ≤ x ≤ hi. -/
def within (lo hi x : Nat) : Bool := decide (lo ≤ x) && decide (x ≤ hi)

/-- The first failing check, by its field number. -/
def firstFailing : List (Nat × Bool) → Option Nat
  | [] => none
  | (number, ok) :: rest => if ok then firstFailing rest else some number

/-- A set of hold causes from its two bytes: bit i stands for the i-th cause of R183 (R199). -/
def causesOf (x : Nat) : Causes :=
  { encoder := x.testBit 0, overspeed := x.testBit 1, refLost := x.testBit 2, stationLost := x.testBit 3,
    overlength := x.testBit 4, eventLost := x.testBit 5, headOffline := x.testBit 6, printerOffline := x.testBit 7,
    host := x.testBit 8 }

/-! ### LOAD_JOB (R180, 12.8) -/

/-- The bytes of LOAD_JOB's field number i (12.8). -/
def jobWidth (i : Nat) : Nat :=
  if [4, 7, 28, 29, 30, 31, 32, 36, 49, 50, 52, 64, 67, 69, 71].contains i then 4
  else if [5, 8, 9, 10, 37, 38, 40, 41, 42, 43, 44, 45, 47, 48, 53, 57, 58, 60, 61, 63, 66, 68, 72, 76, 77, 78, 79].contains i
  then 2
  else 1

/-- LOAD_JOB's fields 4 to 80 as numbers. -/
def jobNumbers (payload : List Byte) : List Nat :=
  splitFields ((List.range 77).map fun i => jobWidth (i + 4)) (payload.drop 24)

/-- LOAD_JOB's field number i, for i of 4 to 80. -/
def jobField (numbers : List Nat) (i : Nat) : Nat := numbers.getD (i - 4) 0

/-- A character of the job record: 0x20..0x7E. -/
def isText (b : Byte) : Bool := within 0x20 0x7E b.toNat

/-- The four checks of the gate whose fields begin at number i: enabled, base, mask, role. -/
def gateChecks (f : Nat → Nat) (i : Nat) : List (Nat × Bool) :=
  [(i, within 0 1 (f i)), (i + 1, within 0 255 (f (i + 1))), (i + 2, within 0 255 (f (i + 2))),
   (i + 3, within 0 2 (f (i + 3)))]

/-- A prescale: 1, 4 or 16, carried as that number (DEDUCED: notes/assumptions/10.md). -/
def isPrescale (x : Nat) : Bool := x == 1 || x == 4 || x == 16

/-- Every field of the job record with its range and constraint, in field-number order (R180). -/
def jobChecks (payload : List Byte) : List (Nat × Bool) :=
  let f := jobField (jobNumbers payload)
  let L := f 5
  [(1, (slice payload 0 8).all isText),
   (2, (slice payload 8 4).all isText),
   (3, (slice payload 12 12).all isText),
   (4, within 1 999999999 (f 4)),
   (5, within 2000 65000 L),
   (6, within 0 1 (f 6) && (f 6 != 1 || L % 2 == 0)),
   (7, within 10000 300000 (f 7)),
   (8, within 0 511 (f 8)),
   (9, within 10 (L / 8) (f 9)),
   (10, within 10 2000 (f 10)),
   (11, within 1 8 (f 11))]
  ++ gateChecks f 12 ++ gateChecks f 16 ++ gateChecks f 20 ++ gateChecks f 24 ++
  [(28, within 0 3000000 (f 28)),
   (29, within 0 3000000 (f 29)),
   (30, within L 3000000 (f 30) && decide (f 30 ≤ 254 * L) && decide (f 29 < f 30)),
   (31, within 0 3000000 (f 31)),
   (32, within 0 3000000 (f 32)),
   (33, within 0 1 (f 33)),
   (34, within 1 4 (f 34)),
   (35, decide (f 35 < f 34)),
   (36, decide (f 36 < f 34 * L)),
   (37, within 10 16000 (f 37)),
   (38, within 1 4000 (f 38)),
   (39, within 1 8 (f 39)),
   (40, within 0 8191 (f 40)),
   (41, within 0 1000 (f 41)),
   (42, within 1 4000 (f 42)),
   (43, within 1 30000 (f 43)),
   (44, within 1 4096 (f 44)),
   (45, within 100 50000 (f 45)),
   (46, within 1 8 (f 46)),
   (47, within 50 2000 (f 47)),
   (48, within 50 2000 (f 48)),
   (49, within 0 500000 (f 49)),
   (50, within 0 500000 (f 50)),
   (51, within 0 1 (f 51)),
   (52, within 0 (f 7) (f 52)),
   (53, within 0 1023 (f 53)),
   (54, within 0 255 (f 54)),
   (55, isPrescale (f 55))] ++
  [(56, within 1 64 (f 56)),
   (57, decide (f 57 < L) && decide (f 28 + f 57 < f 30)),
   (58, within 200 20000 (f 58)),
   (59, within 1 100 (f 59)),
   (60, within 100 L (f 60)),
   (61, within 1 1000 (f 61)),
   (62, within 50 100 (f 62)),
   (63, within 1 65535 (f 63)),
   (64, within 100000 10000000 (f 64)),
   (65, within 0 1 (f 65)),
   (66, decide (f 66 < L)),
   (67, within 10000 (f 64) (f 67)),
   (68, within 200 5000 (f 68) && decide (f 7 * f 68 / 1000 < f 67)),
   (69, within 0 2000000 (f 69)),
   (70, within 0 1 (f 70)),
   (71, within 0 500000 (f 71)),
   (72, within 0 1023 (f 72)),
   (73, within 0 50 (f 73)),
   (74, within 0 255 (f 74)),
   (75, isPrescale (f 75)),
   (76, within 0 65535 (f 76)),
   (77, within 0 65535 (f 77)),
   (78, within 0 65535 (f 78)),
   (79, within 0 65535 (f 79)),
   (80, within 0 1 (f 80))]

/-- The first failing field of a job record, if any (R180). -/
def jobFails (payload : List Byte) : Option Nat := firstFailing (jobChecks payload)

/-- The gate whose fields begin at number i. -/
def gateOf (f : Nat → Nat) (i : Nat) : Gate :=
  { enabled := f i == 1, base := BitVec.ofNat 8 (f (i + 1)), mask := BitVec.ofNat 8 (f (i + 2)),
    role := if f (i + 3) = 0 then .ref else if f (i + 3) = 1 then .marks else .both }

/-- The job record that a payload carries (R180, R199). HOST is always taken into the mask. -/
def jobOf (payload : List Byte) : Job :=
  let f := jobField (jobNumbers payload)
  { design := slice payload 0 8, colourway := slice payload 8 4, lotText := slice payload 12 12,
    firstRoll := f 4, L := f 5, matchType := if f 6 = 0 then .straight else .drop, vMax := f 7,
    mask := (causesOf (f 8)).add .host, wRef := f 9, wMark := f 10, refMissLimit := f 11,
    gates := #v[gateOf f 12, gateOf f 16, gateOf f 20, gateOf f 24],
    dSh := f 28, dEm := f 29, dCut := f 30, uSpl := f 31, uDef := f 32,
    embossOn := f 33 == 1, k := f 34, phaseSelect := f 35, oEm := f 36, wEm := f 37, tolEm := f 38,
    emboss := { averaging := f 39, gain := f 40, deadband := f 41, stepLimit := f 42, trimLimit := f 43, ratio := f 44,
                rate := f 45 },
    embossMissLimit := f 46, engageMs := f 47, liftMs := f 48, lead := f 49, trail := f 50, liftOnDefect := f 51 == 1,
    vMinEmboss := f 52, pressure := f 53, pressurePeriod := f 54, pressurePrescale := f 55,
    sampleInterval := f 56, oSh := f 57, acquisitionUs := f 58, headTimeoutMs := f 59, spanLimit := f 60,
    tolB := f 61, warn := f 62, rollsPerBatch := f 63,
    lt := f 64, cutMode := if f 65 = 0 then .length else .matched, cutOffset := f 66, minRoll := f 67,
    transferMs := f 68, maxOver := f 69, splicePolicy := if f 70 = 0 then .mark else .remove, clearance := f 71,
    d0 := f 72, taper := f 73, torquePeriod := f 74, torquePrescale := f 75,
    rejReg := f 76, bReg := f 77, bUnknown := f 78, rejEmb := f 79, rejectOnSplice := f 80 == 1 }

/-- The transfer distance D_tr = floor(v_max × T_tr / 1,000) (R118, R180). -/
def Job.dTr (j : Job) : Nat := j.vMax * j.transferMs / 1000

/-! ### SET_STATION and TUNE_STATION (R39, R41, R71) -/

/-- The widths of SET_STATION's fields 1 to 14 (12.8). -/
def stationWidths : List Nat := [1, 1, 1, 2, 4, 2, 2, 1, 2, 2, 2, 2, 1, 2]

/-- SET_STATION's field number i. -/
def stationField (payload : List Byte) (i : Nat) : Nat := (splitFields stationWidths payload).getD (i - 1) 0

/-- The checks of the fields that only a RESIDENT descriptor holds, in field-number order up to 8. -/
def residentChecks (f : Nat → Nat) (L : Nat) : List (Nat × Bool) :=
  [(4, decide (f 4 < L)), (5, within 0 3000000 (f 5)), (6, within 0 8191 (f 6)), (7, within 0 1000 (f 7)),
   (8, within 1 8 (f 8))]

/-- The checks of the fields that RESIDENT and INDIRECT descriptors hold. -/
def driveChecks (f : Nat → Nat) : List (Nat × Bool) :=
  [(9, within 1 4000 (f 9)), (10, within 1 30000 (f 10)), (11, within 1 4096 (f 11)), (12, within 100 50000 (f 12))]

/-- SET_STATION's checks in field-number order, of the fields the kind holds (R41), against the L of the job. -/
def stationChecks (payload : List Byte) (L : Nat) : List (Nat × Bool) :=
  let f := stationField payload
  [(1, within 0 7 (f 1)), (2, within 0 3 (f 2))] ++
    (if f 2 = 1 then
      residentChecks f L ++ driveChecks f ++ [(13, within 1 15 (f 13)), (14, within 1 2000 (f 14))]
     else if f 2 = 2 then
      [(3, within 0 7 (f 3) && f 3 != f 1)] ++ driveChecks f
     else [])

/-- The descriptor that SET_STATION carries: the kind of field 2 and the fields it holds. -/
def descriptorOf (payload : List Byte) : Descriptor :=
  let f := stationField payload
  if f 2 = 0 then .reference
  else if f 2 = 1 then
    .resident { offset := f 4, settle := f 5,
                tuning := { averaging := f 8, gain := f 6, deadband := f 7, stepLimit := f 9, trimLimit := f 10,
                            ratio := f 11, rate := f 12 },
                missLimit := f 13, tol := f 14 }
  else if f 2 = 2 then
    .indirect { target := Fin.ofNat 8 (f 3), stepLimit := f 9, trimLimit := f 10, ratio := f 11, rate := f 12 }
  else .invalid

/-- TUNE_STATION's checks of fields 6, 7, 8 and 14 (R71). -/
def tuneChecks (gain deadband averaging tolerance : Nat) : List (Nat × Bool) :=
  [(6, within 0 8191 gain), (7, within 0 1000 deadband), (8, within 1 8 averaging), (14, within 1 2000 tolerance)]

/-- A station number of a request, when it is one. -/
def stationOf (b : Byte) : Option StationId := if h : b.toNat < 8 then some ⟨b.toNat, h⟩ else none

/-- A printer of a request: 0 for A, 1 for B (R199). -/
def printerOf (b : Byte) : Option Printer := if b = 0 then some .a else if b = 1 then some .b else none

end Sys2Proof.Machine
end

