-- ==== Sys2Proof/Machine/Layout.lean ====
section
/-! DEFINITION. Byte layouts and the CRC: the label record, the repeat record, the roll log entry, the batch entry and
the frame (R165, R191, R199). -/

namespace Sys2Proof.Machine

/-! ### CRC-16 (R191) -/

/-- One bit of a byte enters the register, most significant bit first. -/
def crcBit (crc : BitVec 16) (bit : Bool) : BitVec 16 :=
  if crc.msb != bit then (crc <<< 1) ^^^ 0x1021#16 else crc <<< 1

/-- One byte enters the register. -/
def crcByte (crc : BitVec 16) (b : Byte) : BitVec 16 :=
  [7, 6, 5, 4, 3, 2, 1, 0].foldl (fun c i => crcBit c (b.getLsbD i)) crc

/-- CRC-16 over bytes: generator x^16 + x^12 + x^5 + 1, initial value 0xFFFF (R165, R191). -/
def crc16 (bytes : List Byte) : BitVec 16 := bytes.foldl crcByte 0xFFFF#16

/-! ### Forms of values (R199) -/

/-- A signed number as n bytes in two's complement, high byte first. -/
def beSigned (n : Nat) (x : Int) : List Byte := beBytes n (BitVec.ofInt (8 * n) x).toNat

/-- One byte. -/
def byteOf (n : Nat) : Byte := BitVec.ofNat 8 n

/-- yes and no are 1 and 0. -/
def yesNo (b : Bool) : Nat := if b then 1 else 0

/-- Presence bits, bit 0 first, as a number. -/
def presence : List Bool → Nat
  | [] => 0
  | b :: bs => yesNo b + 2 * presence bs

/-- A shade triple: L, a, b, two bytes each. -/
def Shade.bytes (x : Shade) : List Byte := beSigned 2 x.l ++ beSigned 2 x.a ++ beSigned 2 x.b

/-- The bytes of a shade triple that may be absent. -/
def shadeBytes (x : Option Shade) : List Byte := (x.map Shade.bytes).getD (List.replicate 6 0)

/-- A number that may be absent, as n bytes. -/
def natBytes (n : Nat) (x : Option Nat) : List Byte := beBytes n (x.getD 0)

/-- The status codes (R193). -/
def Status.code : Status → Byte
  | .done => 0x00
  | .illegal => 0x01
  | .length => 0x02
  | .param => 0x03
  | .state => 0x04
  | .denied => 0x05
  | .busy => 0x06
  | .notFound => 0x07

/-! ### The label record (R165, 12.8) -/

/-- The code of a match type. -/
def MatchType.code : MatchType → Nat
  | .straight => 0
  | .drop => 1

/-- The code of a grade. -/
def Grade.code : Grade → Nat
  | .a => 0
  | .b => 1
  | .reject => 2

/-- The 46 bytes of a label record before its CRC. -/
def labelBody (j : Job) (e : Entry) : List Byte :=
  [0x5A] ++ beBytes 4 (e.roll.getD 0) ++ j.design ++ j.colourway ++ j.lotText ++ beBytes 2 (e.batch.getD 0) ++
    beBytes 4 ((e.length.getD 0 + 500) / 1000) ++ [byteOf ((e.grade.map Grade.code).getD 0), byteOf j.matchType.code] ++
    [byteOf (presence [e.kind == some .short, e.flags.unmeasured, e.flags.batchOverflow])] ++ List.replicate 8 0

/-- The label record of an entry under the job in force, its CRC over every byte before it (R165). -/
def labelRecord (j : Job) (e : Entry) : List Byte :=
  labelBody j e ++ beBytes 2 (crc16 (labelBody j e)).toNat

/-! ### The repeat record of a PROBE reply -/

/-- The code of an origin kind. -/
def OriginKind.code : OriginKind → Nat
  | .marked => 0
  | .flywheel => 1

/-- The code of a station outcome, with its sample. -/
def StationOutcome.bytes : StationOutcome → List Byte
  | .sample e => byteOf 0 :: beSigned 2 e
  | .missing => [1, 0, 0]
  | .ambiguous => [2, 0, 0]
  | .notEngaged => [3, 0, 0]
  | .notUsed => [4, 0, 0]
  | .absent => [5, 0, 0]

/-- The code of a register class. -/
def RegClass.code : RegClass → Nat
  | .pending => 0
  | .inside => 1
  | .outside => 2
  | .unknown => 3

/-- The code of a shade state. -/
def ShadeState.code : ShadeState → Nat
  | .notScheduled => 0
  | .pending => 1
  | .present => 2
  | .absent => 3
  | .skipped => 4
  | .smeared => 5

/-- The code of an emboss status. -/
def EmbossMark.code : EmbossMark → Nat
  | .notReached => 0
  | .lifted => 1
  | .inRegister => 2
  | .offRegister => 3
  | .unknown => 4

/-- The 55 bytes of a repeat record. -/
def RepeatRecord.bytes (r : RepeatRecord) : List Byte :=
  beBytes 4 r.index.toNat ++ beBytes 4 r.origin.toNat ++ [byteOf r.kind.code] ++
    r.outcomes.toList.flatMap StationOutcome.bytes ++ [byteOf r.cls.code] ++
    [byteOf (presence [r.worst.isSome, r.shade.isSome])] ++ beSigned 2 (r.worst.getD 0) ++ [byteOf r.shadeState.code] ++
    shadeBytes r.shade ++ [byteOf r.emboss.code] ++ [byteOf (presence [r.overflow, r.liftLate])] ++
    [byteOf r.points.length] ++ beBytes 4 ((r.points.map BitVec.toNat).getD 0 0) ++
    beBytes 4 ((r.points.map BitVec.toNat).getD 1 0)

/-! ### The roll log entry of a ROLL_READ reply -/

/-- The code of an entry state. -/
def EntryState.code : EntryState → Nat
  | .opened => 0
  | .cut => 1
  | .closed => 2

/-- The code of a role. -/
def Role.code : Role → Nat
  | .leadIn => 0
  | .roll => 1
  | .remove => 2
  | .tail => 3

/-- The code of a kind; "open" is 3. -/
def kindCode : Option EntryKind → Nat
  | some .roll => 0
  | some .short => 1
  | some .waste => 2
  | none => 3

/-- The code of a spindle; none is 2. -/
def spindleCode : Option Spindle → Nat
  | some .a => 0
  | some .b => 1
  | none => 2

/-- The code of a label state. -/
def LabelState.code : LabelState → Nat
  | .none => 0
  | .due => 1
  | .queued => 2
  | .sent => 3
  | .applied => 4
  | .missing => 5

/-- The 135 bytes of a roll log entry. -/
def Entry.bytes (e : Entry) : List Byte :=
  beBytes 4 e.seq.toNat ++ [byteOf e.state.code, byteOf e.role.code, byteOf (kindCode e.kind)] ++
    beBytes 2 (presence [e.stop.isSome, e.length.isSome, e.roll.isSome, e.firstIndex.isSome, e.lastIndex.isSome,
      e.worst.isSome, e.low.isSome, e.mean.isSome, e.spread2.isSome, e.batch.isSome, e.grade.isSome]) ++
    beBytes 4 e.start.toNat ++ beBytes 4 ((e.stop.map BitVec.toNat).getD 0) ++ natBytes 4 e.length ++
    [byteOf (spindleCode e.spindle)] ++ natBytes 4 e.roll ++
    beBytes 4 e.repeats ++ beBytes 4 ((e.firstIndex.map BitVec.toNat).getD 0) ++
    beBytes 4 ((e.lastIndex.map BitVec.toNat).getD 0) ++
    beBytes 4 e.inCount ++ beBytes 4 e.outCount ++ beBytes 4 e.unknownCount ++ beSigned 2 (e.worst.getD 0) ++
    beBytes 4 e.embIn ++ beBytes 4 e.embOff ++ beBytes 4 e.embLifted ++ beBytes 4 e.embUnknown ++
    beBytes 4 e.splices ++ beBytes 4 e.defects ++ beBytes 4 e.operators ++ beBytes 4 e.readings ++
    beSigned 8 e.sum.l ++ beSigned 8 e.sum.a ++ beSigned 8 e.sum.b ++
    shadeBytes e.low ++ shadeBytes e.high ++ shadeBytes e.mean ++ natBytes 4 e.spread2 ++ natBytes 2 e.batch ++
    [byteOf ((e.grade.map Grade.code).getD 0)] ++
    [byteOf (presence [e.flags.overlength, e.flags.eventLost, e.flags.driftSeen, e.flags.unmeasured,
      e.flags.batchOverflow, e.flags.aborted, e.flags.doffed])] ++ [byteOf e.label.code]

/-! ### The batch entry of BATCH_REPORT and BATCH_READ replies -/

/-- The 14 bytes of a batch entry: states FREE 0, OPEN 1, CLOSED 2. -/
def batchBytes (index : Nat) (e : BatchEntry) : List Byte :=
  let marks := byteOf (presence [e.used, e.changed])
  match e.batch with
  | none => [byteOf index, 0] ++ List.replicate 11 0 ++ [marks]
  | some b =>
    [byteOf index, if b.isOpen then 1 else 2] ++ beBytes 2 b.code ++ b.ref.bytes ++ beBytes 2 b.count ++
      [byteOf (yesNo b.pinned), marks]

/-- The code of an assignment's outcome; 3 when there is none. -/
def assignCode : Option Assignment → Nat
  | some ⟨_, _, .joined⟩ => 0
  | some ⟨_, _, .opened⟩ => 1
  | some ⟨_, _, .overflow⟩ => 2
  | none => 3

/-- The last assignment: roll number, code, outcome, outcome 3 when there is none (12.8). -/
def assignmentBytes (x : Option Assignment) : List Byte :=
  natBytes 4 (x.map Assignment.roll) ++ natBytes 2 (x.map Assignment.code) ++ [byteOf (assignCode x)]

/-- The content of BATCH_REPORT's reply. -/
def BatchReportReply.bytes (r : BatchReportReply) : List Byte :=
  [byteOf r.entries.length] ++ r.entries.flatMap (fun x => batchBytes x.1 x.2) ++ [byteOf r.stillMarked] ++
    beBytes 2 r.nextCode ++ [byteOf ((r.lineBatch.map Fin.val).getD 255)] ++
    assignmentBytes r.lastAssign ++ beBytes 2 r.overflows

/-- A set of hold causes as a number: bit i stands for the i-th cause of R183. -/
def Causes.number (c : Causes) : Nat :=
  presence [c.encoder, c.overspeed, c.refLost, c.stationLost, c.overlength, c.eventLost, c.headOffline,
    c.printerOffline, c.host]

/-- A frame on the line: start, count, kind, tag, payload, CRC over the bytes after the start (12.8). -/
def frameBytes (kind tag : Byte) (payload : List Byte) : List Byte :=
  let counted := [byteOf (payload.length + 2), kind, tag] ++ payload
  [0xC3] ++ counted ++ beBytes 2 (crc16 counted).toNat

end Sys2Proof.Machine
end

