-- ==== Sys2Proof/Machine/LabelOps.lean ====
section
/-! DEFINITION. Operations of the Label Channel (10): the queue, the choice of a transfer, verdicts, the timeout timers,
APPLIED edges and the effects of a doff on labels. -/

namespace Sys2Proof.Machine

/-! ### The queue (R167) -/

/-- Printer A serves spindle A, printer B spindle B. -/
def printerAt : Spindle → Printer
  | .a => .a
  | .b => .b

/-- The queue has room for a label. -/
def State.labelRoom (s : State) : Bool := decide (s.lbc.queue.length < Config.labelCap)

/-- A label for an entry joins the tail of the queue with a record built now, and the entry becomes QUEUED (R165, R167,
R176). -/
def State.enqueueLabel (s : State) (j : Job) (e : Entry) (p : Printer) : State :=
  let x : Label := { seq := e.seq, printer := p, roll := e.roll.getD 0, record := labelRecord j e, transfers := 0 }
  let s := { s with lbc := { s.lbc with queue := s.lbc.queue ++ [x] } }
  s.updateEntry e.seq fun e => { e with label := .queued }

/-- DUE entries are taken into the queue, oldest first, while it has room (R167). -/
def State.fillQueue (s : State) (j : Job) : State :=
  s.rlg.log.foldl (fun (s : State) e =>
    match e.spindle with
    | some k => if e.label == .due && s.labelRoom then s.enqueueLabel j e (printerAt k) else s
    | none => s) s

/-! ### The choice of a transfer (R168, R169) -/

/-- A printer that can take a label: ONLINE with its READY input high. -/
def State.canTake (s : State) (p : Printer) : Bool := (s.printer p).online && s.readyLevel p

/-- The idle channel starts the transfer of the oldest label its printer can take, and its transfer count grows by one (R168,
R169), without a bound (DESIGN CHOICE: notes/assumptions/51.md). -/
def State.chooseTransfer (s : State) : State :=
  match s.lbc.channel with
  | some _ => s
  | none =>
    match s.lbc.queue.find? fun x => s.canTake x.printer with
    | none => s
    | some x =>
      let x' := { x with transfers := x.transfers + 1 }
      { s with lbc := { s.lbc with
          queue := s.lbc.queue.map fun y => if y.seq = x.seq then x' else y,
          channel := some { label := x', withdrawn := false, left := Config.labelTransfer } } }

/-! ### The timeout timers (R172) -/

/-- A transfer to the printer is under way. -/
def State.transferring (s : State) (p : Printer) : Bool := s.lbc.channel.any fun t => t.label.printer == p

/-- The levels at the outputs of the label port: the two selects, clock and data-out. -/
structure LabelPort where
  selectA : Bool
  selectB : Bool
  clock : LineLevel
  dataOut : LineLevel
deriving DecidableEq, Repr

/-- The outputs of the label port: the printer of the transfer under way is selected while clock and data-out shift its
bytes (R169); without a transfer both selects are released, and clock and data-out low as a part reset drives them (R166).
That they are low between transfers too is DEDUCED: notes/assumptions/38.md. -/
def State.labelPort (s : State) : LabelPort :=
  { selectA := s.transferring .a, selectB := s.transferring .b,
    clock := if s.lbc.channel.isSome then .shifting else .low
    dataOut := if s.lbc.channel.isSome then .shifting else .low }

/-- The four conditions under which a printer's timeout timer runs. -/
def State.timerRuns (s : State) (p : Printer) : Bool :=
  (s.printer p).online && !s.readyLevel p && (s.lbc.queue.any fun x => x.printer == p) && !s.transferring p

/-- A timer whose conditions hold runs on; one whose conditions have ceased stops, its elapsed time 0. -/
def State.refreshTimer (s : State) (p : Printer) : State :=
  s.putPrinter p { s.printer p with timer := if s.timerRuns p then some ((s.printer p).timer.getD 0) else none }

/-- What the channel does at the end of every event that concerns it: room is filled, a transfer chosen, the timers
started and stopped (R167, R168, R172). The timers look at the event's end only: where a withdrawal takes the only label of
a printer and a DUE entry for it takes the room in one event, the elapsed time runs on (DESIGN CHOICE:
notes/assumptions/46.md). -/
def State.labelWork (s : State) : State :=
  (((s.withJob s.fillQueue).chooseTransfer).refreshTimer .a).refreshTimer .b

/-! ### Verdicts (R170 to R172) -/

/-- The verdicts of a transfer (R169). -/
inductive Verdict where
  | accepted | rejected | jammed
deriving DecidableEq, Repr

/-- How a verdict byte reads (R169). -/
def verdictOf (b : Byte) : Verdict := if b = 0x06 then .accepted else if b = 0x1A then .jammed else .rejected

/-- The label of an entry leaves the queue. -/
def State.removeLabel (s : State) (seq : BitVec 32) : State :=
  { s with lbc := { s.lbc with queue := s.lbc.queue.filter fun x => x.seq != seq } }

/-- A place joins the end of a sent list; a list of 32 places first loses its oldest unattached place (R170). -/
def appendSent (sent : List (Option (BitVec 32))) (place : Option (BitVec 32)) : List (Option (BitVec 32)) :=
  if sent.length < Config.sentCap then sent ++ [place]
  else if sent.contains none then sent.erase none ++ [place]
  else sent.drop 1 ++ [place]

/-- A place joins the end of a printer's sent list. -/
def State.addSent (s : State) (p : Printer) (place : Option (BitVec 32)) : State :=
  s.putPrinter p { s.printer p with sent := appendSent (s.printer p).sent place }

/-- A printer goes OFFLINE (R172). -/
def State.printerOffline (s : State) (p : Printer) (why : PrinterFault) : State :=
  ((s.putPrinter p { s.printer p with online := false, lastFault := some why }).raiseNotice (.labelFault p)).raiseCause
    .printerOffline

/-- ACCEPTED (R170). -/
def State.labelAccepted (s : State) (x : Label) (withdrawn : Bool) : State :=
  if withdrawn then s.addSent x.printer none
  else
    let s := s.removeLabel x.seq
    let s := s.updateEntry x.seq fun e => { e with label := .sent }
    let s := s.addSent x.printer (some x.seq)
    let s := s.putPrinter x.printer { s.printer x.printer with rejects := 0 }
    { s with lbc := { s.lbc with accepted := satInc s.lbc.accepted } }

/-- The third rejection drops the label (R171). -/
def State.dropLabel (s : State) (x : Label) : State :=
  let s := s.removeLabel x.seq
  let s := s.updateEntry x.seq fun e => { e with label := .missing }
  let s := s.putPrinter x.printer { s.printer x.printer with rejects := 0, lastFault := some .dropped }
  { s with lbc := { s.lbc with dropped := satInc s.lbc.dropped } }.raiseNotice (.labelFault x.printer)

/-- REJECTED (R171). -/
def State.labelRejected (s : State) (x : Label) (withdrawn : Bool) : State :=
  if withdrawn then s
  else
    let n := (s.printer x.printer).rejects + 1
    let s := { s with lbc := { s.lbc with rejections := satInc s.lbc.rejections } }
    if n < 3 then s.putPrinter x.printer { s.printer x.printer with rejects := n } else s.dropLabel x

/-- JAMMED, whether or not the label was withdrawn (R172). -/
def State.labelJammed (s : State) (x : Label) : State :=
  { s with lbc := { s.lbc with jams := satInc s.lbc.jams } }.printerOffline x.printer .jammed

/-- The transfer under way has ended with a verdict byte (R169). -/
def State.transferEnded (s : State) (t : Transfer) (verdict : Byte) : State :=
  let s := { s with lbc := { s.lbc with channel := none } }
  let s := match verdictOf verdict with
    | .accepted => s.labelAccepted t.label t.withdrawn
    | .rejected => s.labelRejected t.label t.withdrawn
    | .jammed => s.labelJammed t.label
  s.labelWork

/-- The timeout timer of a printer reaches 10 s (R172). -/
def State.printerTimedOut (s : State) (p : Printer) : State :=
  ({ s with lbc := { s.lbc with timeouts := satInc s.lbc.timeouts } }.printerOffline p .timeout).labelWork

/-- PRINTER_RESET (R173). -/
def State.resetPrinter (s : State) (p : Printer) : State :=
  let x := s.printer p
  (s.putPrinter p { x with
    online := true, rejects := 0, timer := x.timer.map fun _ => 0, sent := x.sent.filter Option.isSome }).labelWork

/-- An APPLIED edge settles the first place of the printer's sent list (R174). -/
def State.labelApplied (s : State) (p : Printer) : State :=
  match (s.printer p).sent with
  | [] => s
  | place :: rest =>
    let s := s.putPrinter p { s.printer p with sent := rest }
    match place with
    | some seq => s.updateEntry seq fun e => { e with label := .applied }
    | none => { s with lbc := { s.lbc with unattached := satInc s.lbc.unattached } }

/-! ### Doff (R137, R175) -/

/-- The queued label of an entry is withdrawn; a transfer of it runs to its end (R175). -/
def State.withdrawLabel (s : State) (seq : BitVec 32) : State :=
  match s.lbc.queue.find? fun x => x.seq == seq with
  | none => s
  | some x =>
    let oldest := ((s.lbc.queue.find? fun y => y.printer == x.printer).map Label.seq) == some seq
    let s := if oldest then s.putPrinter x.printer { s.printer x.printer with rejects := 0 } else s
    let s := s.removeLabel seq
    { s with lbc := { s.lbc with channel := s.lbc.channel.map fun t =>
        if t.label.seq = seq then { t with withdrawn := true } else t } }

/-- The place of an entry in a sent list becomes unattached and keeps its position (R175). -/
def unattach (seq : BitVec 32) (sent : List (Option (BitVec 32))) : List (Option (BitVec 32)) :=
  sent.map fun place => if place = some seq then none else place

/-- The entry's place in the sent lists becomes unattached. -/
def State.unattachSent (s : State) (seq : BitVec 32) : State :=
  let s := s.putPrinter .a { s.printer .a with sent := unattach seq (s.printer .a).sent }
  s.putPrinter .b { s.printer .b with sent := unattach seq (s.printer .b).sent }

/-- The entry wound on a spindle that is doffed is marked, and its label settled (R137, R175). -/
def State.doffEntry (s : State) (e : Entry) : State :=
  let s := s.updateEntry e.seq fun e => { e with flags := { e.flags with doffed := true } }
  let missing := fun (s : State) => s.updateEntry e.seq fun e => { e with label := .missing }
  match e.label with
  | .due => missing s
  | .queued => (missing (s.withdrawLabel e.seq)).labelWork
  | .sent => missing (s.unattachSent e.seq)
  | .none | .applied | .missing => s

end Sys2Proof.Machine
end

