-- ==== Sys2Proof/Machine/LogOps.lean ====
section
/-! DEFINITION. Operations of the Roll Log (08): allocation, ending, accumulation, closing and grading of entries. -/

namespace Sys2Proof.Machine

/-! ### Containment (R12, R138) -/

/-- An entry's segment contains a datum: [start, end) once ended, everything from its start while OPEN. -/
def Entry.contains (e : Entry) (d : Count) : Bool :=
  reached d e.start && (match e.stop with
    | none => true
    | some x => !reached d x)

/-- The entry that contains a datum, searched from the newest to the oldest. -/
def State.entryOf (s : State) (d : Count) : Option Entry := s.rlg.log.reverse.find? fun e => e.contains d

/-- Change the entry that contains a datum; a datum that no entry contains changes nothing. -/
def State.updateContaining (s : State) (d : Count) (f : Entry → Entry) : State :=
  match s.entryOf d with
  | none => s
  | some e => s.updateEntry e.seq f

/-! ### Allocation and end (R134 to R136, R147) -/

/-- An entry as it is allocated (R134). -/
def Entry.fresh (seq : BitVec 32) (start : Count) (role : Role) (spindle : Option Spindle) (eventLost : Bool) : Entry :=
  { seq := seq, state := .opened, role := role, kind := none, start := start, stop := none, length := none,
    spindle := spindle, roll := none, repeats := 0, firstIndex := none, lastIndex := none, inCount := 0, outCount := 0,
    unknownCount := 0, worst := none, embIn := 0, embOff := 0, embLifted := 0, embUnknown := 0, splices := 0,
    defects := 0, operators := 0, readings := 0, sum := { l := 0, a := 0, b := 0 }, low := none, high := none,
    mean := none, spread2 := none, batch := none, grade := none, flags := { eventLost := eventLost }, label := .none }

/-- Allocate an entry: its sequence number is the counter's value before (R135); LOG_SPACE at 28 entries (R147). -/
def State.allocate (s : State) (start : Count) (role : Role) (spindle : Option Spindle) : State :=
  let e := Entry.fresh s.rlg.nextSeq start role spindle s.trk.eventLost
  let s := { s with rlg := { s.rlg with log := s.rlg.log ++ [e], nextSeq := s.rlg.nextSeq + 1 } }
  if 28 ≤ s.rlg.log.length then s.raiseNotice .logSpace else s

/-- An entry is ended at a datum (R136). -/
def Entry.endAt (e : Entry) (stop : Count) (aborted : Bool) : Entry :=
  if e.state = .opened then
    { e with state := .cut, stop := some stop, length := some (ahead stop e.start).toNat,
             flags := { e.flags with aborted := e.flags.aborted || aborted } }
  else e

/-! ### Accumulation (R138, R139) -/

/-- Channel by channel, with the earlier value kept when there is none to compare. -/
def shadeWith (f : Int → Int → Int) (held : Option Shade) (x : Shade) : Option Shade :=
  match held with
  | none => some x
  | some y => some { l := f y.l x.l, a := f y.a x.a, b := f y.b x.b }

/-- A reading joins an entry's shade. -/
def Entry.addReading (e : Entry) (x : Shade) : Entry :=
  { e with readings := e.readings + 1, sum := { l := e.sum.l + x.l, a := e.sum.a + x.a, b := e.sum.b + x.b },
           low := shadeWith min e.low x, high := shadeWith max e.high x }

/-- A folded record is counted into an entry (R138). -/
def Entry.fold (e : Entry) (r : RepeatRecord) : Entry :=
  let e := { e with
    repeats := e.repeats + 1, firstIndex := some (e.firstIndex.getD r.index), lastIndex := some r.index,
    inCount := if r.cls = .inside then e.inCount + 1 else e.inCount,
    outCount := if r.cls = .outside then e.outCount + 1 else e.outCount,
    unknownCount := if r.cls = .unknown then e.unknownCount + 1 else e.unknownCount,
    worst := match r.worst, e.worst with
      | some x, some y => if y.natAbs < x.natAbs then some x else some y
      | some x, none => some x
      | none, held => held
    embIn := if r.emboss = .inRegister then e.embIn + 1 else e.embIn,
    embOff := if r.emboss = .offRegister then e.embOff + 1 else e.embOff,
    embLifted := if r.emboss = .lifted then e.embLifted + 1 else e.embLifted,
    embUnknown := if r.emboss = .unknown then e.embUnknown + 1 else e.embUnknown }
  match r.shadeState, r.shade with
  | .present, some x => e.addReading x
  | _, _ => e

/-- An attributed event is counted by its kind (R139). -/
def Entry.count (e : Entry) : EventKind → Entry
  | .splice => { e with splices := e.splices + 1 }
  | .defect => { e with defects := e.defects + 1 }
  | .operator => { e with operators := e.operators + 1 }

/-! ### Closing (R140 to R144) -/

/-- The kind of a closing entry (R141). -/
def Entry.kindAt (e : Entry) (j : Job) : EntryKind :=
  if e.role ≠ .roll then .waste
  else if e.length.getD 0 < j.minRoll then .waste
  else if e.length.getD 0 < j.lt then .short
  else .roll

/-- The roll number after a roll number, 1 after 999,999,999 (R141). -/
def rollAfter (n : Nat) : Nat := if 999999999 ≤ n then 1 else n + 1

/-- The mean of a closing entry's readings (R142). -/
def Entry.meanOf (e : Entry) : Option Shade :=
  if e.readings = 0 then none
  else some { l := roundDiv e.sum.l e.readings, a := roundDiv e.sum.a e.readings, b := roundDiv e.sum.b e.readings }

/-- spread²: the squares of the half ranges, summed (R142). -/
def Entry.spreadOf (e : Entry) : Option Nat :=
  match e.low, e.high with
  | some lo, some hi =>
    if e.readings = 0 then none
    else some (((hi.l - lo.l).natAbs / 2) ^ 2 + ((hi.a - lo.a).natAbs / 2) ^ 2 + ((hi.b - lo.b).natAbs / 2) ^ 2)
  | _, _ => none

/-- The shade summary of a closing entry (R142). -/
def Entry.sumUp (e : Entry) : Entry :=
  { e with mean := e.meanOf, spread2 := e.spreadOf,
           flags := { e.flags with unmeasured := e.flags.unmeasured || e.readings == 0 } }

/-- A test for grade REJECT holds (R143). -/
def Entry.rejects (e : Entry) (j : Job) : Bool :=
  decide (j.rejReg < e.outCount) || decide (j.rejEmb < e.embOff) ||
    (e.spread2.any fun x => decide (j.tolB ^ 2 < x)) || (j.rejectOnSplice && decide (0 < e.splices)) ||
    e.flags.eventLost

/-- A test for grade B holds (R143). -/
def Entry.seconds (e : Entry) (j : Job) : Bool :=
  decide (j.bReg < e.outCount) || decide (j.bUnknown < e.unknownCount) || decide (0 < e.defects) ||
    (j.embossOn && decide (0 < e.embLifted)) || e.flags.overlength || e.flags.unmeasured || e.flags.batchOverflow

/-- The grade of a closing entry (R143). -/
def Entry.gradeAt (e : Entry) (j : Job) : Grade := if e.rejects j then .reject else if e.seconds j then .b else .a

/-- The batch code of a closing entry, from the Batch Table or 0 without a search (R143). -/
def State.batchFor (s : State) (j : Job) (roll : Nat) (e : Entry) : State × Entry :=
  match e.mean with
  | none => (s, { e with batch := some 0 })
  | some mean =>
    let r := s.assignBatch j roll mean
    (r.1, { e with batch := some r.2, flags := { e.flags with batchOverflow := e.flags.batchOverflow || r.2 == 0 } })

/-- A ROLL or SHORT entry takes its roll number, batch, grade and label state (R141, R143, R144). -/
def State.closeLabelled (s : State) (j : Job) (e : Entry) : State :=
  let roll := s.rlg.nextRoll
  let s := { s with rlg := { s.rlg with nextRoll := rollAfter roll } }
  let r := s.batchFor j roll { e with roll := some roll }
  let e := r.2
  r.1.updateEntry e.seq fun _ =>
    { e with grade := some (e.gradeAt j), state := .closed, label := if e.flags.doffed then .missing else .due }

/-- One entry closes (R141 to R144). -/
def State.closeEntry (s : State) (j : Job) (e : Entry) : State :=
  let kind := e.kindAt j
  let e := { e with kind := some kind }.sumUp
  match kind with
  | .waste => s.updateEntry e.seq fun _ => { e with state := .closed }
  | .roll | .short => s.closeLabelled j e

/-- A CUT entry may close: the track holds no record with an origin before its end (R140). -/
def State.mayCloseEntry (s : State) (e : Entry) : Bool :=
  e.state == .cut && (match e.stop with
    | none => false
    | some x => s.trk.records.all fun r => reached r.origin x)

/-- The RLG examines the CUT entries, oldest first; those that close raise ROLLS_CLOSED, and the Label Channel takes the
entries that became DUE (R140, R144, R167). -/
def State.examineLog (s : State) (j : Job) : State :=
  let closing := s.rlg.log.filter s.mayCloseEntry
  if closing.isEmpty then s
  else ((closing.foldl (fun s e => s.closeEntry j e) s).raiseNotice .rollsClosed).labelWork

/-- The entry is ended, and the log examined (R136, R140). -/
def State.endEntry (s : State) (seq : BitVec 32) (stop : Count) (aborted : Bool) : State :=
  let s := s.updateEntry seq fun e => e.endAt stop aborted
  s.withJob s.examineLog

/-! ### Release (R145) -/

/-- The entries that RELEASE_ENTRIES removes for n: the longest run from the oldest that may be released. -/
def releaseRun (log : List Entry) (n : BitVec 32) : List Entry :=
  log.takeWhile fun e => reached n e.seq && e.releasable

/-- RELEASE_ENTRIES removes its run. -/
def Rlg.release (r : Rlg) (n : BitVec 32) : Rlg := { r with log := r.log.drop (releaseRun r.log n).length }

end Sys2Proof.Machine
end

