-- ==== Sys2Proof/Machine/TrackOps.lean ====
section
/-! DEFINITION. Operations of the Web Track (01): folds, attributions, removals, and what the end of a job makes of the
records (R131). -/

namespace Sys2Proof.Machine

/-! ### Folding (R12) -/

/-- A record as it is folded: a shade state still PENDING becomes ABSENT. -/
def RepeatRecord.forFold (r : RepeatRecord) : RepeatRecord := r.putShade .absent none

/-- A record is handed to the Roll Log (R12, R138). -/
def State.foldInto (s : State) (r : RepeatRecord) : State := s.updateContaining r.origin fun e => e.fold r.forFold

/-- The head record of the track folds and leaves; the log is examined (R12, R140). -/
def State.foldHead (s : State) (j : Job) : State :=
  match s.trk.records with
  | [] => s
  | r :: rs => (({ s with trk := { s.trk with records := rs } }).foldInto r).examineLog j

/-- The head record has fallen due to fold: the next record's origin has reached the knife (R12). -/
def State.foldDue (s : State) (j : Job) : Bool :=
  match s.trk.records with
  | _ :: r' :: _ => s.at (fwd r'.origin j.dCut)
  | _ => false

/-- The records whose origins lie before E are folded in index order, LIFTED where the nip was not reached (R92, R131). -/
def State.foldRemaining (s : State) (stop : Count) : State :=
  s.trk.records.foldl (fun (s : State) r =>
    if reached r.origin stop then s else s.foldInto (r.markEmboss .lifted)) s

/-! ### The event list (R15, R19, R20, R21) -/

/-- An event goes after every event whose datum is equal to or less than its own (R15). -/
def insertSorted (e : WebEvent) : List WebEvent → List WebEvent
  | [] => [e]
  | x :: xs => if 0 < ahead x.datum e.datum then e :: x :: xs else x :: insertSorted e xs

/-- The position at which an event goes. -/
def insertAt (e : WebEvent) : List WebEvent → Nat
  | [] => 0
  | x :: xs => if 0 < ahead x.datum e.datum then 0 else insertAt e xs + 1

/-- A full-list arrival (R21). -/
def State.fullArrival (s : State) : State :=
  let s :=
    if s.trk.eventLost then s
    else
      let s := { s with trk := { s.trk with eventLost := true } }
      let s := s.updateOpenEntry fun e => { e with flags := { e.flags with eventLost := true } }
      (s.evaluateNip).raiseCause .eventLost
  s.raiseNotice .eventListFull

/-- The cut planned now falls at a datum (R19). -/
def State.cutAt (s : State) (d : Count) : Bool :=
  match s.wnd.planned with
  | some { target := .known x _, .. } => x == d
  | _ => false

/-- An event has fallen due to be attributed; the attribution waits for a cut at its own datum (R19). -/
def State.attributionDue (s : State) (j : Job) (e : WebEvent) : Bool :=
  !e.attributed && s.at (fwd e.datum j.dCut) && !s.cutAt e.datum

/-- The event at position n is counted into the entry that contains its datum (R19, R139). -/
def State.attribute (s : State) (n : Nat) : State :=
  match s.trk.events[n]? with
  | none => s
  | some e =>
    (s.updateContaining e.datum fun x => x.count e.kind).modifyEvent n fun e => { e with attributed := true }

/-- An event has fallen due to be removed: its last point has passed the knife (R20). An open DEFECT never is. -/
def State.removalDue (s : State) (j : Job) (e : WebEvent) : Bool :=
  !e.isOpen && s.at (fwd e.datum (e.length + j.dCut)) && !s.cutAt e.datum

/-- The EVENT_LOST condition ends, and the EMB evaluates its close conditions (R21, R78). -/
def State.endEventLost (s : State) : State :=
  if s.trk.eventLost then ({ s with trk := { s.trk with eventLost := false } }).evaluateNip else s

/-- The event at position n is removed, attributed first where that has not been done (R20). -/
def State.removeEvent (s : State) (n : Nat) : State :=
  let s := if (s.trk.events[n]?).any fun e => !e.attributed then s.attribute n else s
  let s := { s with trk := { s.trk with events := s.trk.events.eraseIdx n } }
  if s.trk.events.length ≤ 12 then s.endEventLost else s

/-- Empty the track and the event list: the open defect and the EVENT_LOST condition end (R14, R15). -/
def State.emptyTrack (s : State) : State :=
  { s with trk := { records := [], events := [], eventLost := false } }

end Sys2Proof.Machine
end

