-- ==== Sys2Proof/Machine/WinderOps.lean ====
section
/-! DEFINITION. Operations of the Winder Controller (07): spindles, eligible points, cut planning, splice plans, fired and
refused cuts, and the torque taper. -/

namespace Sys2Proof.Machine

/-! ### Positions at the knife -/

/-- The datum at the knife, H − d_cut. -/
def State.knifeAt (s : State) (j : Job) : Count := back s.wpu.h j.dCut

/-- The length of the active segment past the knife, (H − d_cut) − s (R114). -/
def State.pastKnife (s : State) (j : Job) (g : Segment) : Int := ahead (s.knifeAt j) g.start

/-- H has reached the firing position of a datum (R123). -/
def State.firingReached (s : State) (j : Job) (d : Count) : Bool := s.at (fwd d j.dCut)

/-- The earliest cut datum, where there is one. -/
def State.floorDatum (s : State) : Count := s.wnd.eMin.getD 0

/-! ### Eligible points (R117) -/

/-- The points a record carries, with their names. -/
def RepeatRecord.named (r : RepeatRecord) : List (PointName × Count) :=
  r.points.zipIdx.map fun x => (⟨r.index, x.2⟩, x.1)

/-- The points of an appended record become known; those that have passed the knife are dropped. -/
def State.addPoints (s : State) (j : Job) (r : RepeatRecord) : State :=
  { s with wnd := { s.wnd with
      points := (s.wnd.points.filter fun x => decide (ahead s.wpu.h (fwd x.2 j.dCut) ≤ 0)) ++ r.named } }

/-- The first eligible point at or after y. -/
def State.firstPoint (s : State) (j : Job) (y : Count) : CutTarget :=
  match j.cutMode with
  | .length => .known y none
  | .matched =>
    match s.wnd.points.find? fun x => reached x.2 y with
    | some x => .known x.2 (some x.1)
    | none => .fromFloor y

/-- A known datum before the earliest cut datum moves to the first eligible point at or after it (R119). -/
def State.notBefore (s : State) (j : Job) (t : CutTarget) : CutTarget :=
  match t with
  | .known d _ => if 0 < ahead s.floorDatum d then s.firstPoint j s.floorDatum else t
  | _ => t

/-- A pending plan that the known points settle is fixed (R119). -/
def State.settleTarget (s : State) (j : Job) (t : CutTarget) : CutTarget :=
  match t with
  | .named p =>
    match s.wnd.points.find? fun x => x.1 == p with
    | some x => s.notBefore j (.known x.2 (some x.1))
    | none => t
  | .fromFloor y => s.notBefore j (s.firstPoint j y)
  | .known _ _ | .seekingCut1 | .waiting => t

/-- The point planned for a ROLL segment that starts at a point (R119). -/
def rollPoint (j : Job) (p : PointName) : PointName :=
  match j.matchType with
  | .straight => { index := p.index + BitVec.ofNat 32 (ceilDiv j.lt j.L), half := 0 }
  | .drop =>
    let n := p.half + ceilDiv j.lt (j.L / 2)
    { index := p.index + BitVec.ofNat 32 (n / 2), half := n % 2 }

/-- The target of a ROLL segment that starts at a datum, at a point in MATCH mode (R119). -/
def State.rollTarget (s : State) (j : Job) (start : Count) (point : Option PointName) : CutTarget :=
  match j.cutMode, point with
  | .length, _ => .known (fwd start j.lt) none
  | .matched, some p => s.settleTarget j (.named (rollPoint j p))
  | .matched, none => s.firstPoint j (fwd start j.lt)

/-! ### Spindles (R116, R123) -/

/-- The other spindle. -/
def otherSpindle : Spindle → Spindle
  | .a => .b
  | .b => .a

/-- The spindle chosen for a ROLL segment, when it is EMPTY. -/
def State.chosenSpindle (s : State) : Option Spindle :=
  match s.wnd.lastWinding with
  | some k => if s.spindle (otherSpindle k) = .empty then some (otherSpindle k) else none
  | none => if s.wnd.spindleA = .empty then some .a else if s.wnd.spindleB = .empty then some .b else none

/-- A spindle that winds an entry becomes FULL with it. -/
def SpindleState.filled (x : SpindleState) (seq : BitVec 32) : SpindleState :=
  if x = .winding seq then .full seq else x

/-- The spindle of an ending winding segment becomes FULL, and the turret indexes (R115, R116). -/
def State.fillSpindle (s : State) (seq : BitVec 32) : State :=
  { s with wnd := { s.wnd with
      spindleA := s.wnd.spindleA.filled seq, spindleB := s.wnd.spindleB.filled seq, turret := some Config.pulse } }

/-- The knife is pulsed. -/
def State.pulseKnife (s : State) : State := { s with wnd := { s.wnd with knife := some Config.pulse } }

/-- The first condition that a cut opening a role fails, if any (R123). -/
def State.cutFails (s : State) (opens : Role) : Option RefusalCause :=
  if Config.logCap ≤ s.rlg.log.length then some .logFull
  else if opens = .roll ∧ s.chosenSpindle.isNone then some .spindleNotReady
  else none

/-! ### Torque (R129) -/

/-- The duty at a wound length. -/
def taperDuty (j : Job) (wound : Nat) : Nat :=
  j.d0 - (2 * (j.d0 * j.taper * min wound j.lt) + 100 * j.lt) / (2 * (100 * j.lt))

/-- Set the torque duty. -/
def State.setTorque (s : State) (duty : Nat) : State := { s with wnd := { s.wnd with pwm := s.wnd.pwm.setTo duty } }

/-- The wound length of an active ROLL segment has reached a further multiple of 1,000 (R129). With Lt no multiple of 1,000
the final duty therefore comes at the first multiple beyond Lt (DESIGN CHOICE: notes/assumptions/44.md). -/
def State.torqueDue (s : State) (j : Job) : Bool :=
  match s.wnd.active with
  | some g => g.role == .roll && decide (s.wnd.torqueMark < (s.pastKnife j g).toNat / 1000)
  | none => false

/-- The duty is set anew at the multiple of 1,000 that the wound length has reached. -/
def State.torqueStep (s : State) (j : Job) : State :=
  match s.wnd.active with
  | some g =>
    let mark := (s.pastKnife j g).toNat / 1000
    ({ s with wnd := { s.wnd with torqueMark := mark } }).setTorque (taperDuty j (1000 * mark))
  | none => s

/-! ### Splice plans (R121, R122) -/

/-- The greatest of some points; of two at one datum, the first. -/
def greatestPoint : List (PointName × Count) → Option (PointName × Count)
  | [] => none
  | x :: xs =>
    match greatestPoint xs with
    | none => some x
    | some y => if 0 < ahead y.2 x.2 then some y else some x

/-- The points of the cut1 range with limit x − c (R121). -/
def State.cut1Range (s : State) (j : Job) (limit : Count) : List (PointName × Count) :=
  s.wnd.points.filter fun x => reached x.2 s.floorDatum && reached limit x.2 && !s.firingReached j x.2

/-- A point beyond x − c is known (R121). -/
def State.beyondKnown (s : State) (limit : Count) : Bool := s.wnd.points.any fun x => decide (0 < ahead x.2 limit)

/-- The state of cut1 for the limit x − c (R121). -/
def State.classifyCut1 (s : State) (j : Job) (limit : Count) : Cut1 :=
  if s.firingReached j limit then .none
  else
    match j.cutMode with
    | .length => if reached limit s.floorDatum then .fixed limit none else .none
    | .matched =>
      match greatestPoint (s.cut1Range j limit) with
      | some x => if s.beyondKnown limit then .fixed x.2 (some x.1) else .candidate x.2 (some x.1)
      | none => if s.beyondKnown limit then .none else .seeking

/-- The cut2 floor: cut1 + D_tr while cut1 is CANDIDATE or FIXED, else the earliest cut datum (R121). -/
def State.cut2Floor (s : State) (j : Job) : Cut1 → Count
  | .fixed d _ | .candidate d _ => fwd d j.dTr
  | .none | .seeking => s.floorDatum

/-- The first eligible point at or after the greater of x + c and a floor (R121, R122). -/
def State.afterSplice (s : State) (j : Job) (x floor : Count) : CutTarget :=
  s.firstPoint j (further (fwd x j.clearance) floor)

/-- The planned cut under a REMOVE plan (R121). -/
def SplicePlan.cut (p : SplicePlan) : CutPlan :=
  match p.cut1 with
  | .fixed d n | .candidate d n => { target := .known d n, opens := .remove, replanned := false }
  | .none => { target := p.cut2, opens := .roll, replanned := false }
  | .seeking => { target := .seekingCut1, opens := .remove, replanned := false }

/-- Set a REMOVE plan, and the planned cut it gives. -/
def State.setPlan (s : State) (p : SplicePlan) : State :=
  { s with wnd := { s.wnd with plan := some p, planned := some p.cut } }

/-- A REMOVE plan with its cut1 in a given state: cut2 is found anew. -/
def State.planWith (s : State) (j : Job) (limit lastSplice : Count) (cut1 : Cut1) : State :=
  s.setPlan { limit := limit, lastSplice := lastSplice, cut1 := cut1,
              cut2 := s.afterSplice j lastSplice (s.cut2Floor j cut1) }

/-- A splice at x judged in a ROLL segment without a plan starts one (R121). -/
def State.startPlan (s : State) (j : Job) (x : Count) : State :=
  let limit := back x j.clearance
  s.planWith j limit x (s.classifyCut1 j limit)

/-- A target lies after a datum: further on, or pending. -/
def CutTarget.isAfter (t : CutTarget) (d : Count) : Bool :=
  match t with
  | .known y _ => decide (0 < ahead y d)
  | _ => true

/-- A splice at x judged while a REMOVE plan stands extends its cut2 (R122). -/
def State.extendPlan (s : State) (j : Job) (p : SplicePlan) (x : Count) : State :=
  let y := s.afterSplice j x (s.cut2Floor j p.cut1)
  let moves := match p.cut2 with
    | .known d _ => y.isAfter d
    | _ => true
  if moves then s.setPlan { p with lastSplice := x, cut2 := y }
  else { s with wnd := { s.wnd with plan := some { p with lastSplice := x } } }

/-- A splice at x judged in a LEAD_IN or REMOVE segment extends the planned cut (R122). -/
def State.extendPlanned (s : State) (j : Job) (x : Count) : State :=
  match s.wnd.planned with
  | some c =>
    match c.target with
    | .known p _ =>
      let y := s.afterSplice j x s.floorDatum
      if y.isAfter p then
        { s with wnd := { s.wnd with planned := some { c with target := y, replanned := false } } }
      else s
    | _ => s
  | none => s

/-! ### Judging splices (R120) -/

/-- A splice of the list may be judged now: in RUN or HOLD, under REMOVE, with its datum in [s, p). -/
def State.judgeable (s : State) (j : Job) (e : WebEvent) : Bool :=
  (s.lsc.lineState == .run || s.lsc.lineState == .hold) && j.splicePolicy == .remove && e.kind == .splice && !e.judged &&
    (match s.wnd.active, s.wnd.planned with
      | some g, some c =>
        (match c.target with
          | .known p _ => reached e.datum g.start && !reached e.datum p
          | _ => false)
      | _, _ => false)

/-- What a judged splice at x does, by the role of the active segment (R120). -/
def State.judge (s : State) (j : Job) (x : Count) : State :=
  match s.wnd.active with
  | none => s
  | some g =>
    match g.role with
    | .roll =>
      match s.wnd.plan with
      | none => s.startPlan j x
      | some p => s.extendPlan j p x
    | .leadIn | .remove => s.extendPlanned j x
    | .tail => s

/-- Judge the event at position n, when it may be judged. -/
def State.judgeAt (s : State) (j : Job) (n : Nat) : State :=
  match s.trk.events[n]? with
  | none => s
  | some e => if s.judgeable j e then (s.modifyEvent n fun e => { e with judged := true }).judge j e.datum else s

/-- Judge every splice that may be judged, in list order; each sees the plan as the one before it left it. -/
def State.judgeSplices (s : State) (j : Job) : State :=
  (List.range s.trk.events.length).foldl (fun (s : State) n => s.judgeAt j n) s

/-! ### A record has been appended (R119, R121) -/

/-- The REMOVE plan that stands is re-examined: a CANDIDATE or SEEKING cut1, and a pending cut2. -/
def State.reexamine (s : State) (j : Job) (p : SplicePlan) : State :=
  match p.cut1 with
  | .candidate _ _ | .seeking => s.planWith j p.limit p.lastSplice (s.classifyCut1 j p.limit)
  | .fixed _ _ | .none =>
    match p.cut2 with
    | .named _ | .fromFloor _ => s.setPlan { p with cut2 := s.settleTarget j p.cut2 }
    | .known _ _ | .seekingCut1 | .waiting => s

/-- The tail's cut falls at a target, and the search for cut1 goes on with a limit or ends. -/
def State.planTail (s : State) (target : CutTarget) (search : Option Count) : State :=
  { s with wnd := { s.wnd with
      planned := some { target := target, opens := .tail, replanned := false }, search := search } }

/-- The search for cut1 that END_JOB has kept is re-examined (R121, R130). A search that finds cut1 NONE plans the tail's
cut at the first eligible point from the earliest cut datum on (DESIGN CHOICE: notes/assumptions/15.md). -/
def State.searchOn (s : State) (j : Job) (limit : Count) : State :=
  match s.classifyCut1 j limit with
  | .fixed d n => s.planTail (.known d n) none
  | .candidate d n => s.planTail (.known d n) (some limit)
  | .seeking => s.planTail .seekingCut1 (some limit)
  | .none => s.planTail (s.firstPoint j s.floorDatum) none

/-- A pending planned cut without a REMOVE plan is settled where the points allow it. -/
def State.settlePlanned (s : State) (j : Job) : State :=
  match s.wnd.planned with
  | none => s
  | some c => { s with wnd := { s.wnd with planned := some { c with target := s.settleTarget j c.target } } }

/-- The winder's part of appending a record: its points become known, plans are settled, splices judged. -/
def State.winderAppend (s : State) (j : Job) (r : RepeatRecord) : State :=
  let s := s.addPoints j r
  let s := match s.wnd.plan, s.wnd.search with
    | some p, _ => s.reexamine j p
    | none, some limit => s.searchOn j limit
    | none, none => s.settlePlanned j
  s.judgeSplices j

/-! ### Fired cuts (R124) -/

/-- The transfer starts, or starts again, for T_tr (R127). -/
def State.startTransfer (s : State) (j : Job) : State :=
  { s with wnd := { s.wnd with
      overlaps := if s.wnd.transfer.isSome then satInc s.wnd.overlaps else s.wnd.overlaps,
      transfer := some (j.transferMs * Config.cyclesPerMs) } }

/-- Every splice of the list waits to be judged for the segment that becomes active (R120). -/
def State.unjudge (s : State) : State :=
  { s with trk := { s.trk with events := s.trk.events.map fun e => { e with judged := false } } }

/-- The segment that ends at a cut: its entry ends, and a ROLL segment's spindle is FULL (R124, steps 2 and 3). -/
def State.endSegment (s : State) (datum : Count) : State :=
  match s.wnd.active with
  | none => s
  | some g =>
    let s := s.endEntry g.seq datum false
    if g.role = .roll then s.fillSpindle g.seq else s

/-- The spindle of the segment a cut opens: the chosen one for ROLL, none otherwise. -/
def State.spindleFor (s : State) (opens : Role) : Option Spindle := if opens = .roll then s.chosenSpindle else none

/-- The segment that a cut opens: its entry, spindle and divert (R124, steps 4 and 5). -/
def State.openSegment (s : State) (datum : Count) (point : Option PointName) (opens : Role) : State :=
  let k := s.spindleFor opens
  let seq := s.rlg.nextSeq
  let s := s.allocate datum opens k
  let s := match k with
    | some k => (s.putSpindle k (.winding seq))
    | none => s
  { s with wnd := { s.wnd with
      lastWinding := if k.isSome then k else s.wnd.lastWinding, divert := decide (opens ≠ Role.roll),
      active := some { seq := seq, start := datum, role := opens, point := point } } }

/-- The plan of the segment that a cut opens (R124, step 6). -/
def State.planSegment (s : State) (j : Job) (datum : Count) (point : Option PointName) (opens : Role) : State :=
  let cut2 := s.wnd.plan.map SplicePlan.cut2
  let s := { s with wnd := { s.wnd with
    lastCut := some datum, eMin := some (fwd datum j.dTr), plan := none, search := none, planned := none,
    overlength := false } }
  match opens with
  | .roll => { s with wnd := { s.wnd with
      planned := some { target := s.rollTarget j datum point, opens := .roll, replanned := false } } }
  | .remove => { s with wnd := { s.wnd with
      planned := cut2.map fun t => { target := t, opens := .roll, replanned := false } } }
  | .tail | .leadIn => s

/-- The torque duty for the segment that becomes active (R124, step 7; R129). -/
def State.torqueFor (s : State) (j : Job) (opens : Role) : State :=
  ({ s with wnd := { s.wnd with torqueMark := 0 } }).setTorque (if opens = Role.roll then j.d0 else 0)

/-- A cut fires at a datum, at a point in MATCH mode, and opens a segment (R124). The tail cut drops run-permit (R130). -/
def State.fireCut (s : State) (j : Job) (datum : Count) (point : Option PointName) (opens : Role) : State :=
  let s := (s.pulseKnife).startTransfer j
  let s := s.endSegment datum
  let s := s.openSegment datum point opens
  let s := (s.planSegment j datum point opens).torqueFor j opens
  let s := if opens = Role.tail then s.dropPermit else s
  (s.unjudge).judgeSplices j

/-! ### Refused cuts (R125, R126) -/

/-- The OVERLENGTH condition becomes due: the active entry carries the flag and runs beyond Lt + maximum overlength. -/
def State.overlengthDue (s : State) (j : Job) : Bool :=
  match s.wnd.active with
  | none => false
  | some g =>
    !s.wnd.overlength && decide ((j.lt + j.maxOver : Int) < s.pastKnife j g) &&
      (s.rlg.log.any fun e => e.seq == g.seq && e.flags.overlength)

/-- The OVERLENGTH condition becomes present where it is due (R126). -/
def State.checkOverlength (s : State) (j : Job) : State :=
  if s.overlengthDue j then ({ s with wnd := { s.wnd with overlength := true } }).raiseCause .overlength else s

/-- The plan after a refused cut that is no cut1 (R125). -/
def State.replan (s : State) (j : Job) (c : CutPlan) : State :=
  let target := match j.cutMode with
    | .matched => s.firstPoint j s.floorDatum
    | .length => if c.replanned then .waiting else .known s.floorDatum none
  { s with wnd := { s.wnd with
      planned := some { c with target := target, replanned := true }, search := none,
      plan := s.wnd.plan.map fun p => { p with cut2 := target } } }

/-- A cut is refused at its datum (R125). A refused cut1 is NONE and the segment runs on to cut2 in both cut modes, also in
LENGTH mode, for which R125 has a plan at the new earliest cut datum; cut2's own first refusal counts as a first one
(DEDUCED from R121: notes/assumptions/48.md). -/
def State.refuseCut (s : State) (j : Job) (c : CutPlan) (datum : Count) (why : RefusalCause) : State :=
  let s := s.updateOpenEntry fun e => { e with flags := { e.flags with overlength := true } }
  let s := { s with wnd := { s.wnd with
    refusals := satInc s.wnd.refusals, lastRefusal := some why, eMin := some (fwd datum j.dTr) } }
  let s := match s.wnd.plan, c.opens with
    | some p, .remove => s.planWith j p.limit p.lastSplice .none
    | _, _ => s.replan j c
  (s.checkOverlength j).judgeSplices j

/-- The planned cut has fallen due at a datum, with its point (R123). -/
def State.cutDueAt (s : State) (j : Job) : Option (CutPlan × Count × Option PointName) :=
  match s.wnd.planned with
  | some c =>
    match c.target with
    | .known d p => if s.firingReached j d then some (c, d, p) else none
    | _ => none
  | none => none

/-- A cut that has fallen due is judged: it fires or is refused (R123). -/
def State.takeCut (s : State) (j : Job) (c : CutPlan) (datum : Count) (point : Option PointName) : State :=
  match s.cutFails c.opens with
  | none => s.fireCut j datum point c.opens
  | some why => s.refuseCut j c datum why

/-- A WAITING cut fires in the first event in which its conditions hold, at the datum at the knife (R125). -/
def State.tryWaiting (s : State) (j : Job) : State :=
  match s.wnd.planned with
  | some c =>
    if c.target = .waiting ∧ (s.cutFails c.opens).isNone then s.fireCut j (s.knifeAt j) none c.opens else s
  | none => s

/-! ### The lead-in and the tail (R118, R130) -/

/-- The lead-in (R118): its entry, the divert and its planned cut; the winder's START values (R114). -/
def State.leadIn (s : State) (j : Job) : State :=
  let start := s.knifeAt j
  let s := { s with wnd := { s.wnd with
    lastWinding := none, plan := none, search := none, points := [], refusals := 0, lastRefusal := none, overlaps := 0,
    overlength := false, torqueMark := 0, pwm := s.wnd.pwm.setTo 0 } }
  let s := s.openSegment start none .leadIn
  let s := { s with wnd := { s.wnd with lastCut := some start, eMin := some (fwd start j.dTr) } }
  { s with wnd := { s.wnd with
      planned := some { target := s.firstPoint j (fwd start j.dTr), opens := .roll, replanned := false } } }

/-- The limit of the search for cut1 that goes on: of a CANDIDATE or SEEKING cut1. -/
def SplicePlan.search? (p : SplicePlan) : Option Count :=
  match p.cut1 with
  | .candidate _ _ | .seeking => some p.limit
  | .fixed _ _ | .none => none

/-- The winder prepares the tail at END_JOB (R130): the planned cut of a ROLL segment opens the TAIL, and of a splice plan
only the search for a CANDIDATE or SEEKING cut1 goes on. -/
def State.prepareTail (s : State) : State :=
  match s.wnd.active with
  | none => s
  | some g =>
    if g.role = .roll then
      { s with wnd := { s.wnd with
          planned := s.wnd.planned.map fun c => { c with opens := .tail },
          search := s.wnd.plan.bind SplicePlan.search?, plan := none } }
    else
      { s with wnd := { s.wnd with
          active := some { g with role := .tail }, planned := none, plan := none } }.dropPermit

end Sys2Proof.Machine
end

