-- ==== Sys2Proof/Machine/EventOps.lean ====
section
/-! DEFINITION. Event arrivals (01, 1.6): insertion with what falls due at it, the defect line's opening occasions and the
close of the open DEFECT. -/

namespace Sys2Proof.Machine

/-- A new event of the list, not yet attributed, joined, checked or judged. -/
def WebEvent.fresh (kind : EventKind) (datum : Count) (isOpen : Bool) : WebEvent :=
  { kind := kind, datum := datum, length := 0, isOpen := isOpen, attributed := false, liftLate := false, joined := false,
    checked := false, judged := false }

/-- What falls due at the insertion of the event at position n: its coverage, then its lift check (R79, R81). -/
def State.coverAtInsertion (s : State) (j : Job) (n : Nat) : State :=
  let s := if (s.trk.events[n]?).any fun e => s.coverBeginDue j e then s.coverBegin j n else s
  if (s.trk.events[n]?).any fun e => s.liftCheckDue j e then s.liftCheck j n else s

/-- The event list is full (R15, R21). -/
def State.eventsFull (s : State) : Bool := decide (Config.eventCap ≤ s.trk.events.length)

/-- An event enters the list, which has room: sorted by datum, with its coverage and lift check as they fall due, and the
splices judged (R15, R79, R81, R120). -/
def State.enterEvent (s : State) (j : Job) (e : WebEvent) : State :=
  let n := insertAt e s.trk.events
  let s := { s with trk := { s.trk with events := insertSorted e s.trk.events } }
  (s.coverAtInsertion j n).judgeSplices j

/-- An event arrives: it enters the list, or meets a full one (R15, R21). -/
def State.arrive (s : State) (j : Job) (e : WebEvent) : State :=
  if s.eventsFull then s.fullArrival else s.enterEvent j e

/-- A DEFECT event is open (R17). -/
def State.defectOpen (s : State) : Bool := s.trk.events.any WebEvent.isOpen

/-- An opening occasion of the defect line (R17). -/
def State.openingOccasion (s : State) (j : Job) : State :=
  if s.pins.defectLine && !s.defectOpen && s.running && !s.reverse then
    s.arrive j (WebEvent.fresh .defect (fwd s.wpu.h j.uDef) true)
  else s

/-- The open DEFECT event closes with a length (R17, R80). -/
def State.closeDefect (s : State) (j : Job) (length : WebEvent → Nat) : State :=
  match s.trk.events.findIdx? WebEvent.isOpen with
  | none => s
  | some n =>
    let s := s.modifyEvent n fun e => { e with isOpen := false, length := length e }
    match s.trk.events[n]? with
    | some e => s.coverClosed j e
    | none => s

/-- The length of the open event has reached 200,000 (R17). -/
def State.defectLimitDue (s : State) (j : Job) : Bool :=
  s.trk.events.any fun e => e.isOpen && decide (Config.defectLimit ≤ s.eventLength j e)

end Sys2Proof.Machine
end

