-- ==== Sys2Proof/Machine/RegisterOps.lean ====
section
/-! DEFINITION. Operations of the Station Table and Register Loop (04): outcomes, the station machine, trains and their
aborts, and the job boundaries. -/

namespace Sys2Proof.Machine

/-- The INDIRECT stations whose target is the leader, in station order (R63). -/
def State.followers (s : State) (leader : StationId) : List StationId :=
  (List.finRange 8).filter fun f =>
    match (s.station f).desc with
    | .indirect d => d.target == leader
    | _ => false

/-- A flag of a CAU result is latched on a station; AT_LIMIT raises STATION_ALARM for it (R72). -/
def State.latchStation (s : State) (i : StationId) (flags : CauFlags) : State :=
  let s := s.putStation i { s.station i with flags := (s.station i).flags.latch flags }
  if flags.atLimit then s.raiseNotice (.stationAlarm i) else s

/-- A train's correction is committed to the station's trim and the train is started (R54, R62, R63). -/
def State.commitTrain (s : State) (i : StationId) (n : Nat) (c : Int) (rate : Nat) : State :=
  let x := s.station i
  (s.putStation i { x with train := some { before := x.trim, c := c }, trim := x.trim + c, lastC := some c }).startTrain
    (channelOf i) n c rate

/-- A follower takes its share of its leader's correction (R63). -/
def State.startFollower (s : State) (cIn : Int) (f : StationId) : State :=
  match (s.station f).desc with
  | .indirect d =>
    if (s.station f).engaged then
      let r := cauFinish cIn (s.station f).trim d.stepLimit d.trimLimit d.ratio
      let s := s.latchStation f r.flags
      match r.train with
      | none => s
      | some (n, c) => s.commitTrain f n c d.rate
    else s
  | _ => s

/-- A result of "train" on a RESIDENT station: its own train, CORRECTING, and its followers' trains (R62, R63). -/
def State.startStationTrain (s : State) (i : StationId) (n : Nat) (c : Int) (rate : Nat) : State :=
  let s := s.commitTrain i n c rate
  let s := s.putStation i { s.station i with st := .correcting }
  (s.followers i).foldl (fun s f => s.startFollower c f) s

/-- The accumulator has filled: the CAU is called with the A most recent samples, and the accumulator emptied (R61). -/
def State.stationCompute (s : State) (i : StationId) (d : ResidentDesc) (samples : List Int) : State :=
  let r := cauFull (samples.drop (samples.length - d.tuning.averaging)) (s.station i).trim d.tuning
  let s := s.putStation i { s.station i with acc := [] }
  let s := s.latchStation i r.flags
  match r.train with
  | none => s
  | some (n, c) => s.startStationTrain i n c d.tuning.rate

/-- A station enters LOST (R60). -/
def State.enterLost (s : State) (i : StationId) : State :=
  ((s.putStation i { s.station i with st := .lost, acc := [], settleEnd := none }).raiseNotice (.stationAlarm i)).raiseCause
    .stationLost

/-- A sample is offered to an engaged RESIDENT station (R60 to R65). -/
def State.offerSample (s : State) (i : StationId) (d : ResidentDesc) (e : Int) : State :=
  let x := { s.station i with bad := 0 }
  match x.st with
  | .seeking | .lost => s.putStation i { x with st := .tracking, acc := [] }
  | .tracking =>
    if x.acc.length + 1 < d.tuning.averaging then s.putStation i { x with acc := x.acc ++ [e] }
    else (s.putStation i x).stationCompute i d (x.acc ++ [e])
  | .correcting | .settling | .disengaged => s.putStation i x

/-- A MISSING or AMBIGUOUS outcome is offered to an engaged RESIDENT station (R60 to R65). -/
def State.offerBad (s : State) (i : StationId) (d : ResidentDesc) : State :=
  let bad := min ((s.station i).bad + 1) d.missLimit
  let s := s.putStation i { s.station i with bad := bad }
  match (s.station i).st with
  | .seeking | .tracking | .settling => if d.missLimit ≤ bad then s.enterLost i else s
  | .correcting | .lost | .disengaged => s

/-- An outcome is offered to a station: engaged RESIDENT stations take samples, MISSING and AMBIGUOUS (R58). -/
def State.offer (s : State) (i : StationId) (o : StationOutcome) : State :=
  match (s.station i).desc with
  | .resident d =>
    if (s.station i).engaged then
      match o with
      | .sample e => s.offerSample i d e
      | .missing | .ambiguous => s.offerBad i d
      | .notEngaged | .notUsed | .absent => s
    else s
  | _ => s

/-- The outcome written for a station: NOT_ENGAGED for a disengaged one (R58). -/
def Station.written (x : Station) (formed : StationOutcome) : StationOutcome :=
  if x.engaged then formed else .notEngaged

/-- A RESIDENT station's outcome lies beyond its tolerance (R59). -/
def Station.isOut (x : Station) (o : StationOutcome) : Bool :=
  match x.desc, o with
  | .resident d, .sample e => decide (d.tol < e.natAbs)
  | _, _ => false

/-- The outcome is a sample. -/
def StationOutcome.isSample : StationOutcome → Bool
  | .sample _ => true
  | _ => false

/-- The register class of a record from the outcomes written, one for each station (R59); FLYWHEEL is UNKNOWN (R36). -/
def State.regClass (s : State) (kind : OriginKind) (written : Vector StationOutcome 8) : RegClass :=
  let residents := (List.finRange 8).filter fun i => (s.station i).isResident
  if kind = .flywheel then .unknown
  else if residents.any fun i => (s.station i).isOut written[i] then .outside
  else if residents.all fun i => written[i].isSample then .inside
  else .unknown

/-- The worst of two errors: the earlier keeps a tie (R59, R138). -/
def worse (held : Option Int) (e : Int) : Option Int :=
  match held with
  | none => some e
  | some w => if w.natAbs < e.natAbs then some e else some w

/-- The sample of greatest magnitude among the RESIDENT outcomes (R59). -/
def State.worstError (s : State) (written : Vector StationOutcome 8) : Option Int :=
  (List.finRange 8).foldl (fun held i =>
    if (s.station i).isResident then
      match written[i] with
      | .sample e => worse held e
      | _ => held
    else held) none

/-- The outcomes written to a record: a RESIDENT station's is the one handed or NOT_ENGAGED (R58). -/
def State.writtenOutcomes (s : State) (formed : Vector StationOutcome 8) : Vector StationOutcome 8 :=
  Vector.ofFn fun i : Fin 8 => if (s.station i).isResident then (s.station i).written formed[i] else .notUsed

/-- Write outcomes, class and worst error into a record whose outcomes are not final yet (R10, R58). -/
def RepeatRecord.close (r : RepeatRecord) (written : Vector StationOutcome 8) (cls : RegClass) (worst : Option Int) :
    RepeatRecord :=
  if r.cls = .pending then { r with outcomes := written, cls := cls, worst := worst } else r

/-- The MSC hands the outcomes of a repeat to the RLP (R58). -/
def State.outcomeTransfer (s : State) (index : BitVec 32) (kind : OriginKind) (formed : Vector StationOutcome 8) :
    State :=
  let written := s.writtenOutcomes formed
  let s1 := s.updateRecord index fun r => r.close written (s.regClass kind written) (s.worstError written)
  let s2 := (List.finRange 8).foldl (fun (t : State) i =>
    if (t.station i).isResident then t.putStation i { t.station i with lastOutcome := some written[i] } else t) s1
  match kind with
  | .marked => (List.finRange 8).foldl (fun (t : State) i => t.offer i written[i]) s2
  | .flywheel => s2

/-! ### The end of CORRECTING, completions and aborts (R64, R67, R68) -/

/-- A train of the station or of one of its followers is in flight. -/
def State.trainsInFlight (s : State) (leader : StationId) : Bool :=
  (leader :: s.followers leader).any fun i => (s.chan (channelOf i)).inFlight

/-- The last train of a station and its followers has stopped: LOST or SETTLING (R64). -/
def State.correctingEnd (s : State) (leader : StationId) : State :=
  match (s.station leader).desc with
  | .resident d =>
    if (s.station leader).st = .correcting && !s.trainsInFlight leader then
      if d.missLimit ≤ (s.station leader).bad then s.enterLost leader
      else
        s.putStation leader { s.station leader with
          st := .settling, settleEnd := some (fwd s.wpu.h (d.settle + (s.lsc.job.map Job.L).getD 0)) }
    else s
  | _ => s

/-- The station whose CORRECTING a train of station i belongs to: itself, or an INDIRECT station's target. -/
def State.leaderOf (s : State) (i : StationId) : StationId :=
  match (s.station i).desc with
  | .indirect d => d.target
  | _ => i

/-- The RLP takes the completion of a station's train (R64, R67). -/
def State.stationTrainDone (s : State) (i : StationId) : State :=
  (s.putStation i { s.station i with train := none }).correctingEnd (s.leaderOf i)

/-- The RLP aborts a station's train with prorating; an idle channel is left alone (R55, R68). -/
def State.abortStation (s : State) (i : StationId) : State :=
  let ch := s.chan (channelOf i)
  if ch.inFlight then
    let s := s.stopTrain (channelOf i)
    match (s.station i).train with
    | none => s
    | some note =>
      s.putStation i { s.station i with
        trim := prorate note ch.emitted (ch.emitted + ch.remaining), train := none }
  else s

/-! ### Engaging, disengaging and the job boundaries (R69 to R74) -/

/-- STATION_DISENGAGE of a station that is engaged (R69). A leader in CORRECTING goes straight to DISENGAGED, without
entering LOST where its bad count stands at the missing limit (DESIGN CHOICE between R64 and R69:
notes/assumptions/41.md). -/
def State.disengage (s : State) (i : StationId) : State :=
  if s.running then
    match (s.station i).desc with
    | .resident _ =>
      let s := s.abortStation i
      let s := (s.followers i).foldl State.abortStation s
      s.putStation i { s.station i with engaged := false, st := .disengaged, acc := [], bad := 0, settleEnd := none }
    | _ =>
      let s := s.abortStation i
      let s := s.putStation i { s.station i with engaged := false }
      s.correctingEnd (s.leaderOf i)
  else s.putStation i { s.station i with engaged := false }

/-- STATION_ENGAGE of a station that is disengaged (R70). -/
def State.engage (s : State) (i : StationId) : State :=
  let x := { s.station i with engaged := true }
  if s.running && x.isResident then s.putStation i { x with st := .seeking, acc := [], bad := 0 }
  else s.putStation i x

/-- The station state of a RESIDENT station at START and in READY (R73). -/
def Station.startState (x : Station) : StationState :=
  if x.isResident then (if x.engaged then .seeking else .disengaged) else x.st

/-- A station at START (R73): only RESIDENT and INDIRECT stations hold anything. -/
def Station.atStart (x : Station) : Station :=
  if x.isResident || x.isIndirect then
    { x with st := x.startState, acc := [], bad := 0, settleEnd := none, trim := 0, train := none, lastC := none,
             flags := {}, lastOutcome := none }
  else x

/-- A station at the return to READY, its train stopped (R73). -/
def Station.atReturn (x : Station) : Station :=
  if x.isResident || x.isIndirect then { x with st := x.startState, acc := [], bad := 0, settleEnd := none } else x

/-- Change every station. -/
def State.mapStations (s : State) (f : Station → Station) : State :=
  { s with rlp := { stations := s.rlp.stations.map f } }

/-- Abort every station train in flight (R73). -/
def State.abortStations (s : State) : State := (List.finRange 8).foldl State.abortStation s

end Sys2Proof.Machine
end

