-- ==== Sys2Proof/Machine/MarkOps.lean ====
section
/-! DEFINITION. Operations of the Mark Scanner (02): gates and admission, origins and records, window expiries, captures
and closings. -/

namespace Sys2Proof.Machine

/-! ### Gates and admission (R24, R25) -/

/-- The position byte of an edge at x against the reference count c: bits 15..8 of their difference. -/
def positionByte (x c : Count) : Byte := (x - c).extractLsb' 8 8

/-- An enabled gate matches a position byte. -/
def Gate.admits (g : Gate) (b : Byte) : Bool := g.enabled && ((b ^^^ g.base) &&& ~~~g.mask) == 0

/-- A gate that admits reference candidates. -/
def Gate.takesRef (g : Gate) : Bool := g.role == .ref || g.role == .both

/-- A gate that admits station marks. -/
def Gate.takesMarks (g : Gate) : Bool := g.role == .marks || g.role == .both

/-- The reference count c of R25: the current origin, else the previous edge in SEEKING. -/
def Msc.reference (m : Msc) : Option Count :=
  match m.origin with
  | some o => some o.datum
  | none => m.prevEdge

/-- An edge at x is admitted for a role (R25). -/
def Msc.admitted (m : Msc) (role : Gate → Bool) (x : Count) : Bool :=
  if m.gates.toList.any Gate.enabled then
    match m.reference with
    | some c => m.gates.toList.any fun g => role g && g.admits (positionByte x c)
    | none => false
  else true

/-! ### Windows (R29, R31) -/

/-- The expected next origin, or projected origin: the current origin + L. -/
def nextOrigin (j : Job) (o : Count) : Count := fwd o j.L

/-- The current reference window contains x. -/
def Msc.inWindow (m : Msc) (j : Job) (x : Count) : Bool :=
  match m.refState, m.origin with
  | .locked, some o | .flywheel, some o => decide ((ahead x (nextOrigin j o.datum)).natAbs ≤ j.wRef)
  | .lost, some o =>
    reached x (back (nextOrigin j o.datum) (j.L / 2)) && !reached x (fwd o.datum (2 * j.L - j.L / 2))
  | _, _ => false

/-- Where the current window expires. -/
def Msc.expiry (m : Msc) (j : Job) : Option Count :=
  match m.refState, m.origin with
  | .locked, some o | .flywheel, some o => some (fwd (nextOrigin j o.datum) (j.wRef + 1))
  | .lost, some o => some (fwd o.datum (2 * j.L - j.L / 2))
  | _, _ => none

/-- H has reached the expiry of the current window. -/
def State.expiryDue (s : State) (j : Job) : Bool := (s.msc.expiry j).any s.at

/-! ### Records (R9, R27) -/

/-- The eligible points of a record (R9). -/
def eligiblePoints (j : Job) (o : Count) : List Count :=
  match j.cutMode, j.matchType with
  | .length, _ => []
  | .matched, .straight => [fwd o j.cutOffset]
  | .matched, .drop => [fwd o j.cutOffset, fwd o (j.L / 2 + j.cutOffset)]

/-- A repeat record at its creation (R9). -/
def State.newRecord (s : State) (j : Job) (o : Count) (kind : OriginKind) : RepeatRecord :=
  { index := s.msc.nextIndex, origin := o, kind := kind,
    outcomes := Vector.ofFn fun i : Fin 8 => if (s.station i).isResident then .absent else .notUsed,
    cls := .pending, worst := none,
    shadeState := if s.msc.nextIndex.toNat % j.sampleInterval = 0 then .pending else .notScheduled,
    shade := none, emboss := .notReached, overflow := false, liftLate := false, points := eligiblePoints j o }

/-- A record is appended at the tail of the track; the Shade Unit, the Emboss Controller and the Winder Controller take
it in (R9, R84, R100, R119). -/
def State.appendRecord (s : State) (j : Job) (r : RepeatRecord) : State :=
  let s := { s with trk := { s.trk with records := s.trk.records ++ [r] } }
  (((s.addStart j r).addWindow j r).winderAppend j r)

/-- Fix an origin (R27): the record, its pending closing and, for a MARKED origin, its capture. The reference state has
been set by the caller, and with it the next window. -/
def State.fixOrigin (s : State) (j : Job) (o : Count) (kind : OriginKind) : State :=
  let r := s.newRecord j o kind
  let capture : Option Capture :=
    match kind with
    | .marked => some { index := r.index, origin := o, edges := [], overflow := none }
    | .flywheel => s.msc.capture
  let closing : Closing := { index := r.index, origin := o, kind := kind }
  let s := { s with msc := { s.msc with
    origin := some { datum := o, kind := kind }, prevEdge := none, nextIndex := s.msc.nextIndex + 1,
    capture := capture, closings := s.msc.closings ++ [closing] } }
  s.appendRecord j r

/-- Set the reference state and the miss count. -/
def State.setRef (s : State) (x : RefState) (misses : Nat) : State :=
  { s with msc := { s.msc with refState := x, missCount := misses } }

/-- The reference state becomes LOST (R30). -/
def State.refLost (s : State) (misses : Nat) : State :=
  let s := s.setRef .lost misses
  let s := match s.referenceStation with
    | some i => s.raiseNotice (.stationAlarm i)
    | none => s
  s.raiseCause .refLost

/-- A projected origin is fixed at the expiry of a window in LOCKED or FLYWHEEL (R29, R30). -/
def State.referenceExpiry (s : State) (j : Job) : State :=
  match s.msc.origin with
  | none => s
  | some o =>
    let n := s.msc.missCount + 1
    let s := if n < j.refMissLimit then s.setRef .flywheel n else s.refLost n
    s.fixOrigin j (nextOrigin j o.datum) .flywheel

/-- A projected origin is fixed at the expiry of the reacquisition window in LOST (R31). -/
def State.reacquisitionExpiry (s : State) (j : Job) : State :=
  match s.msc.origin with
  | none => s
  | some o => s.fixOrigin j (nextOrigin j o.datum) .flywheel

/-- The expiry of the current window, when H has reached it (R23, R29, R31). -/
def State.takeExpiry (s : State) (j : Job) : State :=
  if s.expiryDue j then
    match s.msc.refState with
    | .locked | .flywheel => s.referenceExpiry j
    | .lost => s.reacquisitionExpiry j
    | .seeking => s
  else s

/-! ### Edges (R23, R28, R33, R34) -/

/-- A REF-admitted edge that lies in the current window, or any in SEEKING, fixes the next origin (R28, R29, R31). -/
def Msc.fixes (m : Msc) (j : Job) (x : Count) : Bool :=
  m.admitted Gate.takesRef x && (m.refState == .seeking || m.inWindow j x)

/-- An edge is offered to the open capture (R33, R34). -/
def State.offerEdge (s : State) (j : Job) (c : Capture) (x : Count) : State :=
  if decide (0 < ahead x c.origin) && reached (fwd c.origin (s.msc.oMax + j.wMark)) x then
    if c.edges.length < Config.captureCap then
      { s with msc := { s.msc with capture := some { c with edges := c.edges ++ [x] } } }
    else
      let s := s.updateRecord c.index fun r => { r with overflow := true }
      { s with msc := { s.msc with capture := some { c with overflow := some (c.overflow.getD x) } } }
  else s

/-- A taken edge that fixes no origin: a station mark, or dropped; in SEEKING it becomes the previous edge (R23, R25). -/
def State.otherEdge (s : State) (j : Job) (x : Count) : State :=
  match s.msc.capture with
  | some c => if s.msc.admitted Gate.takesMarks x then s.offerEdge j c x else s
  | none =>
    if s.msc.refState = .seeking then { s with msc := { s.msc with prevEdge := some x } } else s

/-- A taken mark edge at x (R23). -/
def State.takeEdge (s : State) (j : Job) (x : Count) : State :=
  let s := s.takeExpiry j
  if s.msc.fixes j x then (s.setRef .locked 0).fixOrigin j x .marked else s.otherEdge j x

/-! ### Closings (R35, R36) -/

/-- Where a pending closing falls due: o + O_max + W_mark. -/
def State.closingAt (s : State) (j : Job) (c : Closing) : Count := fwd c.origin (s.msc.oMax + j.wMark)

/-- The closing at the head of the pending closings, when H has reached it. -/
def State.closingDue (s : State) (j : Job) : Option Closing :=
  match s.msc.closings with
  | c :: _ => if s.at (s.closingAt j c) then some c else none
  | [] => none

/-- The outcome of a station with offset O, from the edges in its window (R34, R35). -/
def formOutcome (j : Job) (o : Count) (offset : Nat) (edges : List Count) (overflow : Option Count) : StationOutcome :=
  let expected := fwd o offset
  if overflow.any fun p => reached (fwd expected j.wMark) p then .ambiguous
  else
    match edges.filter fun x => decide ((ahead x expected).natAbs ≤ j.wMark) with
    | [] => .missing
    | [x] => .sample (ahead x expected)
    | _ => .ambiguous

/-- The outcomes of a MARKED repeat, one for each station with an offset taken at START (R35, R43). -/
def Msc.formAll (m : Msc) (j : Job) (c : Capture) : Vector StationOutcome 8 :=
  m.offsets.map fun x =>
    match x with
    | some offset => formOutcome j c.origin offset c.edges c.overflow
    | none => .notUsed

/-- The closing at the head leaves the pending closings. -/
def State.popClosing (s : State) : State := { s with msc := { s.msc with closings := s.msc.closings.drop 1 } }

/-- The capture of a MARKED repeat closes (R35). -/
def State.closeCapture (s : State) (j : Job) (c : Closing) : State :=
  match s.msc.capture with
  | some x =>
    let formed := s.msc.formAll j x
    let s := s.popClosing
    ({ s with msc := { s.msc with capture := none } }).outcomeTransfer c.index .marked formed
  | none => s.popClosing

/-- The closing of a FLYWHEEL repeat: every outcome MISSING (R36). -/
def State.closeFlywheel (s : State) (c : Closing) : State :=
  s.popClosing.outcomeTransfer c.index .flywheel (Vector.replicate 8 .missing)

/-! ### Job boundaries (R26, R43) -/

/-- The MSC at LOAD_JOB and at the return to READY: everything but the gates and the offsets (R26). -/
def Msc.atBoundary (m : Msc) : Msc :=
  { m with refState := .seeking, origin := none, prevEdge := none, missCount := 0, nextIndex := 0, capture := none,
           closings := [] }

/-- The offset of a RESIDENT station. -/
def Station.offset? (x : Station) : Option Nat :=
  match x.desc with
  | .resident d => some d.offset
  | _ => none

/-- The MSC at START: the RESIDENT offsets and O_max are taken (R43). -/
def State.scannerStart (s : State) : State :=
  let offsets := s.rlp.stations.map Station.offset?
  { s with msc := { s.msc.atBoundary with
      offsets := offsets, oMax := offsets.toList.foldl (fun n x => max n (x.getD 0)) 0 } }

end Sys2Proof.Machine
end

