-- ==== Sys2Proof/Machine/LineOps.lean ====
section
/-! DEFINITION. Operations of the line as a whole (11): LOAD_JOB, the station checks and START, the end and abort of a
job, the return to READY, and the doff and release that may fire a waiting cut. -/

namespace Sys2Proof.Machine

/-! ### The return to READY (R187 and the tables of R26, R73, R96, R112, R114) -/

/-- The winder at the return to READY (R114). -/
def Wnd.atReturn (w : Wnd) : Wnd :=
  { w with active := none, planned := none, eMin := none, plan := none, search := none, points := [], divert := true,
           overlength := false, torqueMark := 0, pwm := w.pwm.setTo 0 }

/-- The RLP at the return to READY: trains aborted, stations in their starting states (R73). A station in CORRECTING goes
straight to its starting state, without entering LOST where its bad count stands at the missing limit (DESIGN CHOICE between
R64 and R73: notes/assumptions/41.md). -/
def State.registerReturn (s : State) : State := s.abortStations.mapStations Station.atReturn

/-- The EMB at the return to READY: its train aborted, its queue and zone removed (R90, R96). -/
def State.embossReturn (s : State) : State :=
  let s := s.abortEmboss
  { s with emb := s.emb.atReturn }

/-- Every block takes its values for the return to READY, and the line state becomes READY. -/
def State.returnToReady (s : State) : State :=
  let s := (s.registerReturn).embossReturn.shadeReturn
  let s := { s with msc := s.msc.atBoundary, wnd := s.wnd.atReturn,
                    lsc := { s.lsc with latched := {}, runPermit := false } }
  s.setLineState .ready

/-- The active entry is ended at the knife; a ROLL segment's spindle is FULL and the knife pulsed (R131, R132). -/
def State.endLast (s : State) (j : Job) (aborted : Bool) : State :=
  match s.wnd.active with
  | none => s
  | some g =>
    let s := s.endEntry g.seq (s.knifeAt j) aborted
    if g.role = .roll then (s.fillSpindle g.seq).pulseKnife else s

/-- The end of a job at the winder: R131 when the web has stopped, R132 at ABORT_JOB. -/
def State.finishJob (s : State) (j : Job) (aborted : Bool) : State :=
  let s := s.endLast j aborted
  let s := (s.foldRemaining (s.knifeAt j)).emptyTrack
  (s.examineLog j).returnToReady

/-- In ENDING with the stopped flag set the job ends at the winder (R131). -/
def State.tailCheck (s : State) (j : Job) : State :=
  if s.lsc.lineState = .ending && s.wpu.stopped then s.finishJob j false else s

/-! ### LOAD_JOB (R181) -/

/-- A LOAD_JOB that is taken (R181 and the tables of R26, R74, R96, R114, R147, R150). -/
def State.takeJob (s : State) (j : Job) : State :=
  let s := { s with
    lsc := { s.lsc with job := some j, holdMask := some j.mask }
    rlp := Rlp.reset
    msc := { s.msc.atBoundary with gates := j.gates }
    rlg := { s.rlg with nextRoll := j.firstRoll }
    emb := s.emb.atLoad j
    wnd := { s.wnd with pwm := s.wnd.pwm.configure j.torquePeriod j.torquePrescale } }
  (s.batchLoad j).setLineState .ready

/-! ### START (R42, R182) -/

/-- Check 1: exactly one station is REFERENCE. -/
def State.check1 (s : State) : Option Nat :=
  match (List.finRange 8).filter fun i => (s.station i).desc == .reference with
  | [] => some 255
  | [_] => none
  | _ :: i :: _ => some i.val

/-- Check 2: every INDIRECT station's target is RESIDENT. -/
def State.check2 (s : State) : Option Nat :=
  ((List.finRange 8).find? fun i =>
    match (s.station i).desc with
    | .indirect d => !(s.station d.target).isResident
    | _ => false).map Fin.val

/-- A RESIDENT window lies strictly inside the mark zone. -/
def Job.windowFits (j : Job) (offset : Nat) : Bool :=
  decide (j.wRef + 2 * j.wMark < offset) && decide (offset + 2 * j.wMark + j.wRef < j.L)

/-- Check 3: every RESIDENT station's window lies strictly inside the repeat's mark zone. -/
def State.check3 (s : State) (j : Job) : Option Nat :=
  ((List.finRange 8).find? fun i => (s.station i).offset?.any fun o => !j.windowFits o).map Fin.val

/-- Two RESIDENT stations' offsets differ by no more than 2 × W_mark. -/
def State.tooClose (s : State) (j : Job) (i k : StationId) : Bool :=
  match (s.station i).offset?, (s.station k).offset? with
  | some a, some b => decide (((a : Int) - b).natAbs ≤ 2 * j.wMark)
  | _, _ => false

/-- Check 4: every two RESIDENT stations' offsets differ by more than 2 × W_mark; pairs in ascending order. -/
def State.check4 (s : State) (j : Job) : Option Nat :=
  ((List.finRange 8).findSome? fun i =>
    (List.finRange 8).find? fun k => decide (i < k) && s.tooClose j i k).map Fin.val

/-- The first failing station check, with the station it names (R42). -/
def State.stationChecks (s : State) (j : Job) : Option (Nat × Nat) :=
  match s.check1 with
  | some i => some (1, i)
  | none =>
    match s.check2 with
    | some i => some (2, i)
    | none =>
      match s.check3 j with
      | some i => some (3, i)
      | none => (s.check4 j).map fun i => (4, i)

/-- The blocks take their START values, the lead-in among them (R182). -/
def State.startBlocks (s : State) (j : Job) : State :=
  let s := (s.mapStations Station.atStart).scannerStart
  let s := { s with wpu := { s.wpu with faultCount := 0 }, emb := s.emb.atStart, shu := s.shu.atStart,
                    bat := s.bat.atStart }
  s.leadIn j

/-- One of the four conditions START examines: present, it is treated as raised (R182). -/
def State.examine (s : State) (c : HoldCause) : State := if s.conditions.has c then s.raiseCause c else s

/-- A START that is taken (R182). -/
def State.takeStart (s : State) (j : Job) : State :=
  let s := s.startBlocks j
  let s := ({ s with lsc := { s.lsc with runPermit := true } }).setLineState .run
  let s := s.openingOccasion j
  (((s.examine .encoder).examine .overspeed).examine .headOffline).examine .printerOffline

/-! ### END_JOB and ABORT_JOB (R186, R187) -/

/-- An END_JOB that is taken (R130, R131, R186). -/
def State.takeEnd (s : State) (j : Job) : State := ((s.setLineState .ending).prepareTail).tailCheck j

/-- RESUME removes the latched causes whose condition is absent, and HOST (R185). -/
def State.clearLatched (s : State) : State :=
  { s with lsc := { s.lsc with latched := (s.lsc.latched.inter s.conditions).minus ({ host := true } : Causes) } }

/-! ### Cuts, doff and release (R123, R128, R145) -/

/-- A doff of a spindle (R128, R175); a waiting cut may fire (R125). -/
def State.takeDoff (s : State) (k : Spindle) : State :=
  match s.spindle k with
  | .full seq =>
    let s := s.putSpindle k .empty
    let s := match s.rlg.log.find? fun e => e.seq == seq with
      | some e => s.doffEntry e
      | none => s
    s.withJob fun j => (s.tryWaiting j).tailCheck j
  | .empty | .winding _ => s

/-- RELEASE_ENTRIES through n (R145); a release that removes an entry may fire a waiting cut (R125). -/
def State.takeRelease (s : State) (n : BitVec 32) : State :=
  let removed := (releaseRun s.rlg.log n).length
  let s := { s with rlg := s.rlg.release n }
  if removed = 0 then s else s.withJob fun j => (s.tryWaiting j).tailCheck j

end Sys2Proof.Machine
end

