-- ==== Sys2Proof/Machine/Requests.lean ====
section
/-! DEFINITION. Serving requests (12): classes and permission, replies, and what the owner of each request kind answers
(the request rules of every chapter). -/

namespace Sys2Proof.Machine

/-- What an owner answers: the state after the request, the status, and what follows it in the reply. -/
abbrev Answer := State × Status × ReplyBody

/-- The request classes (R194). -/
inductive RequestClass where
  | monitor | operate | configure
deriving DecidableEq, Repr

/-- A request kind with its fields: its code, its class, whether only the Line Link may issue it, its payload's bytes,
whether they have the length of the table of request kinds, and what its owner does. -/
structure Service where
  kind : Byte
  cls : RequestClass
  lineOnly : Bool := false
  payload : List Byte := []
  fits : Bool := true
  act : State → Answer

/-! ### Permission and replies (R192 to R194) -/

/-- A class is permitted on a link at this moment (R194). -/
def State.permits (s : State) (l : LinkId) (cls : RequestClass) (lineOnly : Bool) : Bool :=
  match l, cls with
  | .line, _ => true
  | .service, .monitor => true
  | .service, _ => s.lsc.serviceGrant && !lineOnly

/-- A link may reply: its reply queue has room, and it does not wait for a RESET (R192, R198). -/
def State.mayReply (s : State) (l : LinkId) : Bool :=
  decide ((s.half l).replies.length < Config.linkCap) && !(s.half l).resetWait

/-- A link takes a request in the event in which it arrives: no request is queued before it, and the link may reply
(R192). -/
def State.mayTake (s : State) (l : LinkId) : Bool := (s.half l).requests.isEmpty && s.mayReply l

/-- A decoded request is offered to the tail of the request queue; one that finds four queued is discarded and counted
(R192). -/
def LinkHalf.enqueue (h : LinkHalf) (r : RawRequest) : LinkHalf :=
  if h.requests.length < Config.linkCap then { h with requests := h.requests ++ [r] }
  else { h with queueFull := satInc h.queueFull }

/-- A reply joins the tail of a link's reply queue, under the request's kind + 0x80 and its tag (R192). -/
def State.pushReply (s : State) (l : LinkId) (kind tag : Byte) (status : Status) (body : ReplyBody) : State :=
  let r : Reply := { kind := kind + 0x80, tag := tag, status := status, body := body }
  s.putHalf l { s.half l with replies := (s.half l).replies ++ [r] }

/-- The answer to a request, by the tests of R193 in their order: LENGTH, DENIED, then the owner's. -/
def State.answer (s : State) (l : LinkId) (x : Service) : Answer :=
  if x.fits then if s.permits l x.cls x.lineOnly then x.act s else (s, .denied, .empty)
  else (s, .length, .empty)

/-- A link acts on a request it has taken and queues the reply (R192). -/
def State.serve (s : State) (l : LinkId) (tag : Byte) (x : Service) : State :=
  let a := s.answer l x
  a.1.pushReply l x.kind tag a.2.1 a.2.2

/-- A decoded request arrives on a link (R192): it is taken at once where the link may take it, and else joins the request
queue (notes/assumptions/4.md). -/
def State.request (s : State) (l : LinkId) (tag : Byte) (x : Service) : State :=
  if s.mayTake l then s.serve l tag x
  else s.putHalf l ((s.half l).enqueue { kind := x.kind, tag := tag, payload := x.payload })

/-- DONE with a content. -/
def done (s : State) (body : ReplyBody) : Answer := (s, .done, body)

/-- A refusal that carries nothing. -/
def refuse (s : State) (status : Status) : Answer := (s, status, .empty)

/-- PARAM with the number of the first failing field. -/
def badField (s : State) (number : Nat) : Answer := (s, .param, .field number)

/-- Run an answer that needs the job in force; without one the line state is UNCONFIGURED. -/
def State.answerWithJob (s : State) (f : Job → Answer) : Answer :=
  match s.lsc.job with
  | none => refuse s .state
  | some j => f j

/-! ### MONITOR -/

/-- IDENTIFY (R197). -/
def identifyService (l : LinkId) : Service :=
  { kind := 0x01, cls := .monitor, act := fun s =>
      done s (.identify
        { partCode := Config.partCode, revision := Config.revisionLetter, stations := 8,
          trackRecords := Config.trackRecords, events := Config.eventCap, logEntries := Config.logCap, batchEntries := 32,
          labels := Config.labelCap, link := l, rate := (s.half l).rate, abandoned := (s.half l).abandoned,
          crcFail := (s.half l).crcFail, queueFull := (s.half l).queueFull }) }

/-- What LINE_STATUS reports of the job (R190). -/
def Job.identity (j : Job) (mask : Causes) : JobIdentity :=
  { holdMask := mask, design := j.design, colourway := j.colourway, lotText := j.lotText, L := j.L,
    matchType := j.matchType, cutMode := j.cutMode }

/-- The contents of LINE_STATUS (R190). -/
def State.lineStatus (s : State) : LineStatusReply :=
  { lineState := s.lsc.lineState, runPermit := s.lsc.runPermit, serviceGrant := s.lsc.serviceGrant,
    latched := s.lsc.latched, reported := s.lsc.reported, conditions := s.conditions,
    job := s.lsc.job.map fun j => j.identity (s.lsc.holdMask.getD {}),
    w := s.wpu.w, h := s.wpu.h, direction := s.wpu.direction, v := s.wpu.v, stopped := s.wpu.stopped,
    faultCount := s.wpu.faultCount, refState := s.msc.refState, missCount := s.msc.missCount, origin := s.msc.origin,
    records := s.trk.records.length, events := s.trk.events.length, entries := s.rlg.log.length,
    nextRoll := s.rlg.nextRoll }

/-- LINE_STATUS clears the reported causes as the reply is built (R190). -/
def lineStatusService : Service :=
  { kind := 0x02, cls := .monitor, act := fun s =>
      done { s with lsc := { s.lsc with reported := {} } } (.lineStatus s.lineStatus) }

/-- A datum ahead of the tail record's coverage: web not yet scanned, or further than one repeat beyond the last origin
(R22). An empty track has no tail record. -/
def State.aheadOfTail (s : State) (d : Count) : Bool :=
  s.trk.records.getLast?.any fun r => reached d (fwd r.origin ((s.lsc.job.map Job.L).getD 0))

/-- The answer of PROBE (R22): the record that covers the datum, else the entry that contains it. R22's list of NOT_RESIDENT
datums wins over its step 2, by which the open entry contains every datum from its start on: a datum ahead of the tail
record's coverage is NOT_RESIDENT (DEDUCED: notes/assumptions/37.md). -/
def State.probeBody (s : State) (d : Count) : ReplyBody :=
  match recordCovering ((s.lsc.job.map Job.L).getD 0) s.trk.records d with
  | some r => .probeRecord r
  | none =>
    if s.aheadOfTail d then .probeNone
    else
      match s.entryOf d with
      | some e => .probeEntry e.seq e.kind
      | none => .probeNone

/-- PROBE (R22). -/
def probeService (d : Count) : Service :=
  { kind := 0x03, cls := .monitor, payload := beBytes 4 d.toNat, act := fun s => done s (s.probeBody d) }

/-- A channel as the status replies give it. -/
def Channel.report (c : Channel) : ChannelReport :=
  { inFlight := c.inFlight, remaining := c.remaining, emitted := c.emitted, retard := c.retard }

/-- The contents of STATION_STATUS (R75). -/
def State.stationStatus (s : State) (i : StationId) : StationStatusReply :=
  let x := s.station i
  { desc := x.desc,
    resident := if x.isResident then
      some { st := x.st, acc := x.acc, bad := x.bad, settleEnd := x.settleEnd, lastOutcome := x.lastOutcome } else none,
    drive := if x.isResident || x.isIndirect then
      some { engaged := x.engaged, trim := x.trim, lastC := x.lastC, flags := x.flags } else none,
    channel := (s.chan (channelOf i)).report }

/-- STATION_STATUS clears the latched flags of the station as the reply is built (R72, R75). -/
def stationStatusService (station : Byte) : Service :=
  { kind := 0x04, cls := .monitor, payload := [station], act := fun s =>
      match stationOf station with
      | none => badField s 1
      | some i => done (s.putStation i { s.station i with flags := {} }) (.stationStatus (s.stationStatus i)) }

/-- The lift output: asserted in LIFTING and LIFTED (R76, R83). -/
def NipState.liftOutput : NipState → Bool
  | .lifted | .lifting => true
  | .engaging | .closed => false

/-- The contents of EMBOSS_STATUS (R97). -/
def State.embossStatus (s : State) : EmbossStatusReply :=
  { nip := s.emb.nip, nipTime := s.emb.nipTime, fails := s.closeFails, hostLift := s.emb.hostLift,
    zoneActive := s.emb.zoneActive, release := s.emb.release, heldOpen := s.emb.heldOpen,
    closedSince := s.emb.closedSince, reg := s.emb.reg, missCount := s.emb.missCount, lastSample := s.emb.lastSample,
    windows := s.emb.windows.length, nextExpected := s.emb.windows.head?.map EmbWindow.expected, phase := s.emb.phase,
    acc := s.emb.acc, trim := s.emb.trim, lastC := s.emb.lastC, flags := s.emb.flags, lateCount := s.emb.lateCount,
    lastLate := s.emb.lastLate, lateListed := s.trk.events.countP WebEvent.liftLate,
    channel := (s.chan embossChannel).report, duty := s.emb.pwm.setDuty, liftOutput := s.emb.nip.liftOutput }

/-- EMBOSS_STATUS clears the latched flags as the reply is built (R95, R97). -/
def embossStatusService : Service :=
  { kind := 0x05, cls := .monitor, act := fun s =>
      done { s with emb := { s.emb with flags := {} } } (.embossStatus s.embossStatus) }

/-- The contents of SHADE_STATUS (R113). -/
def State.shadeStatus (s : State) : ShadeStatusReply :=
  { head := s.shu.head, faultCount := s.shu.faultCount, offlineCond := s.conditions.headOffline,
    meas := s.shu.meas.map fun m => { index := m.index, trigPos := m.trigPos, since := m.since },
    starts := s.shu.starts.length, nextStart := s.shu.starts.head?.map Prod.snd,
    clampL := s.shu.clampL, clampA := s.shu.clampA, clampB := s.shu.clampB, lastReading := s.shu.lastReading,
    drift := s.shu.drift, lineBatch := s.shu.lineBatch, lastDrift := s.shu.lastDrift, counts := s.shu.counts }

/-- SHADE_STATUS clears the clamp flags as the reply is built (R113). -/
def shadeStatusService : Service :=
  { kind := 0x06, cls := .monitor, act := fun s =>
      done { s with shu := { s.shu with clampL := false, clampA := false, clampB := false } }
        (.shadeStatus s.shadeStatus) }

/-- The contents of WINDER_STATUS (R133). -/
def State.winderStatus (s : State) : WinderStatusReply :=
  { spindleA := s.wnd.spindleA, spindleB := s.wnd.spindleB, lastWinding := s.wnd.lastWinding,
    active := s.wnd.active.map fun g =>
      { seq := g.seq, role := g.role, start := g.start,
        length := ahead (back s.wpu.h ((s.lsc.job.map Job.dCut).getD 0)) g.start },
    planned := s.wnd.planned, eMin := s.wnd.eMin, lastCut := s.wnd.lastCut, plan := s.wnd.plan, divert := s.wnd.divert,
    duty := s.wnd.pwm.setDuty, transfer := s.wnd.transfer, overlength := s.wnd.overlength, refusals := s.wnd.refusals,
    lastRefusal := s.wnd.lastRefusal, overlaps := s.wnd.overlaps }

/-- WINDER_STATUS (R133). -/
def winderStatusService : Service :=
  { kind := 0x07, cls := .monitor, act := fun s => done s (.winderStatus s.winderStatus) }

/-- ROLL_READ (R146). -/
def rollReadService (seq : BitVec 32) : Service :=
  { kind := 0x08, cls := .monitor, payload := beBytes 4 seq.toNat, act := fun s =>
      match s.rlg.log.find? fun e => e.seq == seq with
      | some e => done s (.rollEntry e)
      | none => refuse s .notFound }

/-- BATCH_REPORT clears the marks of the entries it reports (R162). -/
def batchReportService : Service :=
  { kind := 0x09, cls := .monitor, act := fun s =>
      done { s with bat := s.bat.afterReport } (.batchReport s.bat.report) }

/-- BATCH_READ (R163). -/
def batchReadService (index : Byte) : Service :=
  { kind := 0x0A, cls := .monitor, payload := [index], act := fun s =>
      if h : index.toNat < 32 then done s (.batchEntry index.toNat s.bat.entries[index.toNat])
      else badField s 1 }

/-- A printer as LABEL_STATUS gives it (R177). -/
def State.printerReport (s : State) (p : Printer) : PrinterReport :=
  let x := s.printer p
  { online := x.online, ready := s.readyLevel p, rejects := x.rejects, timer := x.timer, sent := x.sent,
    lastFault := x.lastFault }

/-- The contents of LABEL_STATUS (R177). -/
def State.labelStatus (s : State) : LabelStatusReply :=
  { labels := s.lbc.queue.map fun x => { seq := x.seq, roll := x.roll, printer := x.printer, transfers := x.transfers },
    sending := s.lbc.channel.map fun t => t.label.seq,
    printerA := s.printerReport .a, printerB := s.printerReport .b, offlineCond := s.printerOfflineCond,
    dueCount := s.rlg.log.countP fun e => e.label == .due,
    oldestDue := (s.rlg.log.find? fun e => e.label == .due).map Entry.seq,
    accepted := s.lbc.accepted, rejections := s.lbc.rejections, dropped := s.lbc.dropped, jams := s.lbc.jams,
    timeouts := s.lbc.timeouts, unattached := s.lbc.unattached }

/-- LABEL_STATUS (R177). -/
def labelStatusService : Service :=
  { kind := 0x0B, cls := .monitor, act := fun s => done s (.labelStatus s.labelStatus) }

/-- A new enable mask: pending slots of the kinds it clears are dropped (R196). -/
def LinkHalf.setMask (h : LinkHalf) (mask : BitVec 11) : LinkHalf :=
  { h with mask := mask, slots := h.slots.filter fun n => mask.getLsbD n.kindIndex }

/-- NOTICE_MASK on the link it arrives on; bits 11 to 15 are ignored (R196). -/
def noticeMaskService (l : LinkId) (mask : BitVec 16) : Service :=
  { kind := 0x0C, cls := .monitor, payload := beBytes 2 mask.toNat, act := fun s =>
      done (s.putHalf l ((s.half l).setMask (mask.setWidth 11))) (.noticeMask (mask.setWidth 11)) }

/-! ### OPERATE: the line (R182 to R187) -/

/-- START (R42, R118, R182). -/
def startService : Service :=
  { kind := 0x20, cls := .operate, act := fun s =>
      if s.lsc.lineState = .ready then
        s.answerWithJob fun j =>
          match s.stationChecks j with
          | some c => (s, .param, .check c.1 c.2)
          | none =>
            if Config.logCap ≤ s.rlg.log.length then refuse s .busy
            else done (s.takeStart j) (.started (s.takeStart j).lsc.lineState (s.takeStart j).lsc.latched)
      else refuse s .state }

/-- HOLD (R184). -/
def holdService : Service :=
  { kind := 0x21, cls := .operate, act := fun s =>
      if s.lsc.lineState = .run then done (s.raiseCause .host) (.causes (s.raiseCause .host).lsc.latched)
      else refuse s .state }

/-- RESUME (R185); a refusal carries the causes still latched (R192). -/
def resumeService : Service :=
  { kind := 0x22, cls := .operate, act := fun s =>
      if s.lsc.lineState = .hold then
        let t := s.clearLatched
        if t.lsc.latched.isEmpty then
          done (({ t with lsc := { t.lsc with runPermit := true } }).setLineState .run) .empty
        else (t, .state, .causes t.lsc.latched)
      else (s, .state, .causes s.lsc.latched) }

/-- END_JOB (R186). -/
def endJobService : Service :=
  { kind := 0x23, cls := .operate, act := fun s =>
      if s.lsc.lineState = .run || s.lsc.lineState = .hold then s.answerWithJob fun j => done (s.takeEnd j) .empty
      else refuse s .state }

/-- ABORT_JOB (R187). -/
def abortJobService : Service :=
  { kind := 0x24, cls := .operate, act := fun s =>
      if s.running then s.answerWithJob fun j => done (s.finishJob j true) .empty else refuse s .state }

/-! ### OPERATE: stations (R69 to R71) -/

/-- The tests that STATION_ENGAGE and STATION_DISENGAGE share (R69, R70). -/
def State.onStation (s : State) (station : Byte) (f : StationId → State) : Answer :=
  if s.lsc.lineState = .unconfigured then refuse s .state
  else
    match stationOf station with
    | none => badField s 1
    | some i =>
      if (s.station i).isResident || (s.station i).isIndirect then done (f i) .empty else badField s 2

/-- STATION_ENGAGE (R70). -/
def stationEngageService (station : Byte) : Service :=
  { kind := 0x25, cls := .operate, payload := [station], act := fun s =>
      s.onStation station fun i => if (s.station i).engaged then s else s.engage i }

/-- STATION_DISENGAGE (R69). -/
def stationDisengageService (station : Byte) : Service :=
  { kind := 0x26, cls := .operate, payload := [station], act := fun s =>
      s.onStation station fun i => if (s.station i).engaged then s.disengage i else s }

/-- The descriptor with the four fields that TUNE_STATION replaces (R71). -/
def ResidentDesc.tune (d : ResidentDesc) (gain deadband averaging tolerance : Nat) : ResidentDesc :=
  { d with tuning := { d.tuning with gain := gain, deadband := deadband, averaging := averaging }, tol := tolerance }

/-- TUNE_STATION (R71). -/
def tuneStationService (station : Byte) (gain deadband : BitVec 16) (averaging : Byte) (tolerance : BitVec 16) :
    Service :=
  { kind := 0x27, cls := .operate, payload := [station] ++ beBytes 2 gain.toNat ++ beBytes 2 deadband.toNat ++ [averaging] ++
      beBytes 2 tolerance.toNat, act := fun s =>
      if s.lsc.lineState = .unconfigured then refuse s .state
      else
        match stationOf station with
        | none => badField s 1
        | some i =>
          match (s.station i).desc with
          | .resident d =>
            match firstFailing (tuneChecks gain.toNat deadband.toNat averaging.toNat tolerance.toNat) with
            | some n => badField s n
            | none =>
              done (s.putStation i { s.station i with
                desc := .resident (d.tune gain.toNat deadband.toNat averaging.toNat tolerance.toNat) }) .empty
          | _ => badField s 2 }

/-! ### OPERATE: emboss, events, log, labels, batches, head, printers -/

/-- EMBOSS_LIFT (R93). -/
def embossLiftService : Service :=
  { kind := 0x28, cls := .operate, act := fun s =>
      if s.running then
        let t := ({ s with emb := { s.emb with hostLift := true } }).evaluateNip
        done t (.nipState t.emb.nip)
      else refuse s .state }

/-- EMBOSS_CLOSE (R94). -/
def embossCloseService : Service :=
  { kind := 0x29, cls := .operate, act := fun s =>
      if s.running then
        let t := ({ s with emb := { s.emb with hostLift := false } }).evaluateNip
        done t (.nipClose t.emb.nip t.closeFails)
      else refuse s .state }

/-- MARK_EVENT (R18). -/
def markEventService : Service :=
  { kind := 0x2A, cls := .operate, act := fun s =>
      if s.running then
        s.answerWithJob fun j =>
          done (s.arrive j (WebEvent.fresh .operator s.wpu.h false)) (.markEvent s.wpu.h s.eventsFull)
      else refuse s .state }

/-- RELEASE_ENTRIES (R145); the reply tells the log as the release left it. -/
def releaseService (seq : BitVec 32) : Service :=
  { kind := 0x2B, cls := .operate, payload := beBytes 4 seq.toNat, act := fun s =>
      done (s.takeRelease seq)
        (.released (releaseRun s.rlg.log seq).length ((s.rlg.release seq).log.head?.map Entry.seq)
          (s.rlg.release seq).log.length) }

/-- A log entry that REPRINT may name (R176). -/
def Entry.reprintable (e : Entry) : Bool :=
  e.state == .closed && (e.kind == some .roll || e.kind == some .short) && (e.label == .missing || e.label == .applied)

/-- REPRINT (R176). -/
def reprintService (seq : BitVec 32) (printer : Byte) : Service :=
  { kind := 0x2C, cls := .operate, payload := beBytes 4 seq.toNat ++ [printer], act := fun s =>
      match printerOf printer with
      | none => badField s 2
      | some p =>
        match s.rlg.log.find? fun e => e.seq == seq && e.reprintable with
        | none => refuse s .notFound
        | some e =>
          if s.labelRoom then
            s.answerWithJob fun j =>
              done (s.enqueueLabel j e p).labelWork (.queued (s.lbc.queue.length + 1))
          else refuse s .busy }

/-- A batch code: 1..9,999. -/
def isBatchCode (code : Nat) : Bool := within 1 9999 code

/-- CLOSE_BATCH (R159). -/
def closeBatchService (code : BitVec 16) : Service :=
  { kind := 0x2D, cls := .operate, payload := beBytes 2 code.toNat, act := fun s =>
      if isBatchCode code.toNat then
        match s.bat.holder code.toNat with
        | none => refuse s .notFound
        | some i => done (s.closeBatchAt i) (.batchClosed i.val false)
      else badField s 1 }

/-- HEAD_RESET (R107). -/
def headResetService : Service :=
  { kind := 0x2E, cls := .operate, act := fun s =>
      let head := if s.shu.head = .offline then .idle else s.shu.head
      done { s with shu := { s.shu with head := head, faultCount := 0 } } (.head head 0) }

/-- PRINTER_RESET (R173). -/
def printerResetService (printer : Byte) : Service :=
  { kind := 0x2F, cls := .operate, payload := [printer], act := fun s =>
      match printerOf printer with
      | none => badField s 1
      | some p =>
        let t := s.resetPrinter p
        done t (.printer (t.printer p).online (t.readyLevel p) (t.lbc.queue.countP fun x => x.printer == p)) }

/-! ### CONFIGURE -/

/-- LOAD_JOB (R180, R181). -/
def loadJobService (payload : List Byte) : Service :=
  { kind := 0x40, cls := .configure, payload := payload, fits := payload.length == Config.loadJobBytes, act := fun s =>
      if s.lsc.lineState = .unconfigured || s.lsc.lineState = .ready then
        match jobFails payload with
        | some n => badField s n
        | none => done (s.takeJob (jobOf payload)) .empty
      else refuse s .state }

/-- A station drives a register motor: RESIDENT or INDIRECT. -/
def Station.driven (x : Station) : Bool := x.isResident || x.isIndirect

/-- The station that SET_STATION leaves: the new descriptor, trim 0, and its engagement (R41); items its kind did not
hold before are as they are after a part reset (R57). -/
def Station.setTo (x : Station) (d : Descriptor) : Station :=
  let y := { x with desc := d, trim := 0 }
  let y := if y.driven && !x.driven then { y with engaged := true } else y
  let y := if y.driven && x.driven then y else { y with lastC := none, flags := {} }
  let y := if y.isResident && x.isResident then y else { y with lastOutcome := none }
  { y with st := y.startState }

/-- SET_STATION (R41). -/
def setStationService (payload : List Byte) : Service :=
  { kind := 0x41, cls := .configure, payload := payload, fits := payload.length == Config.setStationBytes, act := fun s =>
      if s.lsc.lineState = .ready then
        s.answerWithJob fun j =>
          match firstFailing (stationChecks payload j.L) with
          | some n => badField s n
          | none =>
            let i : StationId := Fin.ofNat 8 (stationField payload 1)
            done (s.putStation i ((s.station i).setTo (descriptorOf payload))) .empty
      else refuse s .state }

/-- PIN_BATCH's checks (R160). -/
def pinChecks (code l a b : BitVec 16) : List (Nat × Bool) :=
  [(1, isBatchCode code.toNat), (2, decide (0 ≤ l.toInt) && decide (l.toInt ≤ 10000)),
   (3, decide (-12800 ≤ a.toInt) && decide (a.toInt ≤ 12700)),
   (4, decide (-12800 ≤ b.toInt) && decide (b.toInt ≤ 12700))]

/-- The target entry of PIN_BATCH: the holder of the code, else the FREE entry of lowest index (R160). -/
def Bat.pinTarget (b : Bat) (code : Nat) : Option (Fin 32) := (b.holder code).or b.firstFree

/-- PIN_BATCH (R160). -/
def pinBatchService (code l a b : BitVec 16) : Service :=
  { kind := 0x42, cls := .configure, payload := beBytes 2 code.toNat ++ beBytes 2 l.toNat ++ beBytes 2 a.toNat ++
      beBytes 2 b.toNat, act := fun s =>
      match firstFailing (pinChecks code l a b) with
      | some n => badField s n
      | none =>
        match s.bat.pinTarget code.toNat with
        | none => refuse s .busy
        | some i =>
          let t := s.pinAt i code.toNat { l := l.toInt, a := a.toInt, b := b.toInt }
          done t (.pinned i.val ((t.bat.entries[i].batch.map Batch.count).getD 0)) }

/-- PURGE_BATCHES's checks (R161, R199). -/
def purgeChecks (first last includePinned : Nat) : List (Nat × Bool) :=
  [(1, within 0 31 first), (2, within 0 31 last && decide (first ≤ last)), (3, within 0 1 includePinned)]

/-- PURGE_BATCHES (R161). -/
def purgeBatchesService (first last includePinned : Byte) : Service :=
  { kind := 0x43, cls := .configure, payload := [first, last, includePinned], act := fun s =>
      match firstFailing (purgeChecks first.toNat last.toNat includePinned.toNat) with
      | some n => badField s n
      | none =>
        let b := s.bat.purge first.toNat last.toNat (includePinned == 1)
        done { s with bat := b } (.purged (b.freeCount - s.bat.freeCount) b.freeCount) }

/-- SET_BATCH_CODE (R164). -/
def setBatchCodeService (code : BitVec 16) : Service :=
  { kind := 0x44, cls := .configure, payload := beBytes 2 code.toNat, act := fun s =>
      if s.lsc.lineState = .ready then
        if isBatchCode code.toNat then
          done { s with bat := { s.bat with nextCode := code.toNat } } (.nextCode code.toNat)
        else badField s 1
      else refuse s .state }

/-- GRANT_SERVICE (R194). -/
def grantService : Service :=
  { kind := 0x45, cls := .configure, lineOnly := true, act := fun s =>
      done { s with lsc := { s.lsc with serviceGrant := true } } (.grant true) }

/-- REVOKE_SERVICE (R194). -/
def revokeService : Service :=
  { kind := 0x46, cls := .configure, lineOnly := true, act := fun s =>
      done { s with lsc := { s.lsc with serviceGrant := false } } (.grant false) }

/-- RESET: the link takes no further request until its reply has been sent (R198). -/
def resetService (l : LinkId) : Service :=
  { kind := 0x47, cls := .configure, lineOnly := true, act := fun s =>
      done (s.putHalf l { s.half l with resetWait := true }) .empty }

/-! ### The table of request kinds (12.7) -/

/-- The bytes of a payload field: width bytes from an offset, as a number. -/
def field (payload : List Byte) (offset width : Nat) : Nat := beNat (slice payload offset width)

/-- A 16-bit field. -/
def field16 (payload : List Byte) (offset : Nat) : BitVec 16 := BitVec.ofNat 16 (field payload offset 2)

/-- A 32-bit field. -/
def field32 (payload : List Byte) (offset : Nat) : BitVec 32 := BitVec.ofNat 32 (field payload offset 4)

/-- A one-byte field. -/
def field8 (payload : List Byte) (offset : Nat) : Byte := payload.getD offset 0

/-- The payload has a length. -/
def Service.sized (x : Service) (payload : List Byte) (n : Nat) : Service :=
  { x with fits := payload.length == n }

/-- The request that a kind code and a payload spell on a link; none when the kind is not in the table. -/
def serviceOf (l : LinkId) (kind : Byte) (p : List Byte) : Option Service :=
  match kind.toNat with
  | 0x01 => some ((identifyService l).sized p 0)
  | 0x02 => some (lineStatusService.sized p 0)
  | 0x03 => some ((probeService (field32 p 0)).sized p 4)
  | 0x04 => some ((stationStatusService (field8 p 0)).sized p 1)
  | 0x05 => some (embossStatusService.sized p 0)
  | 0x06 => some (shadeStatusService.sized p 0)
  | 0x07 => some (winderStatusService.sized p 0)
  | 0x08 => some ((rollReadService (field32 p 0)).sized p 4)
  | 0x09 => some (batchReportService.sized p 0)
  | 0x0A => some ((batchReadService (field8 p 0)).sized p 1)
  | 0x0B => some (labelStatusService.sized p 0)
  | 0x0C => some ((noticeMaskService l (field16 p 0)).sized p 2)
  | 0x20 => some (startService.sized p 0)
  | 0x21 => some (holdService.sized p 0)
  | 0x22 => some (resumeService.sized p 0)
  | 0x23 => some (endJobService.sized p 0)
  | 0x24 => some (abortJobService.sized p 0)
  | 0x25 => some ((stationEngageService (field8 p 0)).sized p 1)
  | 0x26 => some ((stationDisengageService (field8 p 0)).sized p 1)
  | 0x27 =>
    some ((tuneStationService (field8 p 0) (field16 p 1) (field16 p 3) (field8 p 5) (field16 p 6)).sized p 8)
  | 0x28 => some (embossLiftService.sized p 0)
  | 0x29 => some (embossCloseService.sized p 0)
  | 0x2A => some (markEventService.sized p 0)
  | 0x2B => some ((releaseService (field32 p 0)).sized p 4)
  | 0x2C => some ((reprintService (field32 p 0) (field8 p 4)).sized p 5)
  | 0x2D => some ((closeBatchService (field16 p 0)).sized p 2)
  | 0x2E => some (headResetService.sized p 0)
  | 0x2F => some ((printerResetService (field8 p 0)).sized p 1)
  | 0x40 => some (loadJobService p)
  | 0x41 => some (setStationService p)
  | 0x42 => some ((pinBatchService (field16 p 0) (field16 p 2) (field16 p 4) (field16 p 6)).sized p 8)
  | 0x43 => some ((purgeBatchesService (field8 p 0) (field8 p 1) (field8 p 2)).sized p 3)
  | 0x44 => some ((setBatchCodeService (field16 p 0)).sized p 2)
  | 0x45 => some (grantService.sized p 0)
  | 0x46 => some (revokeService.sized p 0)
  | 0x47 => some ((resetService l).sized p 0)
  | _ => none

/-- A link takes the request at the head of its queue, when it may reply (R192, R193). That this is REQUEST_TAKE's step, and not
part of the event that lets the link take it, is DESIGN CHOICE: notes/assumptions/52.md. -/
def State.takeRequest (s : State) (l : LinkId) : State :=
  match (s.half l).requests with
  | [] => s
  | r :: rest =>
    if s.mayReply l then
      let s := s.putHalf l { s.half l with requests := rest }
      match serviceOf l r.kind r.payload with
      | some x => s.serve l r.tag x
      | none => s.pushReply l r.kind r.tag .illegal .empty
    else s

end Sys2Proof.Machine
end

