-- ==== Sys2Proof/Machine/Configure.lean ====
section
/-! DEFINITION. The requests of class CONFIGURE. Each is the request that arrives on a link: taken at
once where the link may take it, its reply queued, else offered to the request queue (12). -/

namespace Sys2Proof.Machine

/-- LOAD_JOB (R180, R181). -/
def execLoadJob (l : LinkId) (tag : Byte) (payload : List Byte) (s : State) : Host.Outcome State Fault Refusal :=
  .next (s.request l tag (loadJobService payload)).endOfEvent

/-- SET_STATION (R41). -/
def execSetStation (l : LinkId) (tag : Byte) (payload : List Byte) (s : State) : Host.Outcome State Fault Refusal :=
  .next (s.request l tag (setStationService payload)).endOfEvent

/-- PIN_BATCH (R160). -/
def execPinBatch (l : LinkId) (tag : Byte) (code a b c : BitVec 16) (s : State) :
    Host.Outcome State Fault Refusal :=
  .next (s.request l tag (pinBatchService code a b c)).endOfEvent

/-- PURGE_BATCHES (R161). -/
def execPurgeBatches (l : LinkId) (tag : Byte) (first last includePinned : Byte) (s : State) :
    Host.Outcome State Fault Refusal :=
  .next (s.request l tag (purgeBatchesService first last includePinned)).endOfEvent

/-- SET_BATCH_CODE (R164). -/
def execSetBatchCode (l : LinkId) (tag : Byte) (code : BitVec 16) (s : State) : Host.Outcome State Fault Refusal :=
  .next (s.request l tag (setBatchCodeService code)).endOfEvent

/-- GRANT_SERVICE (R194). -/
def execGrantService (l : LinkId) (tag : Byte) (s : State) : Host.Outcome State Fault Refusal :=
  .next (s.request l tag grantService).endOfEvent

/-- REVOKE_SERVICE (R194). -/
def execRevokeService (l : LinkId) (tag : Byte) (s : State) : Host.Outcome State Fault Refusal :=
  .next (s.request l tag revokeService).endOfEvent

/-- RESET (R192, R198). -/
def execReset (l : LinkId) (tag : Byte) (s : State) : Host.Outcome State Fault Refusal :=
  .next (s.request l tag (resetService l)).endOfEvent

end Sys2Proof.Machine
end

