-- ==== Sys2Proof/Machine/Emboss.lean ====
section
/-! DEFINITION. Commands of the emboss nip, its lift zones and its index, and the PWM periods (05). -/

namespace Sys2Proof.Machine

/-- ENGAGE_TIMER_EXPIRY (R78): the nip is CLOSED since H. -/
def execEngageTimerExpiry (s : State) : Host.Outcome State Fault Refusal :=
  let s :=
    if s.emb.nip = .engaging then
      { s with emb := { s.emb with nip := .closed, nipTime := none, closedSince := some s.wpu.h } }
    else s
  .next s.endOfEvent

/-- LIFT_TIMER_EXPIRY (R78): the nip is LIFTED, and engages again when its conditions hold. -/
def execLiftTimerExpiry (s : State) : Host.Outcome State Fault Refusal :=
  let s :=
    if s.emb.nip = .lifting then
      ({ s with emb := { s.emb with nip := .lifted, nipTime := none } }).evaluateNip
    else s
  .next s.endOfEvent

/-- LIFT_COVERAGE_BEGIN (R79, R80): the first event whose coverage is due to begin. -/
def execLiftCoverageBegin (s : State) : Host.Outcome State Fault Refusal :=
  let s := s.withJob fun j =>
    match s.trk.events.findIdx? fun e => s.coverBeginDue j e with
    | some n => s.coverBegin j n
    | none => s
  .next s.endOfEvent

/-- The release position has been reached, with no beginning of coverage due before it (R80). -/
def State.coverEndDue (s : State) (j : Job) : Bool :=
  s.emb.zoneActive && !s.emb.heldOpen && s.emb.release.any s.at && !(s.trk.events.any fun e => s.coverBeginDue j e)

/-- LIFT_COVERAGE_END (R80). -/
def execLiftCoverageEnd (s : State) : Host.Outcome State Fault Refusal :=
  let s := s.withJob fun j => if s.coverEndDue j then s.coverEnd else s
  .next s.endOfEvent

/-- LIFT_CHECK (R81): the first event whose check is due. -/
def execLiftCheck (s : State) : Host.Outcome State Fault Refusal :=
  let s := s.withJob fun j =>
    match s.trk.events.findIdx? fun e => s.liftCheckDue j e with
    | some n => s.liftCheck j n
    | none => s
  .next s.endOfEvent

/-- The windows after an edge at x, with the window that takes it as a sample: the oldest that contains x and holds none
(R85). -/
def takeIndex (j : Job) (x : Count) : List EmbWindow → Option (EmbWindow × List EmbWindow)
  | [] => none
  | w :: ws =>
    if w.contains j x && w.sample.isNone then some (w, { w with sample := some (ahead x w.expected) } :: ws)
    else
      match takeIndex j x ws with
      | some r => some (r.1, w :: r.2)
      | none => none

/-- A taken index edge at x gives its sample to a window, or is a stray (R85). -/
def State.indexEdge (s : State) (j : Job) (x : Count) : State :=
  match takeIndex j x s.emb.windows with
  | some r => ({ s with emb := { s.emb with windows := r.2 } }).embossSample j r.1 (ahead x r.1.expected)
  | none => s

/-- INDEX_EDGE (R4, R85): taken while a job with emboss enabled runs, and not in reverse travel. -/
def execIndexEdge (s : State) : Host.Outcome State Fault Refusal :=
  let s := s.withJob fun j =>
    if s.running && j.embossOn && !s.reverse then s.indexEdge j s.wpu.h else s
  .next s.endOfEvent

/-- The oldest window, when H has reached its expiry (R86). -/
def State.windowDue (s : State) (j : Job) : Option EmbWindow :=
  match s.emb.windows with
  | w :: _ => if s.at (w.expiresAt j) then some w else none
  | [] => none

/-- EMBOSS_WINDOW_EXPIRY (R86, R87). -/
def execEmbossWindowExpiry (s : State) : Host.Outcome State Fault Refusal :=
  let s := s.withJob fun j =>
    match s.windowDue j with
    | some w =>
      let s := { s with emb := { s.emb with windows := s.emb.windows.drop 1 } }
      if w.sample.isSome then s else s.embossMiss j
    | none => s
  .next s.endOfEvent

/-- EMBOSS_STATUS_WRITE (R91): the first record whose writing is due. -/
def execEmbossStatusWrite (s : State) : Host.Outcome State Fault Refusal :=
  let s := s.withJob fun j =>
    match embossWriteDue s j s.trk.records with
    | some r => s.updateRecord r.index fun x => x.markEmboss (s.embossMark j r)
    | none => s
  .next s.endOfEvent

/-- PWM_PERIOD_START (R83): the next period of a generator begins. -/
def execPwmPeriodStart (g : PwmId) (s : State) : Host.Outcome State Fault Refusal :=
  let s := match g with
    | .nip => { s with emb := { s.emb with pwm := s.emb.pwm.newPeriod } }
    | .torque => { s with wnd := { s.wnd with pwm := s.wnd.pwm.newPeriod } }
  .next s.endOfEvent

end Sys2Proof.Machine
end

