-- ==== Sys2Proof/Machine/Events.lean ====
section
/-! DEFINITION. Commands of the event list and the records of the web track (01). -/

namespace Sys2Proof.Machine

/-- SPLICE_PULSE (R4, R15, R16). -/
def execSplicePulse (s : State) : Host.Outcome State Fault Refusal :=
  let s :=
    if s.running && !s.reverse then
      s.withJob fun j => s.arrive j (WebEvent.fresh .splice (fwd s.wpu.h j.uSpl) false)
    else s
  .next s.endOfEvent

/-- DEFECT_LINE_RISE (R4, R17): a line that is active already gives no edge; in reverse travel and while no job runs the
edge is ignored. -/
def execDefectLineRise (s : State) : Host.Outcome State Fault Refusal :=
  let edge := !s.pins.defectLine
  let s := { s with pins := { s.pins with defectLine := true } }
  let s := if edge then s.withJob s.openingOccasion else s
  .next s.endOfEvent

/-- DEFECT_LINE_FALL (R17): the open event closes with the length reported so far. -/
def execDefectLineFall (s : State) : Host.Outcome State Fault Refusal :=
  let s := { s with pins := { s.pins with defectLine := false } }
  let s := s.withJob fun j => s.closeDefect j (s.eventLength j)
  .next s.endOfEvent

/-- DEFECT_LENGTH_LIMIT (R17): the open event closes at 200,000, and the close is an opening occasion. -/
def execDefectLengthLimit (s : State) : Host.Outcome State Fault Refusal :=
  let s := s.withJob fun j =>
    if s.defectLimitDue j then (s.closeDefect j fun _ => Config.defectLimit).openingOccasion j else s
  .next s.endOfEvent

/-- OPERATOR_BUTTON (R15, R18): taken in forward and in reverse travel. -/
def execOperatorButton (s : State) : Host.Outcome State Fault Refusal :=
  let s :=
    if s.running then s.withJob fun j => s.arrive j (WebEvent.fresh .operator s.wpu.h false) else s
  .next s.endOfEvent

/-- EVENT_ATTRIBUTION (R19): the first event whose attribution is due. -/
def execEventAttribution (s : State) : Host.Outcome State Fault Refusal :=
  let s := s.withJob fun j =>
    match s.trk.events.findIdx? fun e => s.attributionDue j e with
    | some n => s.attribute n
    | none => s
  .next s.endOfEvent

/-- EVENT_REMOVAL (R20): the first event whose removal is due. -/
def execEventRemoval (s : State) : Host.Outcome State Fault Refusal :=
  let s := s.withJob fun j =>
    match s.trk.events.findIdx? fun e => s.removalDue j e with
    | some n => s.removeEvent n
    | none => s
  .next s.endOfEvent

/-- RECORD_FOLD (R12), when the head record has fallen due. -/
def execRecordFold (s : State) : Host.Outcome State Fault Refusal :=
  let s := s.withJob fun j => if s.foldDue j then s.foldHead j else s
  .next s.endOfEvent

end Sys2Proof.Machine
end

