-- ==== Sys2Proof/Machine/Labels.lean ====
section
/-! DEFINITION. Commands of the label port and the printers (10). -/

namespace Sys2Proof.Machine

/-- The inputs with a printer's READY at a level. -/
def setReady (p : Pins) (printer : Printer) (level : Bool) : Pins :=
  match printer with
  | .a => { p with readyA := level }
  | .b => { p with readyB := level }

/-- PRINTER_READY_CHANGE (R168, R172). -/
def execPrinterReadyChange (p : Printer) (level : Bool) (s : State) : Host.Outcome State Fault Refusal :=
  .next ({ s with pins := setReady s.pins p level }).labelWork.endOfEvent

/-- LABEL_TRANSFER_END (R169 to R172): the verdict of the transfer under way. -/
def execLabelTransferEnd (verdict : Byte) (s : State) : Host.Outcome State Fault Refusal :=
  let s := match s.lbc.channel with
    | some t => s.transferEnded t verdict
    | none => s
  .next s.endOfEvent

/-- PRINTER_TIMEOUT (R172), while the printer's timeout timer runs. -/
def execPrinterTimeout (p : Printer) (s : State) : Host.Outcome State Fault Refusal :=
  let s := if (s.printer p).timer.isSome then s.printerTimedOut p else s
  .next s.endOfEvent

/-- APPLIED (R174): taken in every line state and in every mode of the printer. -/
def execApplied (p : Printer) (s : State) : Host.Outcome State Fault Refusal := .next (s.labelApplied p).endOfEvent

end Sys2Proof.Machine
end

