-- ==== Sys2Proof/Machine/ReplyLayout.lean ====
section
/-! DEFINITION. The bytes of every reply and every notice: the forms of R199 applied to the items that each rule lists, in
the order in which it lists them, and the frames they travel in (R192, R196, 12.8). Where 12.8 gives no layout, the widths,
the places of presence bits and the coding of levels are DESIGN CHOICE (notes/assumptions/39.md). -/

namespace Sys2Proof.Machine

/-! ### Forms (R199) -/

/-- A field of a record: whether it is present, where it may be absent, and its bytes. -/
structure Field where
  present : Option Bool
  bytes : List Byte
deriving DecidableEq, Repr

/-- Bytes of fields that are always present. -/
def always (bytes : List Byte) : Field := { present := none, bytes := bytes }

/-- A field of n bytes that may be absent: its presence bit, and bytes 0 where it is absent. -/
def optional (n : Nat) (x : Option (List Byte)) : Field :=
  { present := some x.isSome, bytes := x.getD (List.replicate n 0) }

/-- A number of n bytes that may be absent. -/
def optNat (n : Nat) (x : Option Nat) : Field := optional n (x.map (beBytes n))

/-- A signed value of two bytes that may be absent. -/
def optSigned (x : Option Int) : Field := optional 2 (x.map (beSigned 2))

/-- A web count, or a 32-bit number, that may be absent. -/
def optCount (x : Option Count) : Field := optNat 4 (x.map BitVec.toNat)

/-- A shade triple that may be absent. -/
def optShade (x : Option Shade) : Field := optional 6 (x.map Shade.bytes)

/-- A record: the presence bits, one for each field that may be absent, from bit 0, and then the bytes of every field. -/
def recordBytes (fields : List Field) : List Byte :=
  let bits := fields.filterMap Field.present
  beBytes ((bits.length + 7) / 8) (presence bits) ++ fields.flatMap Field.bytes

/-- A yes or no; so too what the rules call on or off, asserted or low, high or low, set or clear: 1 for the first of the two
(DESIGN CHOICE: R199 has enumerated values count from 0 in the order listed, and does not say that these are none;
notes/assumptions/39.md). -/
def flagByte (b : Bool) : Byte := byteOf (yesNo b)

/-- A set of hold causes: two bytes. -/
def Causes.bytes (c : Causes) : List Byte := beBytes 2 c.number

/-- A list: the number of its elements, then each. -/
def listBytes {α : Type} (f : α → List Byte) (xs : List α) : List Byte := byteOf xs.length :: xs.flatMap f

/-! ### Enumerated values, in the order in which their rules list them -/

/-- R178. -/
def LineState.code : LineState → Nat
  | .unconfigured => 0
  | .ready => 1
  | .run => 2
  | .hold => 3
  | .ending => 4

/-- R1. -/
def Direction.code : Direction → Nat
  | .forward => 0
  | .reverse => 1

/-- 02, 2.2. -/
def RefState.code : RefState → Nat
  | .seeking => 0
  | .locked => 1
  | .flywheel => 2
  | .lost => 3

/-- R180 field 65. -/
def CutMode.code : CutMode → Nat
  | .length => 0
  | .matched => 1

/-- R57. -/
def StationState.code : StationState → Nat
  | .disengaged => 0
  | .seeking => 1
  | .tracking => 2
  | .correcting => 3
  | .settling => 4
  | .lost => 5

/-- R76. -/
def NipState.code : NipState → Nat
  | .lifted => 0
  | .engaging => 1
  | .closed => 2
  | .lifting => 3

/-- R87. -/
def EmbReg.code : EmbReg → Nat
  | .seeking => 0
  | .inRegister => 1
  | .offRegister => 2
  | .lost => 3

/-- R88. -/
def EmbPhase.code : EmbPhase → Nat
  | .idle => 0
  | .inFlight => 1
  | .settling => 2

/-- R15. -/
def EventKind.code : EventKind → Nat
  | .splice => 0
  | .defect => 1
  | .operator => 2

/-- R99. -/
def HeadState.code : HeadState → Nat
  | .idle => 0
  | .acquiring => 1
  | .reading => 2
  | .offline => 3

/-- R99. -/
def DriftVerdict.code : DriftVerdict → Nat
  | .inside => 0
  | .warning => 1
  | .drift => 2

/-- R114. -/
def SpindleState.code : SpindleState → Nat
  | .empty => 0
  | .winding _ => 1
  | .full _ => 2

/-- R121. -/
def Cut1.code : Cut1 → Nat
  | .fixed _ _ => 0
  | .candidate _ _ => 1
  | .none => 2
  | .seeking => 3

/-- R133: a known datum, a pending point, a pending floor, WAITING; a SEEKING cut1 after them. -/
def CutTarget.code : CutTarget → Nat
  | .known _ _ => 0
  | .named _ => 1
  | .fromFloor _ => 2
  | .waiting => 3
  | .seekingCut1 => 4

/-- R125. -/
def RefusalCause.code : RefusalCause → Nat
  | .logFull => 0
  | .spindleNotReady => 1

/-- R166. -/
def PrinterFault.code : PrinterFault → Nat
  | .jammed => 0
  | .timeout => 1
  | .dropped => 2

/-- R199: printers A and B are 0 and 1. -/
def printerCode : Printer → Nat
  | .a => 0
  | .b => 1

/-- R38. -/
def Descriptor.code : Descriptor → Nat
  | .reference => 0
  | .resident _ => 1
  | .indirect _ => 2
  | .invalid => 3

/-! ### Parts that several replies share -/

/-- The latched flags of a correction channel: SATURATED, AT_LIMIT, BELOW_STEP, as bits of one byte from bit 0 (DESIGN CHOICE:
R199 and 12.8 give no layout of the set; notes/assumptions/39.md). -/
def CauFlags.byte (f : CauFlags) : Byte := byteOf (presence [f.saturated, f.atLimit, f.belowStep])

/-- The close conditions that fail, in the order of R77, as bits of one byte from bit 0 (DESIGN CHOICE:
notes/assumptions/39.md). -/
def CloseFails.byte (f : CloseFails) : Byte :=
  byteOf (presence [f.notRun, f.disabled, f.hostLift, f.zone, f.eventLost, f.slow])

/-- A channel: in flight, steps remaining, steps emitted, direction output. -/
def ChannelReport.bytes (c : ChannelReport) : List Byte :=
  [flagByte c.inFlight] ++ beBytes 4 c.remaining ++ beBytes 4 c.emitted ++ [flagByte c.retard]

/-- The samples of an accumulator. -/
def sampleBytes (xs : List Int) : List Byte := listBytes (beSigned 2) xs

/-- A drift comparison that may be absent: window mean, d², verdict. -/
def driftFields (x : Option DriftComparison) : List Field :=
  [optShade (x.map DriftComparison.mean), optNat 4 (x.map DriftComparison.d2), optNat 1 (x.map fun c => c.verdict.code)]

/-! ### The descriptor (R39, R75) -/

/-- The tuning a descriptor holds, and its other fields, as far as its kind holds them. -/
def Descriptor.resident? : Descriptor → Option ResidentDesc
  | .resident d => some d
  | _ => none

/-- Fields 9 to 12 of a descriptor: step limit, trim limit, step ratio, step rate. -/
def Descriptor.limits? : Descriptor → Option (Nat × Nat × Nat × Nat)
  | .resident d => some (d.tuning.stepLimit, d.tuning.trimLimit, d.tuning.ratio, d.tuning.rate)
  | .indirect d => some (d.stepLimit, d.trimLimit, d.ratio, d.rate)
  | _ => none

/-- Field 3 of a descriptor. -/
def Descriptor.target? : Descriptor → Option Nat
  | .indirect d => some d.target
  | _ => none

/-- Fields 2 to 14 of a descriptor, in the widths of 12.8; an absent target station is 255. -/
def Descriptor.fields (d : Descriptor) : List Field :=
  let r := d.resident?
  let l := d.limits?
  [always [byteOf d.code, byteOf (d.target?.getD 255)],
    optNat 2 (r.map ResidentDesc.offset), optNat 4 (r.map ResidentDesc.settle),
    optNat 2 (r.map fun x => x.tuning.gain), optNat 2 (r.map fun x => x.tuning.deadband),
    optNat 1 (r.map fun x => x.tuning.averaging),
    optNat 2 (l.map fun x => x.1), optNat 2 (l.map fun x => x.2.1), optNat 2 (l.map fun x => x.2.2.1),
    optNat 2 (l.map fun x => x.2.2.2), optNat 1 (r.map ResidentDesc.missLimit), optNat 2 (r.map ResidentDesc.tol)]

/-! ### The status replies -/

/-- IDENTIFY (R197). -/
def IdentifyReply.bytes (r : IdentifyReply) : List Byte :=
  beBytes 2 r.partCode ++ [r.revision, byteOf r.stations] ++ beBytes 2 r.trackRecords ++
    [byteOf r.events, byteOf r.logEntries, byteOf r.batchEntries, byteOf r.labels,
      if r.link = .line then 0 else 1, r.rate.setWidth 8] ++
    beBytes 2 r.abandoned ++ beBytes 2 r.crcFail ++ beBytes 2 r.queueFull

/-- What LINE_STATUS carries while a job is loaded: hold mask, design code, colourway, lot text, L, match type, cut mode. -/
def jobFields (x : Option JobIdentity) : List Field :=
  [optional 2 (x.map fun j => j.holdMask.bytes), optional 8 (x.map JobIdentity.design),
    optional 4 (x.map JobIdentity.colourway), optional 12 (x.map JobIdentity.lotText), optNat 2 (x.map JobIdentity.L),
    optNat 1 (x.map fun j => j.matchType.code), optNat 1 (x.map fun j => j.cutMode.code)]

/-- LINE_STATUS (R190). -/
def LineStatusReply.bytes (r : LineStatusReply) : List Byte :=
  recordBytes
    ([always [byteOf r.lineState.code, flagByte r.runPermit, flagByte r.serviceGrant],
        always (r.latched.bytes ++ r.reported.bytes ++ r.conditions.bytes)] ++
      jobFields r.job ++
      [always (beBytes 4 r.w.toNat ++ beBytes 4 r.h.toNat ++ [byteOf r.direction.code] ++ beBytes 4 r.v ++
          [flagByte r.stopped] ++ beBytes 2 r.faultCount ++ [byteOf r.refState.code, byteOf r.missCount]),
        optCount (r.origin.map Origin.datum), optNat 1 (r.origin.map fun o => o.kind.code),
        always (beBytes 2 r.records ++ [byteOf r.events, byteOf r.entries] ++ beBytes 4 r.nextRoll)])

/-- STATION_STATUS (R75). The samples of the accumulator are one field, their number first. -/
def StationStatusReply.bytes (r : StationStatusReply) : List Byte :=
  recordBytes
    (r.desc.fields ++
      [optNat 1 (r.drive.map fun x => if x.engaged then 0 else 1), optNat 1 (r.resident.map fun x => x.st.code),
        optional 1 (r.resident.map fun x => sampleBytes x.acc), optNat 1 (r.resident.map ResidentReport.bad),
        optCount (r.resident.bind ResidentReport.settleEnd),
        optional 3 ((r.resident.bind ResidentReport.lastOutcome).map StationOutcome.bytes),
        optSigned (r.drive.map DriveReport.trim), optSigned (r.drive.bind DriveReport.lastC),
        optional 1 (r.drive.map fun x => [x.flags.byte]), always r.channel.bytes])

/-- EMBOSS_STATUS (R97). -/
def EmbossStatusReply.bytes (r : EmbossStatusReply) : List Byte :=
  recordBytes
    [always [byteOf r.nip.code], optNat 4 r.nipTime,
      always [r.fails.byte, flagByte r.hostLift, flagByte r.zoneActive], optCount r.release, always [flagByte r.heldOpen],
      optCount r.closedSince, always [byteOf r.reg.code, byteOf r.missCount],
      optSigned (r.lastSample.map Prod.fst), optCount (r.lastSample.map Prod.snd),
      always (beBytes 2 r.windows), optCount r.nextExpected,
      always ([byteOf r.phase.code] ++ sampleBytes r.acc ++ beSigned 2 r.trim), optSigned r.lastC,
      always ([r.flags.byte] ++ beBytes 2 r.lateCount),
      optNat 1 (r.lastLate.map fun x => x.1.code), optCount (r.lastLate.map Prod.snd),
      always ([byteOf r.lateListed] ++ r.channel.bytes ++ beBytes 2 r.duty ++ [flagByte r.liftOutput])]

/-- SHADE_STATUS (R113). The three clamp flags are bits of one byte, L, a, b, from bit 0 (DESIGN CHOICE: R199 and 12.8 give no
layout of them; notes/assumptions/39.md). -/
def ShadeStatusReply.bytes (r : ShadeStatusReply) : List Byte :=
  recordBytes
    ([always [byteOf r.head.code, byteOf r.faultCount, flagByte r.offlineCond],
        optCount (r.meas.map MeasurementReport.index), optCount (r.meas.map MeasurementReport.trigPos),
        optNat 4 (r.meas.map MeasurementReport.since), always (beBytes 2 r.starts), optCount r.nextStart,
        always [byteOf (presence [r.clampL, r.clampA, r.clampB])],
        optShade (r.lastReading.map Prod.fst), optCount (r.lastReading.map Prod.snd),
        always (listBytes Shade.bytes r.drift),
        optNat 2 (r.lineBatch.map LineBatch.code), optShade (r.lineBatch.map LineBatch.ref)] ++
      driftFields r.lastDrift ++
      [always (beBytes 2 r.counts.started ++ beBytes 2 r.counts.present ++ beBytes 2 r.counts.smeared ++
        beBytes 2 r.counts.skipped ++ beBytes 2 r.counts.timedOut ++ beBytes 2 r.counts.notStarted)])

/-- The sequence number on a spindle while it is WINDING or FULL. -/
def SpindleState.seq? : SpindleState → Option (BitVec 32)
  | .empty => none
  | .winding n | .full n => some n

/-- The datum of a planned cut: the known one, or the floor of a pending one. -/
def CutTarget.datum? : CutTarget → Option Count
  | .known d _ | .fromFloor d => some d
  | .named _ | .seekingCut1 | .waiting => none

/-- The pending point of a planned cut. -/
def CutTarget.point? : CutTarget → Option PointName
  | .named p => some p
  | .known _ _ | .fromFloor _ | .seekingCut1 | .waiting => none

/-- The datum of cut1. -/
def Cut1.datum? : Cut1 → Option Count
  | .fixed d _ | .candidate d _ => some d
  | .none | .seeking => Option.none

/-- A cut's target that may be absent: its form, datum, and pending point's record index and half. -/
def targetFields (t : Option CutTarget) : List Field :=
  let point := t.bind CutTarget.point?
  [optNat 1 (t.map CutTarget.code), optCount (t.bind CutTarget.datum?), optCount (point.map PointName.index),
    optNat 1 (point.map PointName.half)]

/-- WINDER_STATUS (R133). -/
def WinderStatusReply.bytes (r : WinderStatusReply) : List Byte :=
  let cut1 := r.plan.map SplicePlan.cut1
  recordBytes
    ([always [byteOf r.spindleA.code], optCount r.spindleA.seq?, always [byteOf r.spindleB.code],
        optCount r.spindleB.seq?, optNat 1 (r.lastWinding.map fun x => spindleCode (some x)),
        optCount (r.active.map SegmentReport.seq), optNat 1 (r.active.map fun g => g.role.code),
        optCount (r.active.map SegmentReport.start), optional 4 (r.active.map fun g => beSigned 4 g.length)] ++
      targetFields (r.planned.map CutPlan.target) ++
      [optNat 1 (r.planned.map fun c => c.opens.code), optCount r.eMin, optCount r.lastCut,
        optCount (r.plan.map SplicePlan.lastSplice), optNat 1 (cut1.map Cut1.code), optCount (cut1.bind Cut1.datum?)] ++
      targetFields (r.plan.map SplicePlan.cut2) ++
      [always ([flagByte r.divert] ++ beBytes 2 r.duty ++ [flagByte r.transfer.isSome]), optNat 4 r.transfer,
        always (flagByte r.overlength :: beBytes 2 r.refusals), optNat 1 (r.lastRefusal.map RefusalCause.code),
        always (beBytes 2 r.overlaps)])

/-- A label of LABEL_STATUS. Of its transfer count, which has no bound, the low two bytes are sent (DESIGN CHOICE:
notes/assumptions/51.md). -/
def LabelReport.bytes (x : LabelReport) : List Byte :=
  beBytes 4 x.seq.toNat ++ beBytes 4 x.roll ++ [byteOf (printerCode x.printer)] ++ beBytes 2 x.transfers

/-- A place of a sent list: its sequence number, absent when unattached. -/
def placeBytes (x : Option (BitVec 32)) : List Byte := recordBytes [optCount x]

/-- A printer's mode: ONLINE 0, OFFLINE 1 (R166). -/
def modeByte (online : Bool) : Byte := if online then 0 else 1

/-- A printer of LABEL_STATUS, a record of its own. -/
def PrinterReport.bytes (p : PrinterReport) : List Byte :=
  recordBytes
    [always [modeByte p.online, flagByte p.ready, byteOf p.rejects, flagByte p.timer.isSome], optNat 4 p.timer,
      always (listBytes placeBytes p.sent), optNat 1 (p.lastFault.map PrinterFault.code)]

/-- LABEL_STATUS (R177). -/
def LabelStatusReply.bytes (r : LabelStatusReply) : List Byte :=
  recordBytes
    [always (listBytes LabelReport.bytes r.labels ++ [flagByte r.sending.isSome]), optCount r.sending,
      always (r.printerA.bytes ++ r.printerB.bytes ++ [flagByte r.offlineCond, byteOf r.dueCount]),
      optCount r.oldestDue,
      always (beBytes 2 r.accepted ++ beBytes 2 r.rejections ++ beBytes 2 r.dropped ++ beBytes 2 r.jams ++
        beBytes 2 r.timeouts ++ beBytes 2 r.unattached)]

/-! ### Replies and notices -/

/-- The bytes after the status byte of a reply. -/
def ReplyBody.bytes : ReplyBody → List Byte
  | .empty => []
  | .field n => [byteOf n]
  | .check n i => [byteOf n, byteOf i]
  | .causes c => c.bytes
  | .identify r => r.bytes
  | .lineStatus r => r.bytes
  | .probeRecord r => byteOf 0 :: r.bytes
  | .probeEntry seq kind => [1] ++ beBytes 4 seq.toNat ++ [byteOf (kindCode kind)]
  | .probeNone => [2]
  | .stationStatus r => r.bytes
  | .embossStatus r => r.bytes
  | .shadeStatus r => r.bytes
  | .winderStatus r => r.bytes
  | .rollEntry e => e.bytes
  | .batchReport r => r.bytes
  | .batchEntry i e => batchBytes i e
  | .labelStatus r => r.bytes
  | .noticeMask m => beBytes 2 m.toNat
  | .started lineState latched => byteOf lineState.code :: latched.bytes
  | .nipState nip => [byteOf nip.code]
  | .nipClose nip fails => [byteOf nip.code, fails.byte]
  | .markEvent datum lost => beBytes 4 datum.toNat ++ [flagByte lost]
  | .released removed oldest left =>
    recordBytes [always [byteOf removed], optCount oldest, always [byteOf left]]
  | .queued labels => [byteOf labels]
  | .batchClosed index stillOpen => [byteOf index, if stillOpen then 1 else 2]
  | .head x faults => [byteOf x.code, byteOf faults]
  | .printer online ready labels => [modeByte online, flagByte ready, byteOf labels]
  | .pinned index count => byteOf index :: beBytes 2 count
  | .purged freed free => [byteOf freed, byteOf free]
  | .nextCode code => beBytes 2 code
  | .grant on => [flagByte on]

/-- The content of a notice after its subject byte. The last assignment of BATCH_CHANGED has the form it has in BATCH_REPORT
(12.8): outcome 3 when there is none, and no presence bit (DESIGN CHOICE: 12.8 says so of the reply only;
notes/assumptions/50.md). -/
def NoticeBody.bytes : NoticeBody → List Byte
  | .lineState x latched conditions runPermit reported =>
    [byteOf x.code] ++ latched.bytes ++ conditions.bytes ++ [flagByte runPermit] ++ reported.bytes
  | .stationAlarm st flags => recordBytes [optNat 1 (st.map StationState.code), always [flags.byte]]
  | .embossAlarm nip reg misses lates flags =>
    [byteOf nip.code, byteOf reg.code, byteOf misses] ++ beBytes 2 lates ++ [flags.byte]
  | .eventListFull => []
  | .drift last code => recordBytes (driftFields last ++ [optNat 2 code])
  | .labelFault online ready rejects lastFault queued sent =>
    recordBytes [always [modeByte online, flagByte ready, byteOf rejects], optNat 1 (lastFault.map PrinterFault.code),
      always [byteOf queued, byteOf sent]]
  | .headFault head faults => [byteOf head.code, byteOf faults]
  | .rollsClosed closed newest free =>
    recordBytes [always [byteOf closed], optCount newest, always [byteOf free]]
  | .batchChanged free opened closed marked nextCode last overflows =>
    [byteOf free, byteOf opened, byteOf closed, byteOf marked] ++ beBytes 2 nextCode ++ assignmentBytes last ++
      beBytes 2 overflows
  | .logSpace free oldest releasable =>
    recordBytes [always [byteOf free], optCount oldest, always [flagByte releasable]]

/-! ### Frames on the line (12.8, R192, R196) -/

/-- The kind byte of a frame: a reply's own, and 0x60 + i for a notice of kind i. -/
def Frame.kind : Frame → Byte
  | .reply r => r.kind
  | .notice n _ => byteOf (0x60 + n.kindIndex)

/-- The tag of a frame: a reply has its request's, a notice 0. -/
def Frame.tag : Frame → Byte
  | .reply r => r.tag
  | .notice _ _ => 0

/-- The payload of a frame: of a reply its status and content, of a notice its subject and content. -/
def Frame.payload : Frame → List Byte
  | .reply r => r.status.code :: r.body.bytes
  | .notice n body => byteOf n.subject :: body.bytes

/-- The bytes that a transmitter sends for a frame; none where the payload exceeds the 250 bytes a frame may hold, as a
LABEL_STATUS with long sent lists does (notes/assumptions/39.md). -/
def Frame.bytes (f : Frame) : Option (List Byte) :=
  if f.payload.length ≤ 250 then some (frameBytes f.kind f.tag f.payload) else none

end Sys2Proof.Machine
end

