-- ==== Sys2Proof/Machine/Links.lean ====
section
/-! DEFINITION. Commands of the serial links: received bytes, the gap timer, taking a queued request, the end of a frame
(12). -/

namespace Sys2Proof.Machine

/-- The assembler returns to HUNT with the gap timer stopped. -/
def LinkHalf.toHunt (h : LinkHalf) : LinkHalf := { h with rx := .hunt, gapTime := none }

/-- A frame is abandoned: dropped and counted (R191). -/
def LinkHalf.abandon (h : LinkHalf) : LinkHalf := { h with abandoned := satInc h.abandoned }.toHunt

/-- The request of a frame's counted bytes: kind, tag, payload. -/
def rawRequest (bytes : List Byte) : RawRequest :=
  { kind := bytes.getD 0 0, tag := bytes.getD 1 0, payload := bytes.drop 2 }

/-- A complete frame is checked with CRC-16 over the count byte and the bytes after it, and decoded (R191). -/
def LinkHalf.complete (h : LinkHalf) (n : Nat) (bytes : List Byte) (hi lo : Byte) : LinkHalf :=
  if crc16 (byteOf n :: bytes) = hi ++ lo then (h.enqueue (rawRequest bytes)).toHunt
  else { h with crcFail := satInc h.crcFail }.toHunt

/-- The assembler goes on in a state, its gap timer started again. -/
def LinkHalf.goOn (h : LinkHalf) (rx : Rx) : LinkHalf := { h with rx := rx, gapTime := some 0 }

/-- A byte is received (R191). -/
def LinkHalf.receive (h : LinkHalf) (b : Byte) (framingError : Bool) : LinkHalf :=
  match h.rx with
  | .hunt => if b == 0xC3 && !framingError then h.goOn .count else h
  | .count =>
    if framingError then h.abandon
    else if within 2 252 b.toNat then h.goOn (.body b.toNat [])
    else h.abandon
  | .body n bytes =>
    if framingError then h.abandon
    else if bytes.length + 1 < n then h.goOn (.body n (bytes ++ [b]))
    else h.goOn (.check n (bytes ++ [b]) none)
  | .check n bytes none => if framingError then h.abandon else h.goOn (.check n bytes (some b))
  | .check n bytes (some hi) => if framingError then h.abandon else h.complete n bytes hi b

/-- BYTE_RECEIVED (R191, R192). -/
def execByteReceived (l : LinkId) (b : Byte) (framingError : Bool) (s : State) : Host.Outcome State Fault Refusal :=
  .next (s.putHalf l ((s.half l).receive b framingError)).endOfEvent

/-- GAP_TIMEOUT (R191), while the gap timer runs in COUNT, BODY or CHECK. -/
def execGapTimeout (l : LinkId) (s : State) : Host.Outcome State Fault Refusal :=
  let h := s.half l
  let s := if h.rx = .hunt then s else s.putHalf l h.abandon
  .next s.endOfEvent

/-- REQUEST_TAKE (R192, R193): the request at the head of the link's queue, when the link may take one. R192 has it taken in the
first event at which the link may; here it is a command of its own, which may come at any later one (DESIGN CHOICE:
notes/assumptions/52.md). -/
def execRequestTake (l : LinkId) (s : State) : Host.Outcome State Fault Refusal := .next (s.takeRequest l).endOfEvent

/-- The frame is the DONE reply of a RESET (R198). -/
def Frame.isReset : Frame → Bool
  | .reply r => r.kind == 0xC7 && r.status == .done
  | .notice _ _ => false

/-- FRAME_SENT (R195, R198): the last byte of the frame on a link has been sent; after the reply of a RESET the part
resets. -/
def execFrameSent (l : LinkId) (s : State) : Host.Outcome State Fault Refusal :=
  let h := s.half l
  let s := match h.tx with
    | some f => if h.resetWait && f.isReset then State.resetWith s.pins s.pending else s.putHalf l { h with tx := none }
    | none => s
  .next s.endOfEvent

end Sys2Proof.Machine
end

