-- ==== Sys2Proof/Machine/Monitor.lean ====
section
/-! DEFINITION. The requests of class MONITOR. Each is the request that arrives on a link: taken at
once where the link may take it, its reply queued, else offered to the request queue (12). -/

namespace Sys2Proof.Machine

/-- IDENTIFY (R197). -/
def execIdentify (l : LinkId) (tag : Byte) (s : State) : Host.Outcome State Fault Refusal :=
  .next (s.request l tag (identifyService l)).endOfEvent

/-- LINE_STATUS (R190). -/
def execLineStatus (l : LinkId) (tag : Byte) (s : State) : Host.Outcome State Fault Refusal :=
  .next (s.request l tag lineStatusService).endOfEvent

/-- PROBE (R22). -/
def execProbe (l : LinkId) (tag : Byte) (datum : Count) (s : State) : Host.Outcome State Fault Refusal :=
  .next (s.request l tag (probeService datum)).endOfEvent

/-- STATION_STATUS (R72, R75). -/
def execStationStatus (l : LinkId) (tag : Byte) (station : Byte) (s : State) : Host.Outcome State Fault Refusal :=
  .next (s.request l tag (stationStatusService station)).endOfEvent

/-- EMBOSS_STATUS (R95, R97). -/
def execEmbossStatus (l : LinkId) (tag : Byte) (s : State) : Host.Outcome State Fault Refusal :=
  .next (s.request l tag embossStatusService).endOfEvent

/-- SHADE_STATUS (R113). -/
def execShadeStatus (l : LinkId) (tag : Byte) (s : State) : Host.Outcome State Fault Refusal :=
  .next (s.request l tag shadeStatusService).endOfEvent

/-- WINDER_STATUS (R133). -/
def execWinderStatus (l : LinkId) (tag : Byte) (s : State) : Host.Outcome State Fault Refusal :=
  .next (s.request l tag winderStatusService).endOfEvent

/-- ROLL_READ (R146). -/
def execRollRead (l : LinkId) (tag : Byte) (seq : BitVec 32) (s : State) : Host.Outcome State Fault Refusal :=
  .next (s.request l tag (rollReadService seq)).endOfEvent

/-- BATCH_REPORT (R162). -/
def execBatchReport (l : LinkId) (tag : Byte) (s : State) : Host.Outcome State Fault Refusal :=
  .next (s.request l tag batchReportService).endOfEvent

/-- BATCH_READ (R163). -/
def execBatchRead (l : LinkId) (tag : Byte) (index : Byte) (s : State) : Host.Outcome State Fault Refusal :=
  .next (s.request l tag (batchReadService index)).endOfEvent

/-- LABEL_STATUS (R177). -/
def execLabelStatus (l : LinkId) (tag : Byte) (s : State) : Host.Outcome State Fault Refusal :=
  .next (s.request l tag labelStatusService).endOfEvent

/-- NOTICE_MASK (R196). -/
def execNoticeMask (l : LinkId) (tag : Byte) (mask : BitVec 16) (s : State) : Host.Outcome State Fault Refusal :=
  .next (s.request l tag (noticeMaskService l mask)).endOfEvent

end Sys2Proof.Machine
end

