-- ==== Sys2Proof/Machine/Operate.lean ====
section
/-! DEFINITION. The requests of class OPERATE. Each is the request that arrives on a link: taken at
once where the link may take it, its reply queued, else offered to the request queue (12). -/

namespace Sys2Proof.Machine

/-- START (R42, R118, R182). -/
def execStart (l : LinkId) (tag : Byte) (s : State) : Host.Outcome State Fault Refusal :=
  .next (s.request l tag startService).endOfEvent

/-- HOLD (R184). -/
def execHold (l : LinkId) (tag : Byte) (s : State) : Host.Outcome State Fault Refusal :=
  .next (s.request l tag holdService).endOfEvent

/-- RESUME (R185). -/
def execResume (l : LinkId) (tag : Byte) (s : State) : Host.Outcome State Fault Refusal :=
  .next (s.request l tag resumeService).endOfEvent

/-- END_JOB (R130, R131, R186). -/
def execEndJob (l : LinkId) (tag : Byte) (s : State) : Host.Outcome State Fault Refusal :=
  .next (s.request l tag endJobService).endOfEvent

/-- ABORT_JOB (R132, R187). -/
def execAbortJob (l : LinkId) (tag : Byte) (s : State) : Host.Outcome State Fault Refusal :=
  .next (s.request l tag abortJobService).endOfEvent

/-- STATION_ENGAGE (R70). -/
def execStationEngage (l : LinkId) (tag : Byte) (station : Byte) (s : State) : Host.Outcome State Fault Refusal :=
  .next (s.request l tag (stationEngageService station)).endOfEvent

/-- STATION_DISENGAGE (R69). -/
def execStationDisengage (l : LinkId) (tag : Byte) (station : Byte) (s : State) :
    Host.Outcome State Fault Refusal :=
  .next (s.request l tag (stationDisengageService station)).endOfEvent

/-- TUNE_STATION (R71). -/
def execTuneStation (l : LinkId) (tag : Byte) (station : Byte) (gain deadband : BitVec 16) (averaging : Byte)
    (tolerance : BitVec 16) (s : State) : Host.Outcome State Fault Refusal :=
  .next (s.request l tag (tuneStationService station gain deadband averaging tolerance)).endOfEvent

/-- EMBOSS_LIFT (R93). -/
def execEmbossLift (l : LinkId) (tag : Byte) (s : State) : Host.Outcome State Fault Refusal :=
  .next (s.request l tag embossLiftService).endOfEvent

/-- EMBOSS_CLOSE (R94). -/
def execEmbossClose (l : LinkId) (tag : Byte) (s : State) : Host.Outcome State Fault Refusal :=
  .next (s.request l tag embossCloseService).endOfEvent

/-- MARK_EVENT (R18). -/
def execMarkEvent (l : LinkId) (tag : Byte) (s : State) : Host.Outcome State Fault Refusal :=
  .next (s.request l tag markEventService).endOfEvent

/-- RELEASE_ENTRIES (R125, R145). -/
def execReleaseEntries (l : LinkId) (tag : Byte) (seq : BitVec 32) (s : State) : Host.Outcome State Fault Refusal :=
  .next (s.request l tag (releaseService seq)).endOfEvent

/-- REPRINT (R176). -/
def execReprint (l : LinkId) (tag : Byte) (seq : BitVec 32) (printer : Byte) (s : State) :
    Host.Outcome State Fault Refusal :=
  .next (s.request l tag (reprintService seq printer)).endOfEvent

/-- CLOSE_BATCH (R159). -/
def execCloseBatch (l : LinkId) (tag : Byte) (code : BitVec 16) (s : State) : Host.Outcome State Fault Refusal :=
  .next (s.request l tag (closeBatchService code)).endOfEvent

/-- HEAD_RESET (R107). -/
def execHeadReset (l : LinkId) (tag : Byte) (s : State) : Host.Outcome State Fault Refusal :=
  .next (s.request l tag headResetService).endOfEvent

/-- PRINTER_RESET (R173). -/
def execPrinterReset (l : LinkId) (tag : Byte) (printer : Byte) (s : State) : Host.Outcome State Fault Refusal :=
  .next (s.request l tag (printerResetService printer)).endOfEvent

end Sys2Proof.Machine
end

