-- ==== Sys2Proof/Machine/Scan.lean ====
section
/-! DEFINITION. Commands of the mark scanner, the stations and the step channels (02, 04). -/

namespace Sys2Proof.Machine

/-- MARK_EDGE (R4, R23): taken while a job runs and not in reverse travel. -/
def execMarkEdge (s : State) : Host.Outcome State Fault Refusal :=
  let s := if s.running && !s.reverse then s.withJob fun j => s.takeEdge j s.wpu.h else s
  .next s.endOfEvent

/-- The current window is that of LOCKED or FLYWHEEL. -/
def Msc.tracking (m : Msc) : Bool := m.refState == .locked || m.refState == .flywheel

/-- REFERENCE_WINDOW_EXPIRY (R29, R30), when H has reached it. -/
def execReferenceWindowExpiry (s : State) : Host.Outcome State Fault Refusal :=
  let s := s.withJob fun j => if s.msc.tracking && s.expiryDue j then s.referenceExpiry j else s
  .next s.endOfEvent

/-- REACQUISITION_WINDOW_EXPIRY (R31), when H has reached it. -/
def execReacquisitionWindowExpiry (s : State) : Host.Outcome State Fault Refusal :=
  let s := s.withJob fun j => if s.msc.refState == .lost && s.expiryDue j then s.reacquisitionExpiry j else s
  .next s.endOfEvent

/-- CAPTURE_CLOSE (R35): the closing of a MARKED repeat, first among the pending closings, is due. -/
def execCaptureClose (s : State) : Host.Outcome State Fault Refusal :=
  let s := s.withJob fun j =>
    match s.closingDue j with
    | some c => if c.kind = .marked then s.closeCapture j c else s
    | none => s
  .next s.endOfEvent

/-- FLYWHEEL_CLOSING (R36): the closing of a FLYWHEEL repeat, first among the pending closings, is due. -/
def execFlywheelClosing (s : State) : Host.Outcome State Fault Refusal :=
  let s := s.withJob fun j =>
    match s.closingDue j with
    | some c => if c.kind = .flywheel then s.closeFlywheel c else s
    | none => s
  .next s.endOfEvent

/-- H has reached a station's settle end (R65). -/
def State.settleDue (s : State) (i : StationId) : Bool :=
  (s.station i).st == .settling && (s.station i).settleEnd.any s.at

/-- SETTLE_END (R65): the station becomes TRACKING with its accumulator empty. -/
def execSettleEnd (i : StationId) (s : State) : Host.Outcome State Fault Refusal :=
  let s :=
    if s.settleDue i then s.putStation i { s.station i with st := .tracking, acc := [], settleEnd := none } else s
  .next s.endOfEvent

/-- A channel emits one step (R67). -/
def Channel.emit (c : Channel) : Channel :=
  { c with emitted := c.emitted + 1, remaining := c.remaining - 1, inFlight := decide (1 < c.remaining),
           stepHigh := true, highLeft := c.period / 2, toStep := c.period }

/-- The owner of a channel takes its completion (R64, R67, R89). -/
def State.trainDone (s : State) (c : ChannelId) : State :=
  if h : c.val < 8 then s.stationTrainDone ⟨c.val, h⟩ else s.embossTrainDone

/-- STEP_PULSE (R67), on a channel in flight. -/
def execStepPulse (c : ChannelId) (s : State) : Host.Outcome State Fault Refusal :=
  let x := s.chan c
  let s :=
    if x.inFlight then
      let s := s.putChan c x.emit
      if x.emit.inFlight then s else s.trainDone c
    else s
  .next s.endOfEvent

/-- STEP_PULSE_END (R67): the step output falls. -/
def execStepPulseEnd (c : ChannelId) (s : State) : Host.Outcome State Fault Refusal :=
  .next (s.putChan c { s.chan c with stepHigh := false, highLeft := 0 }).endOfEvent

end Sys2Proof.Machine
end

