-- ==== Sys2Proof/Machine/Shade.lean ====
section
/-! DEFINITION. Commands of the colour head port (06). -/

namespace Sys2Proof.Machine

/-- The start point at the head of the start list, when H has reached it, with the rest of the list (R101). -/
def State.startDue (s : State) : Option (BitVec 32 × List (BitVec 32 × Count)) :=
  match s.shu.starts with
  | x :: rest => if s.at x.2 then some (x.1, rest) else none
  | [] => none

/-- SHADE_START_POINT (R101, R102). -/
def execShadeStartPoint (s : State) : Host.Outcome State Fault Refusal :=
  let s := s.withJob fun j =>
    match s.startDue with
    | some x => s.startPoint j x.1 x.2
    | none => s
  .next s.endOfEvent

/-- TRIGGER_PULSE_END (R98): TRIGGER falls. -/
def execTriggerPulseEnd (s : State) : Host.Outcome State Fault Refusal :=
  .next ({ s with shu := { s.shu with trigger := false, triggerLeft := 0 } }).endOfEvent

/-- The answer of the head: the timer stops, the smear is decided, the read begins (R98, R103). Where an abandoned read still
runs on the port, the head is READING over the selection that runs (DESIGN CHOICE: notes/assumptions/43.md). -/
def State.headAnswers (s : State) (j : Job) (m : Measurement) : State :=
  { s with shu := { s.shu with
      head := .reading, select := true,
      meas := some { m with timeout := none,
                            smeared := decide ((j.spanLimit : Int) < ahead s.wpu.h m.trigPos) } } }

/-- DATA_READY (R103): a rising edge, taken in ACQUIRING and ignored in any other head state. -/
def execDataReady (s : State) : Host.Outcome State Fault Refusal :=
  let s := s.withJob fun j =>
    match s.shu.head, s.shu.meas with
    | .acquiring, some m => s.headAnswers j m
    | _, _ => s
  .next s.endOfEvent

/-- READ_COMPLETE (R98, R104): the sixth byte of the read on the port, L, a and b high byte first. -/
def execReadComplete (lHi lLo aHi aLo bHi bLo : Byte) (s : State) : Host.Outcome State Fault Refusal :=
  let raw : Shade := { l := (lHi ++ lLo).toInt, a := (aHi ++ aLo).toInt, b := (bHi ++ bLo).toInt }
  let s := if s.shu.select then s.withJob fun j => s.readDone j raw else s
  .next s.endOfEvent

/-- HEAD_TIMEOUT (R105): the timeout timer of the measurement in flight, in ACQUIRING. -/
def execHeadTimeout (s : State) : Host.Outcome State Fault Refusal :=
  let s :=
    match s.shu.head, s.shu.meas with
    | .acquiring, some m => s.headTimedOut m
    | _, _ => s
  .next s.endOfEvent

end Sys2Proof.Machine
end

