-- ==== Sys2Proof/Machine/Web.lean ====
section
/-! DEFINITION. Commands of the reset, the web encoder and its timers (01, 11). -/

namespace Sys2Proof.Machine

/-- PART_RESET (R8, R178): every block takes its part-reset values, with the straps and levels then at the inputs. The
commands that wait go on waiting (notes/assumptions/27.md). -/
def execPartReset (pins : Pins) (s : State) : Host.Outcome State Fault Refusal :=
  .next (State.resetWith pins s.pending).endOfEvent

/-- The change of a line is in the forward order (R1). -/
def forwardChange (p : Pins) : EncoderLine → Bool
  | .a => p.encA == p.encB
  | .b => p.encA != p.encB

/-- The lines after the change of one of them. -/
def flipLine (p : Pins) : EncoderLine → Pins
  | .a => { p with encA := !p.encA }
  | .b => { p with encB := !p.encB }

/-- The WPU after a valid transition that does not yet move H: W, the direction, the stopped timer (R1, R7). -/
def Wpu.move (u : Wpu) (forward : Bool) : Wpu :=
  { u with w := if forward then u.w + 1 else u.w - 1, direction := if forward then .forward else .reverse,
           stopped := false, stoppedTime := 0 }

/-- H has advanced by one count (R3): the first advance after reverse travel is an opening occasion of the defect line
(R17), and a waiting cut fires when its conditions hold (R125). Positions that H reaches fall due. Where both fall in one
advance the opening occasion comes first, so that a DEFECT, or the EVENT_LOST flag of a full list, meets the entry before
the cut (DESIGN CHOICE: notes/assumptions/40.md). -/
def State.advance (s : State) : State :=
  let after := s.wpu.reversed
  let s := { s with wpu := { s.wpu with h := s.wpu.w, reversed := false } }
  s.withJob fun j =>
    let s := if after then s.openingOccasion j else s
    (s.tryWaiting j).tailCheck j

/-- ENCODER_TRANSITION (R1, R3, R4, R7). -/
def execEncoderTransition (line : EncoderLine) (s : State) : Host.Outcome State Fault Refusal :=
  let forward := forwardChange s.pins line
  let s := { s with pins := flipLine s.pins line, wpu := s.wpu.move forward }
  let s :=
    if 0 < ahead s.wpu.w s.wpu.h then s.advance
    else if s.reverse then { s with wpu := { s.wpu with reversed := true } }
    else s
  .next s.endOfEvent

/-- ENCODER_FAULT (R2): both lines have changed between two samples. -/
def execEncoderFault (s : State) : Host.Outcome State Fault Refusal :=
  let s := { s with pins := { s.pins with encA := !s.pins.encA, encB := !s.pins.encB },
                    wpu := { s.wpu with faultCount := satInc s.wpu.faultCount, encoderCond := true,
                                        faultInWindow := true } }
  .next (s.raiseCause .encoder).endOfEvent

/-- The speed of a window: 100 times its net forward travel (R5). -/
def windowSpeed (now start : Count) : Nat := 100 * (ahead now start).toNat

/-- The overspeed limit v_max + floor(v_max / 10) (R6). -/
def Job.overspeedLimit (j : Job) : Nat := j.vMax + j.vMax / 10

/-- The speed window's end at the WPU: v, the ENCODER condition, and the next window (R2, R5). -/
def Wpu.closeWindow (u : Wpu) : Wpu :=
  { u with v := windowSpeed u.w u.windowStart, encoderCond := u.encoderCond && u.faultInWindow, faultInWindow := false,
           windowStart := u.w, windowTime := 0 }

/-- The comparison with the overspeed limit (R6). -/
def State.checkSpeed (s : State) (j : Job) : State :=
  if j.overspeedLimit < s.wpu.v then
    let second := s.wpu.overCount == 1
    let s := { s with wpu := { s.wpu with
      overCount := min 2 (s.wpu.overCount + 1), overspeedCond := s.wpu.overspeedCond || second } }
    if second then s.raiseCause .overspeed else s
  else { s with wpu := { s.wpu with overCount := 0, overspeedCond := false } }

/-- SPEED_WINDOW_END (R2, R5, R6, R77). -/
def execSpeedWindowEnd (s : State) : Host.Outcome State Fault Refusal :=
  let s := { s with wpu := s.wpu.closeWindow }
  let s := s.withJob s.checkSpeed
  .next s.evaluateNip.endOfEvent

/-- STOPPED_FLAG_SET (R7, R131). -/
def execStoppedFlagSet (s : State) : Host.Outcome State Fault Refusal :=
  let s :=
    if s.wpu.stopped then s
    else
      let s := { s with wpu := { s.wpu with stopped := true, stoppedTime := Config.stoppedLimit } }
      s.withJob s.tailCheck
  .next s.endOfEvent

end Sys2Proof.Machine
end

