-- ==== Sys2Proof/Machine/Winder.lean ====
section
/-! DEFINITION. Commands of the winder (07). -/

namespace Sys2Proof.Machine

/-- CUT_DUE (R123 to R126, R131): the planned cut has fallen due and is fired or refused. -/
def execCutDue (s : State) : Host.Outcome State Fault Refusal :=
  let s := s.withJob fun j =>
    match s.cutDueAt j with
    | some x => (s.takeCut j x.1 x.2.1 x.2.2).tailCheck j
    | none => s
  .next s.endOfEvent

/-- OVERLENGTH_CONDITION (R126), when it is due. -/
def execOverlengthCondition (s : State) : Host.Outcome State Fault Refusal :=
  .next (s.withJob s.checkOverlength).endOfEvent

/-- TRANSFER_TIMER_EXPIRY (R127). -/
def execTransferTimerExpiry (s : State) : Host.Outcome State Fault Refusal :=
  .next ({ s with wnd := { s.wnd with transfer := none } }).endOfEvent

/-- KNIFE_PULSE_END (R115). -/
def execKnifePulseEnd (s : State) : Host.Outcome State Fault Refusal :=
  .next ({ s with wnd := { s.wnd with knife := none } }).endOfEvent

/-- TURRET_PULSE_END (R115). -/
def execTurretPulseEnd (s : State) : Host.Outcome State Fault Refusal :=
  .next ({ s with wnd := { s.wnd with turret := none } }).endOfEvent

/-- TORQUE_UPDATE (R129), when the wound length has reached a further multiple of 1,000. -/
def execTorqueUpdate (s : State) : Host.Outcome State Fault Refusal :=
  let s := s.withJob fun j => if s.torqueDue j then s.torqueStep j else s
  .next s.endOfEvent

/-- DOFF (R116, R128, R175): taken in every line state and in both directions of travel. -/
def execDoff (k : Spindle) (s : State) : Host.Outcome State Fault Refusal := .next (s.takeDoff k).endOfEvent

end Sys2Proof.Machine
end

