-- ==== Sys2Proof/Machine/Dispatch.lean ====
section
/-! DEFINITION. The meaning of every command: one arm for each constructor of Instr. -/

namespace Sys2Proof.Machine

/-- The effect of a command on everything but the queue of commands. -/
def exec (i : Instr) (s : State) : Host.Outcome State Fault Refusal :=
  match i with
  | .partReset pins => Sys2Proof.Machine.execPartReset pins s
  | .encoderTransition line => Sys2Proof.Machine.execEncoderTransition line s
  | .encoderFault => Sys2Proof.Machine.execEncoderFault s
  | .speedWindowEnd => Sys2Proof.Machine.execSpeedWindowEnd s
  | .stoppedFlagSet => Sys2Proof.Machine.execStoppedFlagSet s
  | .markEdge => Sys2Proof.Machine.execMarkEdge s
  | .referenceWindowExpiry => Sys2Proof.Machine.execReferenceWindowExpiry s
  | .reacquisitionWindowExpiry => Sys2Proof.Machine.execReacquisitionWindowExpiry s
  | .captureClose => Sys2Proof.Machine.execCaptureClose s
  | .flywheelClosing => Sys2Proof.Machine.execFlywheelClosing s
  | .settleEnd station => Sys2Proof.Machine.execSettleEnd station s
  | .stepPulse channel => Sys2Proof.Machine.execStepPulse channel s
  | .splicePulse => Sys2Proof.Machine.execSplicePulse s
  | .defectLineRise => Sys2Proof.Machine.execDefectLineRise s
  | .defectLineFall => Sys2Proof.Machine.execDefectLineFall s
  | .defectLengthLimit => Sys2Proof.Machine.execDefectLengthLimit s
  | .operatorButton => Sys2Proof.Machine.execOperatorButton s
  | .eventAttribution => Sys2Proof.Machine.execEventAttribution s
  | .eventRemoval => Sys2Proof.Machine.execEventRemoval s
  | .recordFold => Sys2Proof.Machine.execRecordFold s
  | .engageTimerExpiry => Sys2Proof.Machine.execEngageTimerExpiry s
  | .liftTimerExpiry => Sys2Proof.Machine.execLiftTimerExpiry s
  | .liftCoverageBegin => Sys2Proof.Machine.execLiftCoverageBegin s
  | .liftCoverageEnd => Sys2Proof.Machine.execLiftCoverageEnd s
  | .liftCheck => Sys2Proof.Machine.execLiftCheck s
  | .indexEdge => Sys2Proof.Machine.execIndexEdge s
  | .embossWindowExpiry => Sys2Proof.Machine.execEmbossWindowExpiry s
  | .embossStatusWrite => Sys2Proof.Machine.execEmbossStatusWrite s
  | .shadeStartPoint => Sys2Proof.Machine.execShadeStartPoint s
  | .triggerPulseEnd => Sys2Proof.Machine.execTriggerPulseEnd s
  | .dataReady => Sys2Proof.Machine.execDataReady s
  | .readComplete lHi lLo aHi aLo bHi bLo => Sys2Proof.Machine.execReadComplete lHi lLo aHi aLo bHi bLo s
  | .headTimeout => Sys2Proof.Machine.execHeadTimeout s
  | .cutDue => Sys2Proof.Machine.execCutDue s
  | .overlengthCondition => Sys2Proof.Machine.execOverlengthCondition s
  | .transferTimerExpiry => Sys2Proof.Machine.execTransferTimerExpiry s
  | .knifePulseEnd => Sys2Proof.Machine.execKnifePulseEnd s
  | .turretPulseEnd => Sys2Proof.Machine.execTurretPulseEnd s
  | .torqueUpdate => Sys2Proof.Machine.execTorqueUpdate s
  | .doff spindle => Sys2Proof.Machine.execDoff spindle s
  | .printerReadyChange printer level => Sys2Proof.Machine.execPrinterReadyChange printer level s
  | .labelTransferEnd verdict => Sys2Proof.Machine.execLabelTransferEnd verdict s
  | .printerTimeout printer => Sys2Proof.Machine.execPrinterTimeout printer s
  | .applied printer => Sys2Proof.Machine.execApplied printer s
  | .byteReceived link byte framingError => Sys2Proof.Machine.execByteReceived link byte framingError s
  | .gapTimeout link => Sys2Proof.Machine.execGapTimeout link s
  | .requestTake link => Sys2Proof.Machine.execRequestTake link s
  | .frameSent link => Sys2Proof.Machine.execFrameSent link s
  | .identify link tag => Sys2Proof.Machine.execIdentify link tag s
  | .lineStatus link tag => Sys2Proof.Machine.execLineStatus link tag s
  | .probe link tag datum => Sys2Proof.Machine.execProbe link tag datum s
  | .stationStatus link tag station => Sys2Proof.Machine.execStationStatus link tag station s
  | .embossStatus link tag => Sys2Proof.Machine.execEmbossStatus link tag s
  | .shadeStatus link tag => Sys2Proof.Machine.execShadeStatus link tag s
  | .winderStatus link tag => Sys2Proof.Machine.execWinderStatus link tag s
  | .rollRead link tag seq => Sys2Proof.Machine.execRollRead link tag seq s
  | .batchReport link tag => Sys2Proof.Machine.execBatchReport link tag s
  | .batchRead link tag index => Sys2Proof.Machine.execBatchRead link tag index s
  | .labelStatus link tag => Sys2Proof.Machine.execLabelStatus link tag s
  | .noticeMask link tag mask => Sys2Proof.Machine.execNoticeMask link tag mask s
  | .start link tag => Sys2Proof.Machine.execStart link tag s
  | .hold link tag => Sys2Proof.Machine.execHold link tag s
  | .resume link tag => Sys2Proof.Machine.execResume link tag s
  | .endJob link tag => Sys2Proof.Machine.execEndJob link tag s
  | .abortJob link tag => Sys2Proof.Machine.execAbortJob link tag s
  | .stationEngage link tag station => Sys2Proof.Machine.execStationEngage link tag station s
  | .stationDisengage link tag station => Sys2Proof.Machine.execStationDisengage link tag station s
  | .tuneStation link tag station gain deadband averaging tolerance => Sys2Proof.Machine.execTuneStation link tag station gain deadband averaging tolerance s
  | .embossLift link tag => Sys2Proof.Machine.execEmbossLift link tag s
  | .embossClose link tag => Sys2Proof.Machine.execEmbossClose link tag s
  | .markEvent link tag => Sys2Proof.Machine.execMarkEvent link tag s
  | .releaseEntries link tag seq => Sys2Proof.Machine.execReleaseEntries link tag seq s
  | .reprint link tag seq printer => Sys2Proof.Machine.execReprint link tag seq printer s
  | .closeBatch link tag code => Sys2Proof.Machine.execCloseBatch link tag code s
  | .headReset link tag => Sys2Proof.Machine.execHeadReset link tag s
  | .printerReset link tag printer => Sys2Proof.Machine.execPrinterReset link tag printer s
  | .loadJob link tag payload => Sys2Proof.Machine.execLoadJob link tag payload s
  | .setStation link tag payload => Sys2Proof.Machine.execSetStation link tag payload s
  | .pinBatch link tag code l a b => Sys2Proof.Machine.execPinBatch link tag code l a b s
  | .purgeBatches link tag first last includePinned => Sys2Proof.Machine.execPurgeBatches link tag first last includePinned s
  | .setBatchCode link tag code => Sys2Proof.Machine.execSetBatchCode link tag code s
  | .grantService link tag => Sys2Proof.Machine.execGrantService link tag s
  | .revokeService link tag => Sys2Proof.Machine.execRevokeService link tag s
  | .reset link tag => Sys2Proof.Machine.execReset link tag s
  | .stepPulseEnd channel => Sys2Proof.Machine.execStepPulseEnd channel s
  | .pwmPeriodStart generator => Sys2Proof.Machine.execPwmPeriodStart generator s

end Sys2Proof.Machine
end

