-- ==== Sys2Proof/Machine/Idle.lean ====
section
/-! DEFINITION. What the part does while no command waits: a step that has fallen due, else one cycle of the 40 MHz
reference clock (notes/assumptions/3.md). -/

namespace Sys2Proof.Machine

/-! ### Steps that have fallen due -/

/-- A closing of a kind is due (R35, R36). -/
def State.closingKindDue (s : State) (j : Job) (kind : OriginKind) : Bool :=
  (s.closingDue j).any fun c => c.kind == kind

/-- The steps that wait for H under a job, each with whether it is due (R3); one owner's steps stand in the order its
rules give. -/
def State.positionSteps (s : State) (j : Job) : List (Bool × Instr) :=
  [(s.msc.tracking && s.expiryDue j, .referenceWindowExpiry),
   (s.msc.refState == .lost && s.expiryDue j, .reacquisitionWindowExpiry),
   (s.closingKindDue j .marked, .captureClose),
   (s.closingKindDue j .flywheel, .flywheelClosing),
   (s.trk.events.any fun e => s.coverBeginDue j e, .liftCoverageBegin),
   (s.trk.events.any fun e => s.liftCheckDue j e, .liftCheck),
   (s.coverEndDue j, .liftCoverageEnd),
   ((s.windowDue j).isSome, .embossWindowExpiry),
   ((embossWriteDue s j s.trk.records).isSome, .embossStatusWrite),
   (s.startDue.isSome, .shadeStartPoint),
   ((s.cutDueAt j).isSome, .cutDue),
   (s.overlengthDue j, .overlengthCondition),
   (s.torqueDue j, .torqueUpdate),
   (s.trk.events.any fun e => s.attributionDue j e, .eventAttribution),
   (s.trk.events.any fun e => s.removalDue j e, .eventRemoval),
   (s.defectLimitDue j, .defectLengthLimit),
   (s.foldDue j, .recordFold)]

/-- The settle ends of the stations (R65). -/
def State.settleSteps (s : State) : List (Bool × Instr) :=
  (List.finRange 8).map fun i => (s.settleDue i, .settleEnd i)

/-- The steps and pulse ends of the nine channels (R67). -/
def State.channelSteps (s : State) : List (Bool × Instr) :=
  (List.finRange 9).flatMap fun c =>
    [((s.chan c).inFlight && (s.chan c).toStep == 0, .stepPulse c),
     ((s.chan c).stepHigh && (s.chan c).highLeft == 0, .stepPulseEnd c)]

/-- A timer that counts down has run out. -/
def ranOut (t : Option Nat) : Bool := t == some 0

/-- The other timers of the part. -/
def State.timerSteps (s : State) : List (Bool × Instr) :=
  [(decide (Config.speedWindow ≤ s.wpu.windowTime), .speedWindowEnd),
   (!s.wpu.stopped && decide (Config.stoppedLimit ≤ s.wpu.stoppedTime), .stoppedFlagSet),
   (s.emb.nip == .engaging && ranOut s.emb.nipTime, .engageTimerExpiry),
   (s.emb.nip == .lifting && ranOut s.emb.nipTime, .liftTimerExpiry),
   (decide (s.emb.pwm.length ≤ s.emb.pwm.cycle), .pwmPeriodStart .nip),
   (decide (s.wnd.pwm.length ≤ s.wnd.pwm.cycle), .pwmPeriodStart .torque),
   (s.shu.trigger && s.shu.triggerLeft == 0, .triggerPulseEnd),
   (s.shu.head == .acquiring && (s.shu.meas.any fun m => ranOut m.timeout), .headTimeout),
   (ranOut s.wnd.transfer, .transferTimerExpiry),
   (ranOut s.wnd.knife, .knifePulseEnd),
   (ranOut s.wnd.turret, .turretPulseEnd),
   (s.lbc.printerA.timer.any fun t => decide (Config.printerTimeout ≤ t), .printerTimeout .a),
   (s.lbc.printerB.timer.any fun t => decide (Config.printerTimeout ≤ t), .printerTimeout .b)]

/-- A link has a request to take, and may reply (R192); its gap timer has run out (R191). -/
def State.linkSteps (s : State) (l : LinkId) : List (Bool × Instr) :=
  [(!(s.half l).requests.isEmpty && s.mayReply l, .requestTake l),
   ((s.half l).gapTime.any fun t => decide (Config.gapLimit ≤ t), .gapTimeout l)]

/-- The first step that has fallen due. -/
def State.nextDue (s : State) : Option Instr :=
  let positions := match s.lsc.job with
    | some j => s.positionSteps j
    | none => []
  ((positions ++ s.settleSteps ++ s.channelSteps ++ s.timerSteps ++ s.linkSteps .line ++ s.linkSteps .service).find?
    Prod.fst).map Prod.snd

/-! ### One cycle of the reference clock -/

/-- A channel in one cycle. -/
def Channel.tick (c : Channel) : Channel :=
  { c with toStep := if c.inFlight then c.toStep - 1 else c.toStep,
           highLeft := if c.stepHigh then c.highLeft - 1 else c.highLeft }

/-- A generator in one cycle. -/
def Pwm.tick (p : Pwm) : Pwm := { p with cycle := p.cycle + 1 }

/-- A timer that counts down, in one cycle. -/
def countDown (t : Option Nat) : Option Nat := t.map fun n => n - 1

/-- A timer that counts up, in one cycle. -/
def countUp (t : Option Nat) : Option Nat := t.map fun n => n + 1

/-- The measurement in flight in one cycle. -/
def Measurement.tick (m : Measurement) : Measurement := { m with since := m.since + 1, timeout := countDown m.timeout }

/-- A printer in one cycle. -/
def PrinterState.tick (p : PrinterState) : PrinterState := { p with timer := countUp p.timer }

/-- A link in one cycle. -/
def LinkHalf.tick (h : LinkHalf) : LinkHalf := { h with gapTime := countUp h.gapTime }

/-- One cycle of the reference clock passes: every timer that runs moves by one cycle (3.4, R5, R7, R67, R76, R83, R98,
R102, R115, R127, R169, R172, R191). -/
def State.clockCycle (s : State) : State :=
  { s with
    wpu := { s.wpu with windowTime := s.wpu.windowTime + 1,
                        stoppedTime := if s.wpu.stopped then s.wpu.stoppedTime else s.wpu.stoppedTime + 1 }
    stg := { channels := s.stg.channels.map Channel.tick }
    emb := { s.emb with nipTime := countDown s.emb.nipTime, pwm := s.emb.pwm.tick }
    shu := { s.shu with meas := s.shu.meas.map Measurement.tick, triggerLeft := s.shu.triggerLeft - 1 }
    wnd := { s.wnd with transfer := countDown s.wnd.transfer, knife := countDown s.wnd.knife,
                        turret := countDown s.wnd.turret, pwm := s.wnd.pwm.tick }
    lbc := { s.lbc with channel := s.lbc.channel.map fun t => { t with left := t.left - 1 },
                        printerA := s.lbc.printerA.tick, printerB := s.lbc.printerB.tick }
    lnk := { line := s.lnk.line.tick, service := s.lnk.service.tick } }

end Sys2Proof.Machine
end

