-- ==== Sys2Proof/Machine/Step.lean ====
section
/-! DEFINITION. The step: the command at the front of the queue, or what the part does while none waits. -/

namespace Sys2Proof.Machine

/-- The part while no command waits: a step that has fallen due, else one clock cycle (notes/assumptions/3.md). -/
def State.idle (s : State) : Host.Outcome State Fault Refusal :=
  match s.nextDue with
  | some c => exec c s
  | none => .next s.clockCycle

/-- One step of the part. -/
def step (s : State) : Host.Outcome State Fault Refusal :=
  match s.pending with
  | c :: rest => exec c { s with pending := rest }
  | [] => s.idle

/-- The command that a word spells, at the front of the queue; a word that spells none changes nothing. -/
def State.withFetchWord (s : State) (nbits w : Nat) : State :=
  match decodeTableWord nbits w with
  | some c => { s with pending := c :: s.pending }
  | none => s

end Sys2Proof.Machine
end

