-- ==== Sys2Proof/Safety.lean ====
section
/-! DEFINITION. The terms in which claims are stated: which blocks a command may change, what the links have yet to send,
and the laws that every step keeps. -/

namespace Sys2Proof.Machine

/-! ### Blocks and frames -/

/-- The parts of the state: the inputs, the thirteen blocks that hold state, and the queue of commands. -/
inductive Block where
  | pins | wpu | trk | msc | rlp | stg | emb | shu | wnd | rlg | bat | lbc | lsc | lnk | pending
deriving DecidableEq, Repr

/-- A part of two states is the same. -/
def Block.same : Block → State → State → Prop
  | .pins, s, t => t.pins = s.pins
  | .wpu, s, t => t.wpu = s.wpu
  | .trk, s, t => t.trk = s.trk
  | .msc, s, t => t.msc = s.msc
  | .rlp, s, t => t.rlp = s.rlp
  | .stg, s, t => t.stg = s.stg
  | .emb, s, t => t.emb = s.emb
  | .shu, s, t => t.shu = s.shu
  | .wnd, s, t => t.wnd = s.wnd
  | .rlg, s, t => t.rlg = s.rlg
  | .bat, s, t => t.bat = s.bat
  | .lbc, s, t => t.lbc = s.lbc
  | .lsc, s, t => t.lsc = s.lsc
  | .lnk, s, t => t.lnk = s.lnk
  | .pending, s, t => t.pending = s.pending

/-- Every part but the listed ones is the same. -/
def SameBut (changed : List Block) (s t : State) : Prop := ∀ b : Block, b ∉ changed → b.same s t

/-- The blocks that a command may change, whatever the state (95_what_each_step_holds.md and the rules it names). Every
command may change what the links have yet to send. -/
def blocksOf : Instr → List Block
  | .partReset _ => [.pins, .wpu, .trk, .msc, .rlp, .stg, .emb, .shu, .wnd, .rlg, .bat, .lbc, .lsc, .lnk]
  | .encoderTransition _ => [.pins, .wpu, .trk, .rlg, .bat, .shu, .lbc, .wnd, .lsc, .emb, .lnk]
  | .encoderFault => [.pins, .wpu, .lsc, .emb, .lnk]
  | .speedWindowEnd => [.wpu, .lsc, .emb, .lnk]
  | .stoppedFlagSet => [.wpu, .trk, .msc, .rlp, .stg, .emb, .shu, .wnd, .rlg, .bat, .lbc, .lsc, .lnk]
  | .markEdge | .referenceWindowExpiry => [.msc, .trk, .shu, .emb, .wnd, .lsc, .lnk]
  | .reacquisitionWindowExpiry => [.msc, .trk, .shu, .emb, .wnd, .lnk]
  | .captureClose => [.msc, .trk, .rlp, .stg, .lsc, .emb, .lnk]
  | .flywheelClosing => [.msc, .trk, .rlp, .lnk]
  | .settleEnd _ => [.rlp, .lnk]
  | .stepPulse _ => [.stg, .rlp, .lsc, .emb, .lnk]
  | .stepPulseEnd _ => [.stg, .lnk]
  | .splicePulse | .operatorButton | .defectLengthLimit => [.trk, .emb, .wnd, .rlg, .lsc, .lnk]
  | .defectLineRise => [.pins, .trk, .emb, .wnd, .rlg, .lsc, .lnk]
  | .defectLineFall => [.pins, .trk, .emb, .lnk]
  | .eventAttribution => [.trk, .rlg, .lnk]
  | .eventRemoval => [.trk, .rlg, .emb, .lnk]
  | .recordFold => [.trk, .rlg, .bat, .shu, .lbc, .lnk]
  | .engageTimerExpiry | .liftTimerExpiry | .liftCoverageEnd | .embossWindowExpiry => [.emb, .lnk]
  | .liftCoverageBegin | .liftCheck => [.trk, .emb, .lnk]
  | .indexEdge => [.emb, .stg, .lnk]
  | .embossStatusWrite => [.trk, .lnk]
  | .shadeStartPoint => [.shu, .trk, .lnk]
  | .triggerPulseEnd | .dataReady => [.shu, .lnk]
  | .readComplete _ _ _ _ _ _ => [.shu, .trk, .rlg, .lnk]
  | .headTimeout => [.shu, .trk, .lsc, .emb, .lnk]
  | .cutDue | .doff _ => [.trk, .msc, .rlp, .stg, .emb, .shu, .wnd, .rlg, .bat, .lbc, .lsc, .lnk]
  | .overlengthCondition => [.wnd, .lsc, .emb, .lnk]
  | .transferTimerExpiry | .knifePulseEnd | .turretPulseEnd | .torqueUpdate => [.wnd, .lnk]
  | .printerReadyChange _ _ => [.pins, .lbc, .rlg, .lnk]
  | .labelTransferEnd _ | .printerTimeout _ => [.lbc, .rlg, .lsc, .emb, .lnk]
  | .applied _ => [.lbc, .rlg, .lnk]
  | .byteReceived _ _ _ | .gapTimeout _ => [.lnk]
  | .requestTake _ | .frameSent _ =>
    [.wpu, .trk, .msc, .rlp, .stg, .emb, .shu, .wnd, .rlg, .bat, .lbc, .lsc, .lnk]
  | .identify _ _ | .probe _ _ _ | .winderStatus _ _ | .rollRead _ _ _ | .batchRead _ _ _ | .labelStatus _ _
  | .noticeMask _ _ _ | .reset _ _ => [.lnk]
  | .lineStatus _ _ | .grantService _ _ | .revokeService _ _ => [.lsc, .lnk]
  | .stationStatus _ _ _ | .stationEngage _ _ _ | .tuneStation _ _ _ _ _ _ _ | .setStation _ _ _ => [.rlp, .lnk]
  | .embossStatus _ _ | .embossLift _ _ | .embossClose _ _ => [.emb, .lnk]
  | .shadeStatus _ _ | .headReset _ _ => [.shu, .lnk]
  | .batchReport _ _ | .purgeBatches _ _ _ _ _ | .setBatchCode _ _ _ => [.bat, .lnk]
  | .closeBatch _ _ _ | .pinBatch _ _ _ _ _ _ => [.bat, .shu, .lnk]
  | .start _ _ => [.wpu, .trk, .msc, .rlp, .emb, .shu, .wnd, .rlg, .bat, .lsc, .lnk]
  | .hold _ _ | .resume _ _ => [.lsc, .emb, .lnk]
  | .endJob _ _ | .abortJob _ _ | .releaseEntries _ _ _ =>
    [.trk, .msc, .rlp, .stg, .emb, .shu, .wnd, .rlg, .bat, .lbc, .lsc, .lnk]
  | .stationDisengage _ _ _ => [.rlp, .stg, .lsc, .emb, .lnk]
  | .markEvent _ _ => [.trk, .emb, .wnd, .rlg, .lsc, .lnk]
  | .reprint _ _ _ _ | .printerReset _ _ _ => [.lbc, .rlg, .lnk]
  | .loadJob _ _ _ => [.lsc, .rlp, .msc, .rlg, .emb, .wnd, .bat, .shu, .lnk]
  | .pwmPeriodStart .nip => [.emb, .lnk]
  | .pwmPeriodStart .torque => [.wnd, .lnk]

/-! ### What the links have yet to send (R192, R195, R196) -/

/-- The replies of a half that are not sent whole yet: the one being sent, then those queued. -/
def LinkHalf.outgoing (h : LinkHalf) : List Reply :=
  (match h.tx with
    | some (.reply r) => [r]
    | _ => []) ++ h.replies

/-- A notice is pending on a half, or is being sent. -/
def LinkHalf.Shows (h : LinkHalf) (n : Notice) : Prop := n ∈ h.slots ∨ ∃ body, h.tx = some (.notice n body)

/-- What a half holds besides the frames it has yet to send. -/
def LinkHalf.sameReceiver (h k : LinkHalf) : Prop :=
  k.rate = h.rate ∧ k.rx = h.rx ∧ k.gapTime = h.gapTime ∧ k.abandoned = h.abandoned ∧ k.crcFail = h.crcFail ∧
    k.queueFull = h.queueFull ∧ k.requests = h.requests ∧ k.mask = h.mask ∧ k.resetWait = h.resetWait

/-- The notices shown on every link are those shown before and the raised ones whose kind the link's mask enables. -/
def Notified (s t : State) (raised : List Notice) : Prop :=
  ∀ (k : LinkId) (n : Notice),
    (t.half k).Shows n ↔ (s.half k).Shows n ∨ (n ∈ raised ∧ (s.half k).mask.getLsbD n.kindIndex = true)

/-- No link has gained or lost a reply, and the notices are those before and the raised ones. -/
def Silent (s t : State) (raised : List Notice) : Prop :=
  (∀ k, (t.half k).outgoing = (s.half k).outgoing ∧ (s.half k).sameReceiver (t.half k)) ∧ Notified s t raised

/-- Link l has gained the reply r and nothing else about replies has changed; notices as for Silent. -/
def Replied (s t : State) (l : LinkId) (r : Reply) (raised : List Notice) : Prop :=
  (∀ k, (t.half k).outgoing = (s.half k).outgoing ++ (if k = l then [r] else []) ∧
    (s.half k).sameReceiver (t.half k)) ∧ Notified s t raised

/-- The request command c, taken on link l, queues the reply r and leaves everything but the links as it is in u; the
notices raised meanwhile are those listed. -/
def Answers (c : Instr) (s : State) (l : LinkId) (r : Reply) (raised : List Notice) (u : State) : Prop :=
  ∃ t, exec c s = .next t ∧ SameBut [.lnk] u t ∧ Replied s t l r raised

/-! ### The table of request kinds (12.7) -/

/-- A request command's link, tag, kind code, class, and whether only the Line Link may issue it. -/
structure RequestInfo where
  link : LinkId
  tag : Byte
  kind : Byte
  cls : RequestClass
  lineOnly : Bool := false
deriving DecidableEq, Repr

/-- The request that a command is: its row of the table of request kinds (12.7) and its class (R194). -/
def requestInfo : Instr → Option RequestInfo
  | .identify l t => some ⟨l, t, 0x01, .monitor, false⟩
  | .lineStatus l t => some ⟨l, t, 0x02, .monitor, false⟩
  | .probe l t _ => some ⟨l, t, 0x03, .monitor, false⟩
  | .stationStatus l t _ => some ⟨l, t, 0x04, .monitor, false⟩
  | .embossStatus l t => some ⟨l, t, 0x05, .monitor, false⟩
  | .shadeStatus l t => some ⟨l, t, 0x06, .monitor, false⟩
  | .winderStatus l t => some ⟨l, t, 0x07, .monitor, false⟩
  | .rollRead l t _ => some ⟨l, t, 0x08, .monitor, false⟩
  | .batchReport l t => some ⟨l, t, 0x09, .monitor, false⟩
  | .batchRead l t _ => some ⟨l, t, 0x0A, .monitor, false⟩
  | .labelStatus l t => some ⟨l, t, 0x0B, .monitor, false⟩
  | .noticeMask l t _ => some ⟨l, t, 0x0C, .monitor, false⟩
  | .start l t => some ⟨l, t, 0x20, .operate, false⟩
  | .hold l t => some ⟨l, t, 0x21, .operate, false⟩
  | .resume l t => some ⟨l, t, 0x22, .operate, false⟩
  | .endJob l t => some ⟨l, t, 0x23, .operate, false⟩
  | .abortJob l t => some ⟨l, t, 0x24, .operate, false⟩
  | .stationEngage l t _ => some ⟨l, t, 0x25, .operate, false⟩
  | .stationDisengage l t _ => some ⟨l, t, 0x26, .operate, false⟩
  | .tuneStation l t _ _ _ _ _ => some ⟨l, t, 0x27, .operate, false⟩
  | .embossLift l t => some ⟨l, t, 0x28, .operate, false⟩
  | .embossClose l t => some ⟨l, t, 0x29, .operate, false⟩
  | .markEvent l t => some ⟨l, t, 0x2A, .operate, false⟩
  | .releaseEntries l t _ => some ⟨l, t, 0x2B, .operate, false⟩
  | .reprint l t _ _ => some ⟨l, t, 0x2C, .operate, false⟩
  | .closeBatch l t _ => some ⟨l, t, 0x2D, .operate, false⟩
  | .headReset l t => some ⟨l, t, 0x2E, .operate, false⟩
  | .printerReset l t _ => some ⟨l, t, 0x2F, .operate, false⟩
  | .loadJob l t _ => some ⟨l, t, 0x40, .configure, false⟩
  | .setStation l t _ => some ⟨l, t, 0x41, .configure, false⟩
  | .pinBatch l t _ _ _ _ => some ⟨l, t, 0x42, .configure, false⟩
  | .purgeBatches l t _ _ _ => some ⟨l, t, 0x43, .configure, false⟩
  | .setBatchCode l t _ => some ⟨l, t, 0x44, .configure, false⟩
  | .grantService l t => some ⟨l, t, 0x45, .configure, true⟩
  | .revokeService l t => some ⟨l, t, 0x46, .configure, true⟩
  | .reset l t => some ⟨l, t, 0x47, .configure, true⟩
  | _ => none

/-- The command that a queued request is, when its payload has the length of its kind: numbers high byte first. -/
def commandOf (l : LinkId) (r : RawRequest) : Option Instr :=
  let none' := fun (c : Instr) => if r.payload = [] then some c else none
  let byte := fun (f : Byte → Instr) => match r.payload with
    | [a] => some (f a)
    | _ => none
  let word := fun (f : BitVec 16 → Instr) => match r.payload with
    | [a, b] => some (f (a ++ b))
    | _ => none
  let long := fun (f : BitVec 32 → Instr) => match r.payload with
    | [a, b, c, d] => some (f (a ++ b ++ c ++ d))
    | _ => none
  match r.kind.toNat with
  | 0x01 => none' (.identify l r.tag)
  | 0x02 => none' (.lineStatus l r.tag)
  | 0x03 => long (.probe l r.tag)
  | 0x04 => byte (.stationStatus l r.tag)
  | 0x05 => none' (.embossStatus l r.tag)
  | 0x06 => none' (.shadeStatus l r.tag)
  | 0x07 => none' (.winderStatus l r.tag)
  | 0x08 => long (.rollRead l r.tag)
  | 0x09 => none' (.batchReport l r.tag)
  | 0x0A => byte (.batchRead l r.tag)
  | 0x0B => none' (.labelStatus l r.tag)
  | 0x0C => word (.noticeMask l r.tag)
  | 0x20 => none' (.start l r.tag)
  | 0x21 => none' (.hold l r.tag)
  | 0x22 => none' (.resume l r.tag)
  | 0x23 => none' (.endJob l r.tag)
  | 0x24 => none' (.abortJob l r.tag)
  | 0x25 => byte (.stationEngage l r.tag)
  | 0x26 => byte (.stationDisengage l r.tag)
  | 0x27 => match r.payload with
    | [i, g, g', d, d', a, t, t'] => some (.tuneStation l r.tag i (g ++ g') (d ++ d') a (t ++ t'))
    | _ => none
  | 0x28 => none' (.embossLift l r.tag)
  | 0x29 => none' (.embossClose l r.tag)
  | 0x2A => none' (.markEvent l r.tag)
  | 0x2B => long (.releaseEntries l r.tag)
  | 0x2C => match r.payload with
    | [a, b, c, d, p] => some (.reprint l r.tag (a ++ b ++ c ++ d) p)
    | _ => none
  | 0x2D => word (.closeBatch l r.tag)
  | 0x2E => none' (.headReset l r.tag)
  | 0x2F => byte (.printerReset l r.tag)
  | 0x40 => if r.payload.length = 173 then some (.loadJob l r.tag r.payload) else none
  | 0x41 => if r.payload.length = 25 then some (.setStation l r.tag r.payload) else none
  | 0x42 => match r.payload with
    | [c, c', x, x', y, y', z, z'] => some (.pinBatch l r.tag (c ++ c') (x ++ x') (y ++ y') (z ++ z'))
    | _ => none
  | 0x43 => match r.payload with
    | [a, b, c] => some (.purgeBatches l r.tag a b c)
    | _ => none
  | 0x44 => word (.setBatchCode l r.tag)
  | 0x45 => none' (.grantService l r.tag)
  | 0x46 => none' (.revokeService l r.tag)
  | 0x47 => none' (.reset l r.tag)
  | _ => none

/-- The code is that of a request kind (12.7). -/
def isRequestKind (kind : Byte) : Bool :=
  (decide (0x01 ≤ kind.toNat) && decide (kind.toNat ≤ 0x0C)) || (decide (0x20 ≤ kind.toNat) && decide (kind.toNat ≤ 0x2F)) ||
    (decide (0x40 ≤ kind.toNat) && decide (kind.toNat ≤ 0x47))

/-! ### Laws that every step keeps -/

/-- One half: its queues hold at most four, its slots stand once each under enabled kinds (R192, R196); an idle
transmitter has nothing to send (R195); a link that waits for a RESET has that reply yet to send (R198). -/
def LinkHalf.Law (h : LinkHalf) : Prop :=
  h.requests.length ≤ Config.linkCap ∧ h.replies.length ≤ Config.linkCap ∧ h.slots.Nodup ∧
    (∀ n ∈ h.slots, h.mask.getLsbD n.kindIndex = true) ∧ (h.tx = none → h.replies = [] ∧ h.slots = []) ∧
    (h.resetWait = true → ∃ r ∈ h.outgoing, r.kind = 0xC7 ∧ r.status = .done)

/-- Both halves. -/
def LinkLaw (s : State) : Prop := s.lnk.line.Law ∧ s.lnk.service.Law

/-- A nip that is closing or closed has every close condition, and one that is CLOSED tells since where (R76, R78); a
nip that is open or opening has pressure duty 0 (R83). -/
def NipLaw (s : State) : Prop :=
  ((s.emb.nip = .engaging ∨ s.emb.nip = .closed) → s.mayClose = true) ∧
    (s.emb.closedSince.isSome = true ↔ s.emb.nip = .closed) ∧
    ((s.emb.nip = .lifted ∨ s.emb.nip = .lifting) → s.emb.pwm.duty = 0 ∧ s.emb.pwm.setDuty = 0)

/-- The line state with its permit, causes and job: run-permit is high only in RUN and ENDING (R188), causes are latched
only in HOLD and ENDING, HOLD has a latched cause (R183, R185), and there is no job exactly in UNCONFIGURED (R178). -/
def LineLaw (s : State) : Prop :=
  (s.lsc.runPermit = true → s.lsc.lineState = .run ∨ s.lsc.lineState = .ending) ∧
    (s.lsc.latched ≠ {} → s.lsc.lineState = .hold ∨ s.lsc.lineState = .ending) ∧
    (s.lsc.lineState = .hold → s.lsc.latched ≠ {}) ∧
    (s.lsc.job = none ↔ s.lsc.lineState = .unconfigured) ∧ (s.lsc.job.isSome = s.lsc.holdMask.isSome)

/-- The bounded lists within their capacities (00_scope.md): events, log entries, labels, drift readings, captured edges, sent
labels, and the accumulators (R57, R88), whose averaging in force is bounded by the ranges of R39 and R180. The entries of the
log are numbered one after another, up to the log sequence counter (R135, R145). -/
def CapacityLaw (s : State) : Prop :=
  s.trk.events.length ≤ Config.eventCap ∧ s.rlg.log.length ≤ Config.logCap ∧
    (s.rlg.log.map Entry.seq = (List.range s.rlg.log.length).map fun n =>
      s.rlg.nextSeq - BitVec.ofNat 32 (s.rlg.log.length - n)) ∧
    s.lbc.queue.length ≤ Config.labelCap ∧ s.shu.drift.length ≤ Config.driftCap ∧
    (∀ c, s.msc.capture = some c → c.edges.length ≤ Config.captureCap) ∧
    s.lbc.printerA.sent.length ≤ Config.sentCap ∧ s.lbc.printerB.sent.length ≤ Config.sentCap ∧
    (∀ i : StationId, (s.station i).acc.length ≤ Config.accumulatorCap ∧
      ∀ d, (s.station i).desc = .resident d → d.tuning.averaging ≤ Config.accumulatorCap) ∧
    s.emb.acc.length ≤ Config.accumulatorCap ∧ ∀ j, s.lsc.job = some j → j.emboss.averaging ≤ Config.accumulatorCap

/-- The batch table: every code in 1..9,999 and no code held by two entries (R148, R153), an unheld next code apart. -/
def BatchLaw (s : State) : Prop :=
  (1 ≤ s.bat.nextCode ∧ s.bat.nextCode ≤ 9999) ∧
    (∀ i : Fin 32, ∀ x, s.bat.entries[i].batch = some x → 1 ≤ x.code ∧ x.code ≤ 9999) ∧
    (∀ i k : Fin 32, ∀ x y, s.bat.entries[i].batch = some x → s.bat.entries[k].batch = some y → x.code = y.code → i = k)
    ∧ (∀ i, s.bat.lineBatch = some i → (s.bat.entries[i].batch.any Batch.isOpen) = true)

/-- The colour head: a measurement is in flight exactly in ACQUIRING and READING, its timer runs exactly in ACQUIRING,
and a head that is read is selected (R98, R99, R102, R103). -/
def HeadLaw (s : State) : Prop :=
  (s.shu.meas.isSome = true ↔ s.shu.head = .acquiring ∨ s.shu.head = .reading) ∧
    ((s.shu.meas.any fun m => m.timeout.isSome) = true ↔ s.shu.head = .acquiring) ∧
    (s.shu.head = .reading → s.shu.select = true)

/-- Between jobs nothing of a run remains (R14, R26, R73, R96, R100, R112, R114, R187). -/
def RestLaw (s : State) : Prop :=
  s.running = false →
    s.trk.records = [] ∧ s.trk.events = [] ∧ s.trk.eventLost = false ∧ s.msc.origin = none ∧ s.msc.refState = .seeking ∧
      s.msc.capture = none ∧ s.msc.closings = [] ∧ (∀ c : ChannelId, (s.chan c).inFlight = false) ∧
      s.emb.windows = [] ∧ s.emb.zoneActive = false ∧ s.emb.phase = .idle ∧ s.shu.meas = none ∧ s.shu.starts = [] ∧
      s.wnd.active = none ∧ s.wnd.planned = none ∧ s.wnd.plan = none ∧ s.wnd.search = none

/-- A train is noted exactly while its channel is in flight (R57, R67, R68, R88), and a RESIDENT station is CORRECTING exactly
while a train of its own or of an INDIRECT station that follows it is in flight, engaged then (R57, R62, R64, R69). -/
def TrainLaw (s : State) : Prop :=
  (∀ i : StationId, (s.station i).train.isSome = (s.chan (channelOf i)).inFlight) ∧
    (∀ leader : StationId, (s.station leader).isResident = true →
      ((s.station leader).st = .correcting ↔
        ∃ i : StationId, s.leaderOf i = leader ∧ (s.chan (channelOf i)).inFlight = true) ∧
      ((s.station leader).st = .correcting → (s.station leader).engaged = true)) ∧
    (s.emb.phase = .inFlight ↔ (s.chan embossChannel).inFlight = true) ∧
    (s.emb.train.isSome = (s.chan embossChannel).inFlight)

/-- The trim limit of a station, where its kind has one (R39). -/
def Station.trimLimit? (x : Station) : Option Nat :=
  match x.desc with
  | .resident d => some d.tuning.trimLimit
  | .indirect d => some d.trimLimit
  | _ => none

/-- A trim, and the note of a train in flight, within a limit: the trims before and after the train both are. -/
def trimWithin (limit : Nat) (trim : Int) (note : Option TrainNote) : Prop :=
  trim.natAbs ≤ limit ∧ ∀ n, note = some n → n.before.natAbs ≤ limit ∧ (n.before + n.c).natAbs ≤ limit

/-- The trim of every station channel and of the emboss channel is within its trim limit (R54). -/
def TrimLaw (s : State) : Prop :=
  (∀ i limit, (s.station i).trimLimit? = some limit → trimWithin limit (s.station i).trim (s.station i).train) ∧
    (∀ j, s.lsc.job = some j → trimWithin j.emboss.trimLimit s.emb.trim s.emb.train)

end Sys2Proof.Machine
end

