-- ==== Sys2Proof/Certificates/Slice0/Obligations.lean ====
section
/-! DEFINITION. The statements for the provers. In each, t is the state after the command, SameBut names every block that
may differ, and Silent and Replied say what the links have gained. -/

open Sys2Proof Sys2Proof.Machine

/-! ### The step (the model's own frame: notes/assumptions/3.md) -/

/-- Tier 1. A step runs the command at the front of the queue on the state with the queue's rest. -/
def Obligations.StepRunsFrontCommand : Prop :=
  ∀ (c : Instr) (rest : List Instr) (s : State), s.pending = c :: rest → step s = exec c { s with pending := rest }

/-! ### When a timer or a position falls due -/

/-- H has reached the expiry of the current reference window (R29, R31). -/
def WindowExpired (m : Msc) (j : Job) (o : Origin) (h : Count) : Prop :=
  ((m.refState = .locked ∨ m.refState = .flywheel) ∧ 0 ≤ ahead h (fwd (fwd o.datum j.L) (j.wRef + 1))) ∨
    (m.refState = .lost ∧ 0 ≤ ahead h (fwd o.datum (2 * j.L - j.L / 2)))

/-- A lifting event (R79): a SPLICE, or a DEFECT where the job lifts on defects; an OPERATOR event never is one. -/
def lifts (j : Job) (kind : EventKind) : Bool := kind == .splice || (kind == .defect && j.liftOnDefect)

/-- Where the coverage of the nip by an event's zone ends, an open event's with its length so far (R17, R79, R80). -/
def coverStop (s : State) (j : Job) (e : WebEvent) : Count :=
  fwd e.datum ((if e.isOpen then (ahead (fwd s.wpu.h j.uDef) e.datum).toNat else e.length) + j.trail + j.dEm + 1)

/-- An event's coverage of the nip is to begin: it lifts, has not joined, H has reached the beginning of its zone at the nip,
and not the end of it, which an open event does not have yet (R79, R80). -/
def coverBegins (s : State) (j : Job) (e : WebEvent) : Bool :=
  lifts j e.kind && !e.joined && reached s.wpu.h (fwd (back e.datum j.lead) j.dEm) &&
    (e.isOpen || !reached s.wpu.h (coverStop s j e))

/-- The planned cut does not fall at a datum (R19, R20). -/
def Uncut (s : State) (d : Count) : Prop := ∀ c p, s.wnd.planned = some c → c.target ≠ .known d p

/-- Under the job j, H has reached the position that a command waits for (R3): the expiries of the reference windows (R29, R31),
the closing o + O_max + W_mark (R35, R36), the beginning and end of a lift zone's coverage and the lift check at the nip (R79 to
R81), the expiry of an index window (R86), the end of a span at the nip (R91), a start point (R101), the planned cut's firing
position (R123), Lt + maximum overlength of a flagged entry (R126), a further multiple of 1,000 wound (R129), an event's datum
and its last point at the knife (R19, R20), the length 200,000 of the open event (R17), the next record's origin at the knife
(R12). -/
def PositionReached (s : State) (j : Job) (c : Instr) : Prop :=
  let h := s.wpu.h
  let closing := fun (kind : OriginKind) => ∃ x rest, s.msc.closings = x :: rest ∧ x.kind = kind ∧
    reached h (fwd x.origin (s.msc.oMax + j.wMark)) = true
  let wound := fun (g : Segment) => ahead (back h j.dCut) g.start
  match c with
  | .referenceWindowExpiry => s.msc.refState ≠ .lost ∧ ∃ o, s.msc.origin = some o ∧ WindowExpired s.msc j o h
  | .reacquisitionWindowExpiry => s.msc.refState = .lost ∧ ∃ o, s.msc.origin = some o ∧ WindowExpired s.msc j o h
  | .captureClose => closing .marked
  | .flywheelClosing => closing .flywheel
  | .liftCoverageBegin => ∃ e ∈ s.trk.events, coverBegins s j e = true
  | .liftCheck => ∃ e ∈ s.trk.events, lifts j e.kind = true ∧ e.checked = false ∧ reached h (fwd e.datum j.dEm) = true ∧
      coverBegins s j e = false
  | .liftCoverageEnd => s.emb.zoneActive = true ∧ s.emb.heldOpen = false ∧
      (∃ r, s.emb.release = some r ∧ reached h r = true) ∧ ∀ e ∈ s.trk.events, coverBegins s j e = false
  | .embossWindowExpiry => ∃ w rest, s.emb.windows = w :: rest ∧ reached h (fwd w.expected (j.wEm + 1)) = true
  | .embossStatusWrite => ∃ before r next after, s.trk.records = before ++ r :: next :: after ∧ r.emboss = .notReached ∧
      reached h (fwd next.origin j.dEm) = true
  | .shadeStartPoint => ∃ x rest, s.shu.starts = x :: rest ∧ reached h x.2 = true
  | .cutDue => ∃ q d p, s.wnd.planned = some q ∧ q.target = .known d p ∧ reached h (fwd d j.dCut) = true
  | .overlengthCondition => ∃ g, s.wnd.active = some g ∧ s.wnd.overlength = false ∧ (j.lt + j.maxOver : Int) < wound g ∧
      ∃ e ∈ s.rlg.log, e.seq = g.seq ∧ e.flags.overlength = true
  | .torqueUpdate => ∃ g, s.wnd.active = some g ∧ g.role = .roll ∧ s.wnd.torqueMark < (wound g).toNat / 1000
  | .eventAttribution => ∃ e ∈ s.trk.events, e.attributed = false ∧ reached h (fwd e.datum j.dCut) = true ∧ Uncut s e.datum
  | .eventRemoval => ∃ e ∈ s.trk.events, e.isOpen = false ∧ reached h (fwd e.datum (e.length + j.dCut)) = true ∧
      Uncut s e.datum
  | .defectLengthLimit => ∃ e ∈ s.trk.events, e.isOpen = true ∧ 200000 ≤ (ahead (fwd h j.uDef) e.datum).toNat
  | .recordFold => ∃ r next rest, s.trk.records = r :: next :: rest ∧ reached h (fwd next.origin j.dCut) = true
  | _ => False

/-- A command of the part's own has fallen due: under a job, a position that it waits for; a settle end at H (R65); or a timer
that has run out: a train's next step and a step's high time (R67), the speed window of 10 ms and the 0.5 s of the stopped flag
(R5, R7), the nip's timers (R78), a PWM period of (P + 1) × 4 × prescale cycles (R83), TRIGGER's 10 µs (R98), the measurement's
timeout (R105), the transfer, knife and turret (R115, R127), a printer's 10 s (R172), a link's gap of 2 ms (R191); or a queued
request that its link may take (R192). Cycles are those of the 40 MHz reference clock. -/
def FallenDue (s : State) (c : Instr) : Prop :=
  (∃ j, s.lsc.job = some j ∧ PositionReached s j c) ∨
  match c with
  | .settleEnd i => (s.station i).st = .settling ∧ ∃ x, (s.station i).settleEnd = some x ∧ reached s.wpu.h x = true
  | .stepPulse k => (s.chan k).inFlight = true ∧ (s.chan k).toStep = 0
  | .stepPulseEnd k => (s.chan k).stepHigh = true ∧ (s.chan k).highLeft = 0
  | .speedWindowEnd => 400000 ≤ s.wpu.windowTime
  | .stoppedFlagSet => s.wpu.stopped = false ∧ 20000000 ≤ s.wpu.stoppedTime
  | .engageTimerExpiry => s.emb.nip = .engaging ∧ s.emb.nipTime = some 0
  | .liftTimerExpiry => s.emb.nip = .lifting ∧ s.emb.nipTime = some 0
  | .pwmPeriodStart .nip => (s.emb.pwm.period + 1) * 4 * s.emb.pwm.prescale ≤ s.emb.pwm.cycle
  | .pwmPeriodStart .torque => (s.wnd.pwm.period + 1) * 4 * s.wnd.pwm.prescale ≤ s.wnd.pwm.cycle
  | .triggerPulseEnd => s.shu.trigger = true ∧ s.shu.triggerLeft = 0
  | .headTimeout => s.shu.head = .acquiring ∧ ∃ m, s.shu.meas = some m ∧ m.timeout = some 0
  | .transferTimerExpiry => s.wnd.transfer = some 0
  | .knifePulseEnd => s.wnd.knife = some 0
  | .turretPulseEnd => s.wnd.turret = some 0
  | .printerTimeout p => ∃ n, (s.printer p).timer = some n ∧ 400000000 ≤ n
  | .requestTake l => (s.half l).requests ≠ [] ∧ (s.half l).replies.length < 4 ∧ (s.half l).resetWait = false
  | .gapTimeout l => ∃ n, (s.half l).gapTime = some n ∧ 80000 ≤ n
  | _ => False

/-- The place of a command among those that have fallen due at one time: the model's own order (notes/assumptions/3.md). -/
def turnOf : Instr → Nat
  | .referenceWindowExpiry => 0 | .reacquisitionWindowExpiry => 1 | .captureClose => 2 | .flywheelClosing => 3
  | .liftCoverageBegin => 4 | .liftCheck => 5 | .liftCoverageEnd => 6 | .embossWindowExpiry => 7 | .embossStatusWrite => 8
  | .shadeStartPoint => 9 | .cutDue => 10 | .overlengthCondition => 11 | .torqueUpdate => 12 | .eventAttribution => 13
  | .eventRemoval => 14 | .defectLengthLimit => 15 | .recordFold => 16
  | .settleEnd i => 17 + i.val
  | .stepPulse c => 25 + 2 * c.val | .stepPulseEnd c => 26 + 2 * c.val
  | .speedWindowEnd => 43 | .stoppedFlagSet => 44 | .engageTimerExpiry => 45 | .liftTimerExpiry => 46
  | .pwmPeriodStart .nip => 47 | .pwmPeriodStart .torque => 48 | .triggerPulseEnd => 49 | .headTimeout => 50
  | .transferTimerExpiry => 51 | .knifePulseEnd => 52 | .turretPulseEnd => 53
  | .printerTimeout .a => 54 | .printerTimeout .b => 55
  | .requestTake .line => 56 | .gapTimeout .line => 57 | .requestTake .service => 58 | .gapTimeout .service => 59
  | _ => 60

/-- Tier 2. On an empty queue the part runs the first step that has fallen due, else one cycle of the reference clock. A step
has fallen due exactly when its timer has run out or H has reached its position (FallenDue), and of several the first in turn
runs. The clock's cycle is what every timer that runs counts and nothing else feels: the speed window and the stopped timer
(R5, R7), a train's next step and a step's high time (R67), the nip's timer and the two PWM periods (R76, R83), the
measurement's age, timeout and TRIGGER (R98, R102), the transfer, knife and turret (R115, R127), the label transfer and the
printers' timeouts (R169, R172), the gap timers (R191). That steps run so on an empty queue, their turn, and the clock's cycle
are the model's choice, notes/assumptions/3.md; so is that a queued request is taken only as such a step,
notes/assumptions/52.md. -/
def Obligations.IdleStepRunsDueStepOrClock : Prop :=
  ∀ s : State, s.pending = [] →
    (∀ c, s.nextDue = some c →
      step s = exec c s ∧ FallenDue s c ∧ ∀ x, FallenDue s x → turnOf c ≤ turnOf x) ∧
    (s.nextDue = none → (∀ x, ¬FallenDue s x) ∧ ∃ t, step s = .next t ∧ SameBut [.wpu, .stg, .emb, .shu, .wnd, .lbc, .lnk] s t ∧
      t.wpu = { s.wpu with
        windowTime := s.wpu.windowTime + 1
        stoppedTime := if s.wpu.stopped then s.wpu.stoppedTime else s.wpu.stoppedTime + 1 } ∧
      (∀ c, t.chan c = { s.chan c with
        toStep := if (s.chan c).inFlight then (s.chan c).toStep - 1 else (s.chan c).toStep
        highLeft := if (s.chan c).stepHigh then (s.chan c).highLeft - 1 else (s.chan c).highLeft }) ∧
      t.emb = { s.emb with
        nipTime := s.emb.nipTime.map fun n => n - 1, pwm := { s.emb.pwm with cycle := s.emb.pwm.cycle + 1 } } ∧
      t.shu = { s.shu with
        meas := s.shu.meas.map fun m => { m with since := m.since + 1, timeout := m.timeout.map fun n => n - 1 }
        triggerLeft := s.shu.triggerLeft - 1 } ∧
      t.wnd = { s.wnd with
        transfer := s.wnd.transfer.map fun n => n - 1, knife := s.wnd.knife.map fun n => n - 1
        turret := s.wnd.turret.map fun n => n - 1, pwm := { s.wnd.pwm with cycle := s.wnd.pwm.cycle + 1 } } ∧
      t.lbc = { s.lbc with
        channel := s.lbc.channel.map fun x => { x with left := x.left - 1 }
        printerA := { s.lbc.printerA with timer := s.lbc.printerA.timer.map fun n => n + 1 }
        printerB := { s.lbc.printerB with timer := s.lbc.printerB.timer.map fun n => n + 1 } } ∧
      ∀ l, t.half l = { s.half l with gapTime := (s.half l).gapTime.map fun n => n + 1 })

/-- Tier 2. Every command answers a next state, whatever the state and the operands; it changes only the blocks of its
frame, and the commands that wait stay as they are: no input and no request stops the part, and the encoder's counts, the
jobs, the descriptors, the log, the batch table and the label channel each answer to the commands of their own rules (R191,
R193, chapter 95). -/
def Obligations.EveryCommandAnswersInItsFrame : Prop :=
  ∀ (c : Instr) (s : State), ∃ t, exec c s = .next t ∧ t.pending = s.pending ∧ SameBut (blocksOf c) s t

/-! ### Reset (01 to 12) -/

/-- A link after a part reset, with the rate its straps give and an enable mask (R191, R192, R196, R198). -/
def resetLink (straps : BitVec 2) (mask : BitVec 11) : LinkHalf :=
  { rate := straps, rx := .hunt, gapTime := none, abandoned := 0, crcFail := 0, queueFull := 0, requests := [],
    replies := [], tx := none, slots := [], mask := mask, resetWait := false }

/-- Tier 1. PART_RESET puts every item at the value that its block's table gives (R8, R14, R21, R24, R26, R40, R68, R74,
R76, R83, R96, R99, R114, R147, R150, R166, R178, R191, R192, R196), with TRIGGER and the head's select low (R98), the
label port's outputs low (R166) and the divert asserted (R114). The levels and straps are those given and the waiting
commands stay (notes/assumptions/27.md); timers are the model's own fields. Not the tables' but the model's: SEEKING in an
INVALID station, a channel's period and counts of cycles 0, offsets absent, O_max 0 and a PWM cycle 0
(notes/assumptions/7.md), and the head port's clock and data-out low (notes/assumptions/38.md). -/
def Obligations.PartResetSetsEveryBlock : Prop :=
  ∀ (p : Pins) (s : State), ∃ t, exec (.partReset p) s = .next t ∧ t.pins = p ∧ t.pending = s.pending ∧
    t.wpu =
      { w := 0, h := 0, direction := .forward, v := 0, stopped := true, stoppedTime := 20000000, faultCount := 0,
        encoderCond := false, faultInWindow := false, overCount := 0, overspeedCond := false, windowStart := 0,
        windowTime := 0, reversed := false } ∧
    t.trk = { records := [], events := [], eventLost := false } ∧
    ((∀ i : Fin 4, t.msc.gates[i].enabled = false) ∧ (∀ i : Fin 8, t.msc.offsets[i] = none) ∧
      t.msc =
        { gates := t.msc.gates, refState := .seeking, origin := none, prevEdge := none, missCount := 0, nextIndex := 0,
          capture := none, closings := [], offsets := t.msc.offsets, oMax := 0 }) ∧
    (∀ i : StationId, t.station i =
      { desc := .invalid, engaged := true, st := .seeking, acc := [], bad := 0, settleEnd := none, trim := 0,
        train := none, lastC := none, flags := {}, lastOutcome := none }) ∧
    (∀ c : ChannelId, t.chan c =
      { inFlight := false, remaining := 0, emitted := 0, retard := false, period := 0, stepHigh := false, toStep := 0,
        highLeft := 0 }) ∧
    (let pwm : Pwm :=
        { period := 0, prescale := 1, duty := 0, nextPeriod := 0, nextPrescale := 1, setDuty := 0, cycle := 0 }
     t.emb =
        { nip := .lifted, nipTime := none, closedSince := none, hostLift := false, zoneActive := false, release := none,
          heldOpen := false, windows := [], reg := .seeking, missCount := 0, phase := .idle, acc := [], trim := 0,
          train := none, lastC := none, flags := {}, lateCount := 0, lastLate := none, lastSample := none, pwm := pwm } ∧
      t.wnd =
        { spindleA := .empty, spindleB := .empty, lastWinding := none, active := none, planned := none, eMin := none,
          lastCut := none, plan := none, search := none, points := [], divert := true, transfer := none, pwm := pwm,
          torqueMark := 0, overlength := false, refusals := 0, lastRefusal := none, overlaps := 0, knife := none,
          turret := none }) ∧
    (t.shu =
        { head := .idle, faultCount := 0, meas := none, starts := [], clampL := false, clampA := false, clampB := false,
          lastReading := none, drift := [], lineBatch := none, lastDrift := none,
          counts := ⟨0, 0, 0, 0, 0, 0⟩, trigger := false, triggerLeft := 0, select := false } ∧
      t.headPort = { trigger := false, select := false, clock := .low, dataOut := .low }) ∧
    t.rlg = { log := [], nextSeq := 0, nextRoll := 1 } ∧
    ((∀ i : Fin 32, t.bat.entries[i] = { batch := none, used := false, changed := false }) ∧
      t.bat =
        { entries := t.bat.entries, nextCode := 1, lineBatch := none, lastAssign := none, overflows := 0 }) ∧
    (let printer : PrinterState := { online := true, rejects := 0, timer := none, sent := [], lastFault := none }
     t.lbc =
        { queue := [], channel := none, printerA := printer, printerB := printer, accepted := 0, rejections := 0,
          dropped := 0, jams := 0, timeouts := 0, unattached := 0 } ∧
      t.labelPort = { selectA := false, selectB := false, clock := .low, dataOut := .low }) ∧
    t.lsc =
      { job := none, lineState := .unconfigured, holdMask := none, latched := {}, reported := {}, runPermit := false,
        serviceGrant := false } ∧
    t.lnk =
      { line := resetLink p.strapLine (BitVec.allOnes 11), service := resetLink p.strapService 0 }

/-- Tier 1. The state right after reset meets every law that the statements below call an invariant. -/
def Obligations.ResetMeetsEveryLaw : Prop :=
  LinkLaw State.reset ∧ NipLaw State.reset ∧ LineLaw State.reset ∧ CapacityLaw State.reset ∧ BatchLaw State.reset ∧
    HeadLaw State.reset ∧ RestLaw State.reset ∧ TrainLaw State.reset ∧ TrimLaw State.reset

/-! ### Invariants: every step keeps them -/

/-- Tier 3. Every step keeps the law of the links: at most four requests and four replies queued, pending notices once
each and under enabled kinds, and never an idle transmitter beside a frame to send (R192, R195, R196, R198). -/
def Obligations.EveryStepKeepsLinkLaw : Prop := ∀ s t : State, LinkLaw s → step s = .next t → LinkLaw t

/-- Tier 3. Every step keeps the law of the nip: it is closing or closed only while every close condition holds
(R76, R77, R78), and has pressure only then (R83). -/
def Obligations.EveryStepKeepsNipLaw : Prop := ∀ s t : State, NipLaw s → step s = .next t → NipLaw t

/-- Tier 3. Every step keeps the law of the line: run-permit only in RUN and ENDING, latched causes only in HOLD and
ENDING, a latched cause throughout HOLD (R183, R185, R187, R188). -/
def Obligations.EveryStepKeepsLineLaw : Prop := ∀ s t : State, LineLaw s → step s = .next t → LineLaw t

/-- Tier 3. Every step keeps within its capacity each of these lists: the event list 16 (R15), the roll log 32 (R134), the
label queue 8 and the sent lists 32 (R166, R170), the drift window 8 (R110), the capture list 16 (R34), the stations' and
the emboss channel's accumulators 8 (R57, R88). The log's entries are numbered one after another up to the log sequence
counter (R135, R145). The links' queues and slots are in the law of the links; the 512 records of the track (R13) rest on
when the sender folds them and are in no law. -/
def Obligations.EveryStepKeepsCapacities : Prop := ∀ s t : State, CapacityLaw s → step s = .next t → CapacityLaw t

/-- Tier 3. Every step keeps the law of the batch table: codes within 1..9,999, none held twice, and a line batch that is
OPEN (R148, R153, R157, R160). -/
def Obligations.EveryStepKeepsBatchLaw : Prop := ∀ s t : State, BatchLaw s → step s = .next t → BatchLaw t

/-- Tier 3. Every step keeps what stands between jobs: no records, events, origin, windows, trains, measurement, segment
or plan remains of a run (R14, R26, R73, R90, R96, R112, R114, R187). -/
def Obligations.EveryStepKeepsRestLaw : Prop := ∀ s t : State, RestLaw s → step s = .next t → RestLaw t

/-- Tier 3. Every step keeps the law of the head (R98, R99, R102 to R105, R112). -/
def Obligations.EveryStepKeepsHeadLaw : Prop := ∀ s t : State, RestLaw s → HeadLaw s → step s = .next t → HeadLaw t

/-- Tier 3. Every step keeps the notes of trains together with the channels that emit them (R57, R67, R68, R88 to R90), and a
RESIDENT station CORRECTING exactly while a train of its own or of one of its followers is in flight (R62, R64). -/
def Obligations.EveryStepKeepsTrainLaw : Prop := ∀ s t : State, RestLaw s → TrainLaw s → step s = .next t → TrainLaw t

/-- Tier 3. Every step keeps the law of trims: the trim of every station channel and of the emboss channel stays within
its trim limit in magnitude at all times (R54, R55). -/
def Obligations.EveryStepKeepsTrimLaw : Prop :=
  ∀ s t : State, RestLaw s → TrainLaw s → TrimLaw s → step s = .next t → TrimLaw t

/-! ### Hold causes (11) -/

/-- The notice that a raised hold cause gives (R183, R189): LINE_STATE where it stops the line, and in HOLD and ENDING where it
is newly latched. -/
def causeTold (s : State) (c : HoldCause) : List Notice :=
  if (s.lsc.holdMask.any fun m => m.has c) = true ∧ (s.lsc.lineState = .run ∨
      ((s.lsc.lineState = .hold ∨ s.lsc.lineState = .ending) ∧ s.lsc.latched.has c = false))
  then [.lineState] else []

/-- Tier 2. A raised hold cause latches and stops the line in RUN, joins the latched causes in HOLD and in ENDING, and
otherwise joins the reported causes; LINE_STATE is raised where it stops the line or is newly latched; it changes nothing
but the line state controller, the nip and the links (R183, R188, R189). -/
def Obligations.HoldCauseLatchesOrIsReported : Prop :=
  ∀ (c : HoldCause) (s : State),
    (∀ (x : Causes) (d : HoldCause), (x.add c).has d = (x.has d || d == c)) ∧
    SameBut [.lsc, .emb, .lnk] s (s.raiseCause c) ∧ Silent s (s.raiseCause c) (causeTold s c) ∧
    (s.raiseCause c).lsc =
      (if (s.lsc.holdMask.any fun m => m.has c) = true ∧ s.lsc.lineState = .run then
        { s.lsc with lineState := .hold, latched := s.lsc.latched.add c, runPermit := false }
      else if (s.lsc.holdMask.any fun m => m.has c) = true ∧ s.lsc.lineState = .hold then
        { s.lsc with latched := s.lsc.latched.add c }
      else if (s.lsc.holdMask.any fun m => m.has c) = true ∧ s.lsc.lineState = .ending then
        { s.lsc with latched := s.lsc.latched.add c, runPermit := false }
      else { s.lsc with reported := s.lsc.reported.add c })

/-! ### What an event, a cut, a closing and the end of a job leave: terms of several chapters (01, 05, 07, 08, 10, 11) -/

/-- What an event of the list holds besides the marks of the nip and the winder (R15, R17, R19). -/
def eventFace (e : WebEvent) : EventKind × Count × Nat × Bool × Bool := (e.kind, e.datum, e.length, e.isOpen, e.attributed)

/-- The emboss block with the nip lifting: lift timer started, pressure duty 0 at once, closed-since removed (R78, R83). -/
def liftingEmb (j : Job) (e : Emb) : Emb :=
  { e with
    nip := .lifting
    nipTime := some (j.liftMs * 40000)
    closedSince := none
    pwm := { e.pwm with setDuty := 0, duty := 0 } }

/-- The emboss block with the nip engaging: engage timer started, the job's pressure duty set (R78, R83). -/
def engagingEmb (j : Job) (e : Emb) : Emb :=
  { e with
    nip := .engaging
    nipTime := some (j.engageMs * 40000)
    closedSince := none
    pwm := { e.pwm with setDuty := j.pressure, duty := if j.pressure = 0 then 0 else e.pwm.duty } }

/-- What an evaluation of the close conditions makes of the emboss block: a nip that may not be closed lifts, a LIFTED nip
that may be closed engages, a LIFTING nip goes on (R78). -/
def evaluated (j : Job) (mayClose : Bool) (e : Emb) : Emb :=
  match e.nip, mayClose with
  | .lifted, true => engagingEmb j e
  | .engaging, false | .closed, false => liftingEmb j e
  | _, _ => e

/-- The close conditions of R77, all of them. -/
def ClosePermitted (s : State) (j : Job) (e : Emb) : Bool :=
  s.lsc.lineState == .run && j.embossOn && !e.hostLift && !e.zoneActive && !s.trk.eventLost && decide (j.vMinEmboss ≤ s.wpu.v)

/-- A count that has grown by one, or stands at 65,535. -/
def grown (n : Nat) : Nat := if n < 65535 then n + 1 else n

/-- The emboss block with an event's zone joined to the coverage (R80): the release position the further of the two, held open
by an open event; the nip evaluated, which may not be closed then. -/
def covering (s : State) (j : Job) (e : WebEvent) : Emb :=
  evaluated j false { s.emb with
    zoneActive := true
    release := some (match s.emb.zoneActive, s.emb.release with
      | true, some r => further r (coverStop s j e)
      | _, _ => coverStop s j e)
    heldOpen := e.isOpen || (s.emb.zoneActive && s.emb.heldOpen) }

/-- An event of a kind has entered the list of s at the datum d, and t is what that leaves (R15). It stands after every event
whose datum is equal or less. Coverage that is due begins (R79, R80); its lift check, where due, finds a nip LIFTING late, on
the event, on the record that covers the datum, in the count and by EMBOSS_ALARM (R81): an event that lifts nothing changes
nothing of the emboss unit, of the records and of the notices told. The splices of the list are then judged (R120). -/
def EventEntered (j : Job) (s t : State) (kind : EventKind) (d : Count) (isOpen : Bool) (told : List Notice) : Prop :=
  let e : WebEvent :=
    { kind := kind, datum := d, length := 0, isOpen := isOpen, attributed := false, liftLate := false, joined := false,
      checked := false, judged := false }
  let covers := coverBegins s j e
  let checks := lifts j kind && reached s.wpu.h (fwd d j.dEm)
  let emb := if covers then covering s j e else s.emb
  let late := checks && emb.nip == .lifting
  told = (if late then [.embossAlarm] else []) ∧
  ∃ (u : State) (before after : List WebEvent), s.trk.events = before ++ after ∧ (∀ x ∈ before, ahead x.datum d ≤ 0) ∧
    (∀ x, after.head? = some x → 0 < ahead x.datum d) ∧
    u.trk = {
      events := before ++ { e with joined := covers, checked := checks, liftLate := late } :: after
      eventLost := s.trk.eventLost
      records := s.trk.records.map fun r =>
        if (late && ((recordCovering j.L s.trk.records d).any fun x => x.index == r.index)) = true then { r with liftLate := true }
        else r } ∧
    u.emb = (if late then { emb with lateCount := grown emb.lateCount, lastLate := some (kind, d) } else emb) ∧
    SameBut [.trk, .emb, .lnk] s u ∧ SameBut [.lnk] (u.judgeSplices j) t

/-- The arrival is lost: the list stays, the EVENT_LOST condition is present and its cause raised when it was absent, with the
flag on the entry open at the knife and the nip evaluated, which may not be closed then (R77, R78), and EVENT_LIST_FULL is
told (R21). -/
def EventLost (j : Job) (s t : State) (told : List Notice) : Prop :=
  t.trk = { s.trk with eventLost := true } ∧
  t.lsc = (if s.trk.eventLost then s.lsc else (s.raiseCause .eventLost).lsc) ∧
  t.emb = (if s.trk.eventLost then s.emb else evaluated j false s.emb) ∧
  t.rlg = (if s.trk.eventLost then s.rlg else
    { s.rlg with log := s.rlg.log.map fun e =>
        if (s.wnd.active.any fun g => g.seq == e.seq) = true then { e with flags := { e.flags with eventLost := true } } else e }) ∧
  t.wnd = s.wnd ∧ told = .eventListFull :: (if s.trk.eventLost then [] else causeTold s .eventLost)

/-- An event arrives (R15, R21): it enters the list, which holds 16, or is lost. -/
def Arrives (j : Job) (s t : State) (kind : EventKind) (d : Count) (isOpen : Bool) (told : List Notice) : Prop :=
  (s.trk.events.length < 16 →
    EventEntered j s t kind d isOpen told ∧ SameBut [.trk, .emb, .wnd, .lnk] s t) ∧
  (16 ≤ s.trk.events.length → EventLost j s t told ∧ SameBut [.trk, .emb, .rlg, .lsc, .lnk] s t)

/-- An opening occasion of the defect line (R17): with the line active, a job running, no reverse travel and no event open, a
DEFECT at H + u_def enters the list or, with 16 events in it, is lost (R21). -/
def OccasionTaken (j : Job) (s v : State) (told : List Notice) : Prop :=
  let opens := s.pins.defectLine && s.running && !s.reverse && !(s.trk.events.any WebEvent.isOpen)
  (opens = false → v = s ∧ told = []) ∧
  (opens = true → Arrives j s v .defect (fwd s.wpu.h j.uDef) true told)

/-- The spindle chosen for a ROLL segment, EMPTY (R116): the other one than the last winding spindle; without one A, or B
when A is not EMPTY. -/
def Chosen (s : State) (k : Spindle) : Prop :=
  s.spindle k = .empty ∧ (∀ last, s.wnd.lastWinding = some last → k ≠ last) ∧
    (s.wnd.lastWinding = none → k = .b → s.spindle .a ≠ .empty)

/-- An OPEN entry ended at a datum, by an ABORT_JOB or not (R136). -/
def endedAt (d : Count) (aborted : Bool) (e : Entry) : Entry :=
  if e.state = .opened then
    { e with
      state := .cut, stop := some d, length := some (ahead d e.start).toNat
      flags := { e.flags with aborted := e.flags.aborted || aborted } }
  else e

/-- The state with the entry of a sequence number ended. -/
def withEnded (s : State) (seq : BitVec 32) (d : Count) (aborted : Bool) : State :=
  { s with rlg := { s.rlg with log := s.rlg.log.map fun e => if e.seq = seq then endedAt d aborted e else e } }

/-- The entries that the label queue of u takes in: DUE, oldest first, while the queue holds fewer than 8 (R167). -/
def takenIn (u : State) : List Entry :=
  if u.lsc.job.isSome then
    (u.rlg.log.filter fun e => e.label == .due && e.spindle.isSome).take (8 - u.lbc.queue.length)
  else []

/-- The label record of an entry under a job (R165, 12.8): opener, roll number, design code, colourway, lot text, batch code,
length in centimetres, grade, match type, flags SHORT, UNMEASURED and BATCH_OVERFLOW, fill, and the CRC of all that. -/
def recordOf (j : Job) (e : Entry) : List Byte :=
  let bit := fun (b : Bool) (weight : Nat) => if b then weight else 0
  let grade := match e.grade with
    | some .b => 1
    | some .reject => 2
    | _ => 0
  let matchType := match j.matchType with
    | .straight => 0
    | .drop => 1
  let flags := bit (e.kind = some .short) 1 + bit e.flags.unmeasured 2 + bit e.flags.batchOverflow 4
  let body : List Byte := 0x5A :: (beBytes 4 (e.roll.getD 0) ++ j.design ++ j.colourway ++ j.lotText ++ beBytes 2 (e.batch.getD 0) ++
    beBytes 4 ((e.length.getD 0 + 500) / 1000) ++ beBytes 1 grade ++ beBytes 1 matchType ++ beBytes 1 flags ++
    List.replicate 8 0)
  body ++ beBytes 2 (crc16 body).toNat

/-- The labels built for the entries that the queue of u takes in: the printer of the entry's spindle, a record made now
under the job in force, transfer count 0 (R167). -/
def labelsBuilt (u : State) : List Label :=
  match u.lsc.job with
  | some j => (takenIn u).map fun e =>
    { seq := e.seq, printer := if e.spindle = some .b then .b else .a, roll := e.roll.getD 0, record := recordOf j e
      transfers := 0 }
  | none => []

/-- What the channel does at the end of an event that has made u: it takes DUE entries in (R165, R167), an idle channel
starts the transfer of the oldest label whose printer is ONLINE with READY high (R168, R169), and each timeout timer runs
exactly while its four conditions hold (R172; as they stand at the event's end: notes/assumptions/46.md). A label's transfer
count grows without a bound (notes/assumptions/51.md). -/
def ChannelWorks (u t : State) : Prop :=
  let can := fun (x : Label) => (u.printer x.printer).online = true ∧ u.readyLevel x.printer = true
  let queue := u.lbc.queue ++ labelsBuilt u
  t.rlg = { u.rlg with log := u.rlg.log.map fun e =>
    if ((takenIn u).any fun x => x.seq == e.seq) = true then { e with label := .queued } else e } ∧
  (∀ c, u.lbc.channel = some c → t.lbc.channel = some c ∧ t.lbc.queue = queue) ∧
  (u.lbc.channel = none →
    (∀ before x after, queue = before ++ x :: after → can x → (∀ y ∈ before, ¬can y) →
      let sent := { x with transfers := x.transfers + 1 }
      t.lbc.channel = some ⟨sent, false, 15680⟩ ∧ t.lbc.queue = queue.map fun y => if y.seq = x.seq then sent else y) ∧
    ((∀ x ∈ queue, ¬can x) → t.lbc.channel = none ∧ t.lbc.queue = queue)) ∧
  (∀ p, ∃ timer, t.printer p = { u.printer p with timer := timer } ∧
    ((u.printer p).online = true ∧ u.readyLevel p = false ∧ (∃ x ∈ t.lbc.queue, x.printer = p) ∧
        (∀ c, t.lbc.channel = some c → c.label.printer ≠ p) → timer = some ((u.printer p).timer.getD 0)) ∧
    (¬((u.printer p).online = true ∧ u.readyLevel p = false ∧ (∃ x ∈ t.lbc.queue, x.printer = p) ∧
        (∀ c, t.lbc.channel = some c → c.label.printer ≠ p)) → timer = none)) ∧
  (t.lbc.accepted, t.lbc.rejections, t.lbc.dropped) = (u.lbc.accepted, u.lbc.rejections, u.lbc.dropped) ∧
  (t.lbc.jams, t.lbc.timeouts, t.lbc.unattached) = (u.lbc.jams, u.lbc.timeouts, u.lbc.unattached)

/-- A target is the first eligible point at or after y (R117): y itself in LENGTH mode; in MATCH mode the first known point
there, and pending where none is known yet (R119). -/
def FirstEligible (j : Job) (points : List (PointName × Count)) (y : Count) (t : CutTarget) : Prop :=
  (j.cutMode = .length → t = .known y none) ∧
  (j.cutMode = .matched →
    ((∀ q ∈ points, reached q.2 y = false) → t = .fromFloor y) ∧
    ∀ before n x after, points = before ++ (n, x) :: after → reached x y = true → (∀ q ∈ before, reached q.2 y = false) →
      t = .known x (some n))

/-- What a plan is once the known points have settled it (R119): a named point and a first-point plan are fixed when their
point is known, and then move to the first eligible point at or after the earliest cut datum e where they lie before it. -/
def Settled (j : Job) (points : List (PointName × Count)) (e : Count) (plan t : CutTarget) : Prop :=
  let fixed := fun (d : Count) (n : Option PointName) =>
    (ahead e d ≤ 0 → t = .known d n) ∧ (0 < ahead e d → FirstEligible j points e t)
  match plan with
  | .known _ _ | .seekingCut1 | .waiting => t = plan
  | .named n => ((∀ q ∈ points, q.1 ≠ n) → t = plan) ∧
      ∀ before d after, points = before ++ (n, d) :: after → (∀ q ∈ before, q.1 ≠ n) → fixed d (some n)
  | .fromFloor y => ∃ f, FirstEligible j points y f ∧ (∀ d n, f = .known d n → fixed d n) ∧
      ((∀ d n, f ≠ .known d n) → t = f)

/-- The planned target of a ROLL segment that starts at d, in MATCH mode at the point p, with earliest cut datum e (R119). -/
def RollPlanned (j : Job) (points : List (PointName × Count)) (e d : Count) (p : Option PointName) (t : CutTarget) : Prop :=
  (j.cutMode = .length → t = .known (fwd d j.lt) none) ∧
  ∀ i h, j.cutMode = .matched → p = some ⟨i, h⟩ →
    (j.matchType = .straight → Settled j points e (.named ⟨i + BitVec.ofNat 32 ((j.lt + j.L - 1) / j.L), 0⟩) t) ∧
    (j.matchType = .drop →
      let n := h + (j.lt + j.L / 2 - 1) / (j.L / 2)
      Settled j points e (.named ⟨i + BitVec.ofNat 32 (n / 2), n % 2⟩) t)

/-- What an examination of the log of s leaves (R140, R144, R167): every CUT entry with no record of the track before its end
closes, oldest first; ROLLS_CLOSED is told with what the closings tell, and the label channel goes on with what became DUE. With
none that closes nothing else happens. -/
def LogExamined (j : Job) (s t : State) (told : List Notice) : Prop :=
  let closing := s.rlg.log.filter fun e => e.state == .cut && e.stop.any fun x => s.trk.records.all fun y => reached y.origin x
  (closing = [] → SameBut [.lnk] s t ∧ told = []) ∧
  (closing ≠ [] →
    let closed := closing.foldl (fun u e => u.closeEntry j e) s
    ChannelWorks closed t ∧ SameBut [.rlg, .lbc, .lnk] closed t ∧
      ∃ raised, Silent s closed raised ∧ told = .rollsClosed :: raised)

/-- A cut at d that opens a role fires in s, and t is what it leaves (R119 to R124, R127, R129, R130). Knife pulsed, transfer
started, the active entry ended at d, a ROLL's spindle FULL and the turret pulsed; the log examined, so that an entry with no
record left before its end closes at the cut, the lead-in of an empty track among them (R136, R140); the next entry allocated
from d, a ROLL winding on the chosen spindle; the next cut planned and the listed splices judged anew; LOG_SPACE is told
where 28 or more entries are then in the log (R147), with what the closings tell. -/
def CutFired (j : Job) (opens : Role) (d : Count) (p : Option PointName) (s t : State) (notices : List Notice) : Prop :=
  SameBut [.trk, .wnd, .rlg, .bat, .shu, .lbc, .lsc, .lnk] s t ∧
  t.lsc = (if opens = .tail then { s.lsc with runPermit := false } else s.lsc) ∧
  t.trk.records = s.trk.records ∧ t.trk.events.map eventFace = s.trk.events.map eventFace ∧
  t.trk.eventLost = s.trk.eventLost ∧
  (t.wnd.active = some ⟨s.rlg.nextSeq, d, opens, p⟩ ∧ t.wnd.lastCut = some d ∧
    t.wnd.eMin = some (fwd d (j.vMax * j.transferMs / 1000)) ∧ t.wnd.overlength = false ∧
    t.wnd.divert = decide (opens ≠ .roll) ∧ t.wnd.knife = some 400000 ∧
    t.wnd.transfer = some (j.transferMs * 40000) ∧
    t.wnd.overlaps = (if s.wnd.transfer.isSome then grown s.wnd.overlaps else s.wnd.overlaps) ∧
    t.wnd.pwm.setDuty = (if opens = .roll then j.d0 else 0) ∧ (opens ≠ .roll → t.wnd.pwm.duty = 0) ∧
    (t.wnd.refusals, t.wnd.lastRefusal, t.wnd.search, t.wnd.torqueMark) = (s.wnd.refusals, s.wnd.lastRefusal, none, 0)) ∧
  (∀ k, opens = .roll → Chosen s k →
    t.spindle k = .winding s.rlg.nextSeq ∧ t.wnd.lastWinding = some k) ∧
  (opens ≠ .roll → t.wnd.lastWinding = s.wnd.lastWinding) ∧
  (∀ g, s.wnd.active = some g →
    t.wnd.turret = (if g.role = .roll then some 400000 else s.wnd.turret) ∧
    ∀ k, ¬(opens = .roll ∧ Chosen s k) → t.spindle k =
      if g.role = .roll ∧ s.spindle k = .winding g.seq then .full g.seq else s.spindle k) ∧
  (∃ u : State, SameBut [.lnk] (u.judgeSplices j) t ∧ u.wnd.active = t.wnd.active ∧ u.wnd.points = s.wnd.points ∧
    u.wnd.plan = none ∧ u.trk.events = s.trk.events.map (fun x => { x with judged := false }) ∧
    (opens = .roll → ∃ y, RollPlanned j s.wnd.points (fwd d (j.vMax * j.transferMs / 1000)) d p y ∧
      u.wnd.planned = some ⟨y, .roll, false⟩) ∧
    (opens = .remove → u.wnd.planned = s.wnd.plan.map fun q => ⟨q.cut2, .roll, false⟩) ∧
    (opens = .tail → u.wnd.planned = none) ∧
    (j.splicePolicy = .mark ∨ (∀ x ∈ s.trk.events, x.kind ≠ .splice) →
      t.wnd.plan = none ∧ t.wnd.planned = u.wnd.planned)) ∧
  ∃ (u : State) (told : List Notice) (e : Entry),
    (s.wnd.active = none → SameBut [.lnk] s u ∧ told = []) ∧
    (∀ g, s.wnd.active = some g → ∃ cutting : State, SameBut [.wnd, .lnk] s cutting ∧
      LogExamined j (withEnded cutting g.seq d false) u told) ∧
    notices = told ++ (if 28 ≤ s.rlg.log.length + 1 then [.logSpace] else []) ∧
    (t.bat, t.shu, t.lbc) = (u.bat, u.shu, u.lbc) ∧ t.rlg = { u.rlg with log := u.rlg.log ++ [e], nextSeq := s.rlg.nextSeq + 1 } ∧
    u.rlg.log.map Entry.seq = s.rlg.log.map Entry.seq ∧
    (e.seq, e.state, e.role, e.start, e.stop) = (s.rlg.nextSeq, .opened, opens, d, none) ∧
    (∀ k, opens = .roll → Chosen s k → e.spindle = some k) ∧ (opens ≠ .roll → e.spindle = none) ∧
    (e.repeats, e.splices, e.defects, e.operators, e.readings) = (0, 0, 0, 0, 0) ∧
    e.flags = { eventLost := s.trk.eventLost } ∧ e.label = .none

/-- The entry x after a fold of the record r (R138). -/
def foldedEntry (r : RepeatRecord) (x : Entry) : Entry :=
  let one := fun (b : Bool) => if b then 1 else 0
  let counted := { x with
    repeats := x.repeats + 1
    firstIndex := some (x.firstIndex.getD r.index)
    lastIndex := some r.index
    inCount := x.inCount + one (r.cls = .inside)
    outCount := x.outCount + one (r.cls = .outside)
    unknownCount := x.unknownCount + one (r.cls = .unknown)
    worst := match r.worst, x.worst with
      | some a, some b => some (if b.natAbs < a.natAbs then a else b)
      | some a, none => some a
      | none, held => held
    embIn := x.embIn + one (r.emboss = .inRegister)
    embOff := x.embOff + one (r.emboss = .offRegister)
    embLifted := x.embLifted + one (r.emboss = .lifted)
    embUnknown := x.embUnknown + one (r.emboss = .unknown) }
  match r.shadeState, r.shade with
  | .present, some a => { counted with
      readings := x.readings + 1
      sum := ⟨x.sum.l + a.l, x.sum.a + a.a, x.sum.b + a.b⟩
      low := some ((x.low.map fun v => ⟨min v.l a.l, min v.a a.a, min v.b a.b⟩).getD a)
      high := some ((x.high.map fun v => ⟨max v.l a.l, max v.a a.a, max v.b a.b⟩).getD a) }
  | _, _ => counted

/-- The records that the end of a job at the datum stop folds into the entry q of a log whose active entry has been ended (R92,
R131): those before stop whose origins that entry contains, the newest such, LIFTED where they are not past the nip. -/
def foldedAtEnd (records : List RepeatRecord) (log : List Entry) (stop : Count) (q : BitVec 32) : List RepeatRecord :=
  (records.filter fun r => !reached r.origin stop &&
      ((log.reverse.find? fun x => x.contains r.origin).map Entry.seq) == some q).map fun r =>
    if r.emboss = .notReached then { r with emboss := .lifted } else r

/-- The trim that an abort of the train noted leaves (R55): the trim before it and the share of its correction that the emitted
steps are, rounded toward zero. -/
def proratedTrim (n : TrainNote) (x : Channel) : Int := n.before + Int.tdiv (n.c * x.emitted) (x.emitted + x.remaining)

/-- The trim of a station once its train, if one is in flight, is aborted (R55, R68). -/
def abortedTrim (s : State) (i : StationId) : Int :=
  match (s.station i).train with
  | some n => if (s.chan (channelOf i)).inFlight then proratedTrim n (s.chan (channelOf i)) else (s.station i).trim
  | none => (s.station i).trim

/-- A station once its train, if one is in flight, is aborted (R55, R68). -/
def trainAborted (s : State) (i : StationId) : Station :=
  { s.station i with
    trim := abortedTrim s i, train := if (s.chan (channelOf i)).inFlight then none else (s.station i).train }

/-- The return to READY in the columns of the blocks (R187), r being what the end of the job at the winder has left of s: the
Step Generator's and the stations' trains aborted with prorating (R55, R68), the stations' starting states, accumulators, bad
counts and settle ends (R73), the emboss unit's aborted train, register state, miss count, phase, accumulator, zone and
windows, the nip evaluated (R90, R96), the head IDLE with the measurement abandoned (R112), the scanner (R26), and the
winder, whose earliest cut datum, points and duty go while spindles, transfer, last winding spindle, counts and last refusal
stay (R114). What each table keeps is kept. -/
def ColumnsOfReturn (j : Job) (s r t : State) : Prop :=
  (∀ c : ChannelId, t.chan c = { s.chan c with inFlight := false }) ∧
  (∀ i : StationId, t.station i =
    if ((s.station i).isResident || (s.station i).isIndirect) = true then
      { trainAborted s i with
        st := if (s.station i).isResident then (if (s.station i).engaged then .seeking else .disengaged) else (s.station i).st
        acc := [], bad := 0, settleEnd := none }
    else trainAborted s i) ∧
  t.emb = evaluated j false { s.emb with
    zoneActive := false, release := none, heldOpen := false, windows := [], reg := .seeking, missCount := 0
    phase := .idle, acc := []
    trim := match s.emb.train with
      | some n => if (s.chan 8).inFlight then proratedTrim n (s.chan 8) else s.emb.trim
      | none => s.emb.trim
    train := if (s.chan 8).inFlight then none else s.emb.train } ∧
  t.shu = { r.shu with starts := [], meas := none, head := if s.shu.meas.isSome then .idle else s.shu.head } ∧
  (r.shu.head, r.shu.meas, r.shu.starts, r.shu.faultCount) = (s.shu.head, s.shu.meas, s.shu.starts, s.shu.faultCount) ∧
  t.msc = { s.msc with
    refState := .seeking, origin := none, prevEdge := none, missCount := 0, nextIndex := 0, capture := none, closings := [] } ∧
  t.wnd = { s.wnd with
    active := none, planned := none, eMin := none, plan := none, search := none, points := [], divert := true
    overlength := false, torqueMark := 0, pwm := { s.wnd.pwm with setDuty := 0, duty := 0 }
    spindleA := t.wnd.spindleA, spindleB := t.wnd.spindleB, knife := t.wnd.knife, turret := t.wnd.turret } ∧
  t.lsc = { s.lsc with latched := {}, runPermit := false, lineState := .ready } ∧
  t.trk = { records := [], events := [], eventLost := false } ∧
  (t.rlg, t.bat, t.lbc) = (r.rlg, r.bat, r.lbc)

/-- The end of a job in s has left t, telling the notices (R131, R132, R187): READY, with no cause, no segment, no plan, no
records, no events, no train and no measurement, torque 0 and the divert asserted, and every column of the return as its table
gives it (ColumnsOfReturn). With a segment active, its entry has been ended at the knife, ABORTED by an ABORT_JOB, and of a ROLL
the spindle is FULL, knife and turret pulsed. The log is examined; the records before the knife have been folded into their
entries in index order, LIFTED where they were not past the nip (R92); the track is emptied and the log examined again, so that
every ended entry is CLOSED; sequence numbers are apart by the law of the log (CapacityLaw). -/
def ReturnedToReady (j : Job) (aborted : Bool) (s t : State) (notices : List Notice) : Prop :=
  let stop := back s.wpu.h j.dCut
  (t.rlg.nextSeq = s.rlg.nextSeq ∧ t.rlg.log.map Entry.seq = s.rlg.log.map Entry.seq ∧
    ∀ e ∈ t.rlg.log, e.state = .cut → e.stop = none) ∧
  (∃ (a b r : State) (told told' : List Notice), notices = .lineState :: (told ++ told') ∧
    (s.wnd.active = none → SameBut [.wpu, .lsc, .emb, .wnd, .lnk] s a ∧ a.lsc.job = some j ∧ told = []) ∧
    (∀ g, s.wnd.active = some g → ∃ ending : State, SameBut [.wpu, .lsc, .emb, .wnd, .lnk] s ending ∧ ending.lsc.job = some j ∧
      LogExamined j (withEnded ending g.seq stop aborted) a told) ∧
    SameBut [.trk, .rlg, .wnd] a b ∧ b.trk = { records := [], events := [], eventLost := false } ∧
    b.rlg = { a.rlg with log := b.rlg.log } ∧ b.rlg.log.map Entry.seq = a.rlg.log.map Entry.seq ∧
    ((s.rlg.log.map Entry.seq).Nodup → b.rlg.log = a.rlg.log.map fun e =>
      (foldedAtEnd s.trk.records a.rlg.log stop e.seq).foldl (fun x y => foldedEntry y x) e) ∧
    LogExamined j b r told' ∧ ColumnsOfReturn j s r t) ∧
  (s.wnd.active = none → t.wnd.knife = s.wnd.knife ∧ t.wnd.turret = s.wnd.turret ∧ ∀ k, t.spindle k = s.spindle k) ∧
  ∀ g, s.wnd.active = some g →
    ((∀ e ∈ s.rlg.log, e.seq = g.seq → e.state = .opened) → ∀ e ∈ t.rlg.log, e.seq = g.seq →
        e.state = .closed ∧ e.stop = some stop ∧ e.length = some (ahead stop e.start).toNat ∧
          (aborted = true → e.flags.aborted = true)) ∧
      (g.role = .roll → t.wnd.knife = some 400000 ∧ t.wnd.turret = some 400000 ∧
        ∀ k, t.spindle k = if s.spindle k = .winding g.seq then .full g.seq else s.spindle k) ∧
      (g.role ≠ .roll → t.wnd.knife = s.wnd.knife ∧ t.wnd.turret = s.wnd.turret ∧ ∀ k, t.spindle k = s.spindle k)

/-! ### Web position (01) -/

/-- Tier 2. ENCODER_TRANSITION: W moves by one count in the order of the lines, H follows W forward and never back, the
stopped timer starts again (R1, R3, R7). Of an advance, the first one after reverse travel is an opening occasion of the
defect line (R17), and a WAITING cut whose conditions hold fires at the knife (R125); without either, nothing else changes.
ENCODER_FAULT: W and H stay, the fault is counted up to 65,535 and cause ENCODER is raised (R2). What an advance makes due
besides comes as commands of its own: the model's choice, notes/assumptions/1.md, as is the defect before the cut in one
advance, notes/assumptions/40.md; what falls due at the defect's insertion happens in it, its reading
(notes/assumptions/24.md). A timeout timer looks at its conditions at the event's end, and a label's transfer count has no
bound, its choices (notes/assumptions/46.md and 51.md). -/
def Obligations.EncoderTransitionMovesTheWeb : Prop :=
  (∀ (line : EncoderLine) (s : State),
    let forward := match line with
      | .a => s.pins.encA == s.pins.encB
      | .b => s.pins.encA != s.pins.encB
    let w := if forward then s.wpu.w + 1 else s.wpu.w - 1
    let moved := { s with
      pins := { s.pins with encA := s.pins.encA ^^ (line == .a), encB := s.pins.encB ^^ (line == .b) }
      wpu := { s.wpu with
        w := w, h := if 0 < ahead w s.wpu.h then w else s.wpu.h,
        direction := if forward then .forward else .reverse, stopped := false, stoppedTime := 0,
        reversed := !decide (0 < ahead w s.wpu.h) && (decide (ahead w s.wpu.h < 0) || s.wpu.reversed) } }
    ∃ t v told fired, exec (.encoderTransition line) s = .next t ∧ t.pins = moved.pins ∧ t.wpu = moved.wpu ∧
      SameBut [.pins, .wpu, .trk, .rlg, .bat, .shu, .lbc, .wnd, .lsc, .emb, .lnk] s t ∧ Silent s t (told ++ fired) ∧
      (ahead w s.wpu.h ≤ 0 ∨ s.lsc.job = none ∨
          (s.wpu.reversed = false ∧ (s.wnd.planned.any fun c => c.target == .waiting) = false) →
        SameBut [.pins, .wpu, .lnk] s t ∧ Silent s t []) ∧
      (∀ j, 0 < ahead w s.wpu.h → s.lsc.job = some j →
        (s.wpu.reversed = false → v = moved ∧ told = []) ∧ (s.wpu.reversed = true → OccasionTaken j moved v told) ∧
        ((∀ c, s.wnd.planned = some c → c.target ≠ .waiting) → SameBut [.lnk] v t ∧ fired = []) ∧
        (∀ c, s.wnd.planned = some c → c.target = .waiting → v.wnd = s.wnd ∧
          (32 ≤ s.rlg.log.length ∨ (c.opens = .roll ∧ ∀ k, ¬Chosen s k) → SameBut [.lnk] v t ∧ fired = []) ∧
          (s.rlg.log.length < 32 → (c.opens = .roll → ∃ k, Chosen s k) →
            CutFired j c.opens (back w j.dCut) none v t fired)))) ∧
  (∀ s : State, ∃ t, exec .encoderFault s = .next t ∧
    t.pins = { s.pins with encA := !s.pins.encA, encB := !s.pins.encB } ∧
    t.wpu = { s.wpu with
      faultCount := if s.wpu.faultCount < 65535 then s.wpu.faultCount + 1 else s.wpu.faultCount, encoderCond := true,
      faultInWindow := true } ∧
    t.lsc = (s.raiseCause .encoder).lsc ∧ SameBut [.pins, .wpu, .lsc, .emb, .lnk] s t ∧
    Silent s t (causeTold s .encoder))

/-- Tier 2. SPEED_WINDOW_END: v is 100 times the net forward travel of the window (R5), the ENCODER condition ends with a
window without fault (R2), OVERSPEED is raised at the second window running above v_max + floor(v_max / 10) (R6), and the nip
is judged by the new speed and by the line state that is then left: it engages, lifts or stays (R77, R78). LINE_STATE is told
where the cause stops the line or is newly latched (R183, R189). That later windows above the limit raise nothing is the
model's reading, notes/assumptions/14.md; the window ends at the sender's word, notes/assumptions/2.md; with no job the close
conditions fail, and a nip that is closing or closed, which no run leaves then, lifts with a lift time of 0
(notes/assumptions/47.md). -/
def Obligations.SpeedWindowEndMeasuresAndJudges : Prop :=
  ∀ s : State,
    let v := if 0 < ahead s.wpu.w s.wpu.windowStart then 100 * (ahead s.wpu.w s.wpu.windowStart).toNat else 0
    let above := s.lsc.job.any fun j => decide (j.vMax + j.vMax / 10 < v)
    ∃ t, exec .speedWindowEnd s = .next t ∧
      t.wpu = { s.wpu with
        v := v, encoderCond := s.wpu.encoderCond && s.wpu.faultInWindow, faultInWindow := false,
        windowStart := s.wpu.w, windowTime := 0,
        overCount := if s.lsc.job.isNone then s.wpu.overCount else if above then min 2 (s.wpu.overCount + 1) else 0,
        overspeedCond := if s.lsc.job.isNone then s.wpu.overspeedCond
          else above && (s.wpu.overspeedCond || s.wpu.overCount == 1) } ∧
      t.lsc = (if above && s.wpu.overCount == 1 then (s.raiseCause .overspeed).lsc else s.lsc) ∧
      (∀ j, s.lsc.job = some j → t.emb = evaluated j (ClosePermitted t j s.emb) s.emb) ∧
      (s.lsc.job = none → t.emb = match s.emb.nip with
        | .engaging | .closed => { s.emb with
            nip := .lifting, nipTime := some 0, closedSince := none, pwm := { s.emb.pwm with setDuty := 0, duty := 0 } }
        | .lifted | .lifting => s.emb) ∧
      SameBut [.wpu, .lsc, .emb, .lnk] s t ∧
      Silent s t (if above && s.wpu.overCount == 1 then causeTold s .overspeed else [])

/-- Tier 2. STOPPED_FLAG_SET: the flag is set and nothing else changes, but in ENDING, where the job then ends at the winder
(R7, R131): the active entry is ended at the knife and, with every other ended one, CLOSED, a ROLL's spindle is FULL with
knife and turret pulsed, torque is 0, and the line is READY with no segment, no records and no causes; the records before the
knife are folded into their entries, LIFTED where not past the nip (R92); every block takes its column of the return: trains
aborted with prorated trims, stations and emboss unit in their starting states, the head IDLE (R26, R55, R68, R73, R74, R90,
R96, R112, R114); LINE_STATE is told, ROLLS_CLOSED where an entry closes. A CORRECTING station at its missing limit goes to
its starting state with no STATION_LOST raised, and an entry's counts have no bound, the model's choices
(notes/assumptions/41.md and 23.md). An abort leaves the channel's counts of steps as they stand, a TRIGGER still high ends
its 10 µs, and an abandoned read goes on under the select, the model's choices and readings: notes/assumptions/35.md, 42.md
and 19.md. The flag is set at the sender's word: notes/assumptions/2.md. -/
def Obligations.StoppedFlagIsSetAndEndsATail : Prop :=
  ∀ s : State, s.wpu.stopped = false → ∃ t, exec .stoppedFlagSet s = .next t ∧
    t.wpu = { s.wpu with stopped := true, stoppedTime := 20000000 } ∧
    SameBut [.wpu, .trk, .msc, .rlp, .stg, .emb, .shu, .wnd, .rlg, .bat, .lbc, .lsc, .lnk] s t ∧
    (s.lsc.lineState ≠ .ending ∨ s.lsc.job = none → SameBut [.wpu, .lnk] s t ∧ Silent s t []) ∧
    ∀ j, s.lsc.lineState = .ending → s.lsc.job = some j →
      ∃ notices, ReturnedToReady j false s t notices ∧ Silent s t notices

/-- Tier 2. Only an encoder transition, a part reset, or the reply of a RESET sent whole moves the web counts: no request,
no timer and no other input does (R1, R2, R3, R8). -/
def Obligations.NothingElseMovesTheWebCounts : Prop :=
  ∀ (c : Instr) (s t : State), exec c s = .next t →
    t.wpu.w = s.wpu.w ∧ t.wpu.h = s.wpu.h ∨
      (∃ line, c = .encoderTransition line) ∨ (∃ p, c = .partReset p) ∨
      (∃ l, c = .frameSent l ∧ (s.half l).resetWait = true)

/-! ### Mark scanner (02) -/

/-- What an origin fixed at o leaves (R9, R27): the next window's origin, the pending closing, and the record at the tail, with
its start point when it is sampled (R100), its expected index window (R84), and what the winder makes of the record appended
(R119, R120: State.winderAppend, of which AppendedRecordsSettleThePlans tells). A position of the record that H has reached by
then is left due, as a command of its own (notes/assumptions/1.md). -/
def OriginFixed (j : Job) (s t : State) (o : Count) (kind : OriginKind) : Prop :=
  let n := s.msc.nextIndex
  t.msc.origin = some ⟨o, kind⟩ ∧ t.msc.prevEdge = none ∧ t.msc.nextIndex = n + 1 ∧
    t.msc.closings = s.msc.closings ++ [⟨n, o, kind⟩] ∧ t.msc.gates = s.msc.gates ∧
    t.msc.offsets = s.msc.offsets ∧ t.msc.oMax = s.msc.oMax ∧
    t.shu = { s.shu with starts := s.shu.starts ++
      (if n.toNat % j.sampleInterval = 0 then [(n, fwd o (j.dSh + j.oSh))] else []) } ∧
    t.emb.windows = s.emb.windows ++
      (if j.embossOn = true ∧ n.toNat % j.k = j.phaseSelect then [⟨n, kind, fwd o (j.dEm + j.oEm), none⟩] else []) ∧
    ∃ r, t.trk.records = s.trk.records ++ [r] ∧ r.index = n ∧ r.origin = o ∧ r.kind = kind ∧
      r.cls = .pending ∧ r.worst = none ∧ r.emboss = .notReached ∧ r.shade = none ∧ r.overflow = false ∧
      r.liftLate = false ∧ (r.shadeState = if n.toNat % j.sampleInterval = 0 then .pending else .notScheduled) ∧
      (∀ i : StationId, r.outcomes[i] = if (s.station i).isResident then .absent else .notUsed) ∧
      r.points = (if j.cutMode = .length then [] else if j.matchType = .straight then [fwd o j.cutOffset]
        else [fwd o j.cutOffset, fwd o (j.L / 2 + j.cutOffset)]) ∧
      t.trk.events = (s.winderAppend j r).trk.events ∧ t.trk.eventLost = s.trk.eventLost ∧
      t.wnd = (s.winderAppend j r).wnd

/-- An enabled gate matches an edge at x measured from c: bits 15..8 of x − c and the gate's base agree where the mask bit is
0 (R24). -/
def GateMatches (g : Gate) (x c : Count) : Prop :=
  g.enabled = true ∧ ∀ i, i < 8 → g.mask.getLsbD i = false → (x - c).getLsbD (8 + i) = g.base.getLsbD i

/-- An edge at x is admitted for a role: no gate is enabled, or a gate of the role or BOTH matches it, measured from the
current origin, or without one from the previous edge (R25). -/
def EdgeAdmitted (m : Msc) (role : GateRole) (x : Count) : Prop :=
  (∀ k : Fin 4, m.gates[k].enabled = false) ∨
    ∃ (k : Fin 4) (c : Count), (m.gates[k].role = role ∨ m.gates[k].role = .both) ∧ GateMatches m.gates[k] x c ∧
      ((∃ o, m.origin = some o ∧ c = o.datum) ∨ (m.origin = none ∧ m.prevEdge = some c))

/-- The current reference window contains x: within W_ref of the expected next origin in LOCKED and FLYWHEEL (R29), from half
a repeat before the projected origin to half a repeat after it in LOST (R31). -/
def WindowHolds (m : Msc) (j : Job) (o : Origin) (x : Count) : Prop :=
  ((m.refState = .locked ∨ m.refState = .flywheel) ∧ -(j.wRef : Int) ≤ ahead x (fwd o.datum j.L) ∧
    ahead x (fwd o.datum j.L) ≤ j.wRef) ∨
  (m.refState = .lost ∧ 0 ≤ ahead x (back (fwd o.datum j.L) (j.L / 2)) ∧ ahead x (fwd o.datum (2 * j.L - j.L / 2)) < 0)

/-- An edge at x fixes the next origin: admitted for REF, and in SEEKING or in the current reference window (R23, R28). -/
def EdgeFixes (m : Msc) (j : Job) (x : Count) : Prop :=
  EdgeAdmitted m .ref x ∧ (m.refState = .seeking ∨ ∃ o, m.origin = some o ∧ WindowHolds m j o x)

/-- What an edge at H does once no expiry is due: it fixes an origin (R27, R28, R29, R31), joins the open capture, makes it
overflow (R33, R34), becomes the previous edge in SEEKING (R25), or is dropped. -/
def EdgeTaken (j : Job) (s t : State) : Prop :=
  let x := s.wpu.h
  Silent s t [] ∧
  (EdgeFixes s.msc j x →
    OriginFixed j s t x .marked ∧ t.msc.refState = .locked ∧ t.msc.missCount = 0 ∧
      t.msc.capture = some ⟨s.msc.nextIndex, x, [], none⟩ ∧ t.emb = { s.emb with windows := t.emb.windows } ∧
      SameBut [.msc, .trk, .shu, .emb, .wnd, .lnk] s t) ∧
  (¬EdgeFixes s.msc j x →
    (s.msc.capture = none → SameBut [.msc, .lnk] s t ∧
      t.msc = if s.msc.refState = .seeking then { s.msc with prevEdge := some x } else s.msc) ∧
    (∀ c, s.msc.capture = some c →
      let joins := EdgeAdmitted s.msc .marks x ∧ 0 < ahead x c.origin ∧
        reached (fwd c.origin (s.msc.oMax + j.wMark)) x = true
      (¬joins → SameBut [.lnk] s t) ∧
      (joins → c.edges.length < 16 → SameBut [.msc, .lnk] s t ∧
        t.msc = { s.msc with capture := some { c with edges := c.edges ++ [x] } }) ∧
      (joins → 16 ≤ c.edges.length → SameBut [.msc, .trk, .lnk] s t ∧
        t.msc = { s.msc with capture := some { c with overflow := some (c.overflow.getD x) } } ∧
        t.trk = { s.trk with records := s.trk.records.map fun r =>
          if r.index = c.index then { r with overflow := true } else r })))

/-- What an expiry of the current reference window does, o being the current origin (R29, R30, R31): the projected origin is
fixed as FLYWHEEL; in LOCKED and FLYWHEEL the miss is counted, and at the miss limit the state is LOST, with STATION_ALARM for
the reference station and cause REF_LOST; in LOST the state stays. -/
def ProjectedFixed (j : Job) (o : Origin) (s t : State) : Prop :=
  OriginFixed j s t (fwd o.datum j.L) .flywheel ∧ t.msc.capture = s.msc.capture ∧
  SameBut [.msc, .trk, .shu, .emb, .wnd, .lsc, .lnk] s t ∧
  (s.msc.refState = .lost → t.msc.refState = .lost ∧ t.msc.missCount = s.msc.missCount) ∧
  (s.msc.refState ≠ .lost → t.msc.missCount = s.msc.missCount + 1 ∧
    t.msc.refState = if s.msc.missCount + 1 < j.refMissLimit then .flywheel else .lost) ∧
  (s.msc.refState = .lost ∨ s.msc.missCount + 1 < j.refMissLimit →
    t.lsc = s.lsc ∧ t.emb = { s.emb with windows := t.emb.windows } ∧ Silent s t []) ∧
  (s.msc.refState ≠ .lost → j.refMissLimit ≤ s.msc.missCount + 1 →
    t.lsc = (s.raiseCause .refLost).lsc ∧
    t.emb = { (s.raiseCause .refLost).emb with windows := t.emb.windows } ∧
    ∃ notices, Silent s t notices ∧
      (∀ n ∈ notices, n = .lineState ∨ ∃ i, n = .stationAlarm i ∧ (s.station i).desc = .reference) ∧
      ∀ i : StationId, (s.station i).desc = .reference → (∀ k, k < i → (s.station k).desc ≠ .reference) →
        .stationAlarm i ∈ notices)

/-- Tier 2. MARK_EDGE: ignored while no job runs and in reverse travel (R4, R23). A taken edge first takes an expiry that is due
(R23); it then fixes an origin, MARKED and LOCKED with its capture opened (R27, R28, R29, R31, R33), when a gate admits it for
REF and it lies in the current window; any other edge that a MARKS gate admits joins the open capture while it holds fewer
than 16, and else makes it overflow (R33, R34). A closing or a start point of the record that H has reached at its creation is
left due, to be taken as a command of its own: the model's choice, notes/assumptions/1.md. -/
def Obligations.MarkEdgeFixesAnOriginOrIsCaptured : Prop :=
  ∀ s : State, ∃ t, exec .markEdge s = .next t ∧
    (s.running = false ∨ s.reverse = true → SameBut [.lnk] s t ∧ Silent s t []) ∧
    (∀ j, s.lsc.job = some j → s.running = true → s.reverse = false →
      ((∀ o, s.msc.origin = some o → ¬WindowExpired s.msc j o s.wpu.h) → EdgeTaken j s t) ∧
      (∀ o, s.msc.origin = some o → WindowExpired s.msc j o s.wpu.h →
        ∃ u, ProjectedFixed j o s u ∧ EdgeTaken j u t))

/-- Tier 2. REFERENCE_WINDOW_EXPIRY and REACQUISITION_WINDOW_EXPIRY, when H has reached the expiry of the current window:
the projected origin is fixed as FLYWHEEL one repeat on; in LOCKED and FLYWHEEL the miss is counted and the miss limit
makes the state LOST and raises REF_LOST (R29, R30), in LOST the state stays (R31). Before it they do nothing. That a due
expiry is a command of its own is the model's choice: notes/assumptions/1.md. -/
def Obligations.WindowExpiryFixesAProjectedOrigin : Prop :=
  ∀ (s : State) (j : Job) (o : Origin), s.lsc.job = some j → s.msc.origin = some o →
    (∃ t, exec .referenceWindowExpiry s = .next t ∧
      (s.msc.refState ≠ .lost → WindowExpired s.msc j o s.wpu.h → ProjectedFixed j o s t) ∧
      (s.msc.refState = .lost ∨ ¬WindowExpired s.msc j o s.wpu.h → SameBut [.lnk] s t ∧ Silent s t [])) ∧
    (∃ t, exec .reacquisitionWindowExpiry s = .next t ∧
      (s.msc.refState = .lost → WindowExpired s.msc j o s.wpu.h → ProjectedFixed j o s t) ∧
      (s.msc.refState ≠ .lost ∨ ¬WindowExpired s.msc j o s.wpu.h → SameBut [.lnk] s t ∧ Silent s t []))

/-- The outcome of a station with an offset in a MARKED repeat (R34, R35): AMBIGUOUS when its window ends beyond the overflow
point; else MISSING without an edge in the window, the signed distance of a single one, AMBIGUOUS for more. -/
def IsOutcome (j : Job) (x : Capture) (offset : Nat) (outcome : StationOutcome) : Prop :=
  let e := fwd x.origin offset
  let inside := x.edges.filter fun y => decide (-(j.wMark : Int) ≤ ahead y e ∧ ahead y e ≤ j.wMark)
  ((∃ p, x.overflow = some p ∧ reached (fwd e j.wMark) p = true) → outcome = .ambiguous) ∧
  ((∀ p, x.overflow = some p → reached (fwd e j.wMark) p = false) →
    (inside = [] → outcome = .missing) ∧ (∀ y, inside = [y] → outcome = .sample (ahead y e)) ∧
    (2 ≤ inside.length → outcome = .ambiguous))

/-- The register class and the worst error of a MARKED record from its outcomes (R59): OUT with a RESIDENT sample beyond its
tolerance, IN with every RESIDENT outcome a sample, else UNKNOWN; the sample of greatest magnitude, the lowest station's of
equals. -/
def ClassAndWorst (s : State) (written : Vector StationOutcome 8) (cls : RegClass) (worst : Option Int) : Prop :=
  let samples := fun (i : StationId) (e : Int) => (s.station i).isResident = true ∧ written[i] = .sample e
  let out := ∃ i d e, (s.station i).desc = .resident d ∧ written[i] = .sample e ∧ d.tol < e.natAbs
  let whole := ∀ i : StationId, (s.station i).isResident = true → ∃ e, written[i] = .sample e
  (out → cls = .outside) ∧ (¬out → whole → cls = .inside) ∧ (¬out → ¬whole → cls = .unknown) ∧
    ((∀ i e, ¬samples i e) → worst = none) ∧
    ∀ i e, samples i e → (∀ k e', samples k e' → e'.natAbs < e.natAbs ∨ (e'.natAbs = e.natAbs ∧ i ≤ k)) →
      worst = some e

/-- Tier 2. A closing that is first among the closings and due. CAPTURE_CLOSE of a MARKED repeat: the capture ends, the
record takes the outcomes formed from it and its register class, every RESIDENT station is told its outcome and is then
offered it, in station order (R35, R58, R59). FLYWHEEL_CLOSING: every RESIDENT station's outcome is MISSING, or
NOT_ENGAGED for a disengaged one, the register class is UNKNOWN, and no station machine moves (R36, R58, R59). A closing
of another kind, or one that is not due, waits. That a due closing is a command of its own is the model's choice:
notes/assumptions/1.md. -/
def Obligations.ClosingsHandTheOutcomes : Prop :=
  (∀ (s : State) (j : Job) (c : Closing) (rest : List Closing) (x : Capture),
    s.lsc.job = some j → s.msc.closings = c :: rest → c.kind = .marked → s.msc.capture = some x →
    reached s.wpu.h (fwd c.origin (s.msc.oMax + j.wMark)) = true →
    ∃ (written : Vector StationOutcome 8) (cls : RegClass) (worst : Option Int) (t : State),
      (∀ i : StationId,
        ((s.station i).isResident = false → written[i] = .notUsed) ∧
        ((s.station i).isResident = true → (s.station i).engaged = false → written[i] = .notEngaged) ∧
        (∀ offset, (s.station i).isResident = true → (s.station i).engaged = true → s.msc.offsets[i] = some offset →
          IsOutcome j x offset written[i])) ∧
      ClassAndWorst s written cls worst ∧
      exec .captureClose s = .next t ∧ SameBut [.msc, .trk, .rlp, .stg, .lsc, .emb, .lnk] s t ∧
      let told : State := { s with
        msc := { s.msc with closings := rest, capture := none }
        trk := { s.trk with records := s.trk.records.map fun r =>
          if r.index = c.index ∧ r.cls = .pending then { r with outcomes := written, cls := cls, worst := worst } else r }
        rlp := { stations := Vector.ofFn fun i : Fin 8 =>
          if (s.station i).isResident then { s.station i with lastOutcome := some written[i] } else s.station i } }
      t = ((List.finRange 8).foldl (fun (u : State) i => u.offer i written[i]) told).endOfEvent) ∧
  (∀ (s : State) (j : Job) (c : Closing) (rest : List Closing),
    s.lsc.job = some j → s.msc.closings = c :: rest → c.kind = .flywheel →
    reached s.wpu.h (fwd c.origin (s.msc.oMax + j.wMark)) = true →
    let told : StationId → StationOutcome := fun i =>
      if (s.station i).isResident then (if (s.station i).engaged then .missing else .notEngaged) else .notUsed
    ∃ t, exec .flywheelClosing s = .next t ∧ t.msc = { s.msc with closings := rest } ∧
      t.trk.records = s.trk.records.map (fun r =>
        if r.index = c.index ∧ r.cls = .pending then
          { r with outcomes := Vector.ofFn told, cls := .unknown, worst := none }
        else r) ∧
      (∀ i : StationId, t.station i =
        if (s.station i).isResident then { s.station i with lastOutcome := some (told i) } else s.station i) ∧
      t.trk.events = s.trk.events ∧ t.trk.eventLost = s.trk.eventLost ∧ SameBut [.msc, .trk, .rlp, .lnk] s t ∧
      Silent s t []) ∧
  (∀ (s : State) (j : Job), s.lsc.job = some j →
    let waits := fun (kind : OriginKind) => ∀ c rest, s.msc.closings = c :: rest →
      c.kind ≠ kind ∨ reached s.wpu.h (fwd c.origin (s.msc.oMax + j.wMark)) = false
    (waits .marked → ∃ t, exec .captureClose s = .next t ∧ SameBut [.lnk] s t ∧ Silent s t []) ∧
    (waits .flywheel → ∃ t, exec .flywheelClosing s = .next t ∧ SameBut [.lnk] s t ∧ Silent s t []))

/-! ### Requests that report (12 and the status rules of every chapter) -/

/-- Tier 2. ROLL_READ and BATCH_READ, on a link that may take a request and in every line state, answer with the whole
entry named, or with NOT_FOUND or PARAM naming field 1 where there is none, and change nothing (R146, R163). -/
def Obligations.ReadsReportOneEntryWhole : Prop :=
  ∀ (s : State) (l : LinkId) (tag : Byte), s.mayTake l = true →
    (∀ seq : BitVec 32,
      (∀ before e after, s.rlg.log = before ++ e :: after → e.seq = seq → (∀ x ∈ before, x.seq ≠ seq) →
        Answers (.rollRead l tag seq) s l ⟨0x88, tag, .done, .rollEntry e⟩ [] s) ∧
      ((∀ e ∈ s.rlg.log, e.seq ≠ seq) → Answers (.rollRead l tag seq) s l ⟨0x88, tag, .notFound, .empty⟩ [] s)) ∧
    (∀ i : Fin 32,
      Answers (.batchRead l tag (BitVec.ofNat 8 i.val)) s l
        ⟨0x8A, tag, .done, .batchEntry i.val s.bat.entries[i]⟩ [] s) ∧
    (∀ index : Byte, 31 < index.toNat →
      Answers (.batchRead l tag index) s l ⟨0x8A, tag, .param, .field 1⟩ [] s)

/-- The record at place k of a track covers d: from its own origin up to the next record's, the tail record up to its
origin + L (R22). -/
def CoversAt (L : Nat) (records : List RepeatRecord) (d : Count) (k : Nat) : Prop :=
  ∃ r, records[k]? = some r ∧ reached d r.origin = true ∧
    (match records[k + 1]? with
      | some next => reached d next.origin = false
      | none => reached d (fwd r.origin L) = false)

/-- Tier 2. PROBE answers with the record that covers the datum; NOT_RESIDENT for a datum ahead of the tail record's coverage;
else the newest entry whose segment contains it, or NOT_RESIDENT without one; and changes nothing (R22). That the list of
NOT_RESIDENT datums wins there over the open entry, which contains every datum from its start on, is the model's reading:
notes/assumptions/37.md. -/
def Obligations.ProbeFindsRecordThenEntry : Prop :=
  ∀ (s : State) (l : LinkId) (tag : Byte) (d : Count), s.mayTake l = true →
    let L := (s.lsc.job.map Job.L).getD 0
    (∀ k r, s.trk.records[k]? = some r → CoversAt L s.trk.records d k → (∀ i < k, ¬CoversAt L s.trk.records d i) →
      Answers (.probe l tag d) s l ⟨0x83, tag, .done, .probeRecord r⟩ [] s) ∧
    ((∀ k, ¬CoversAt L s.trk.records d k) →
      (∀ before r, s.trk.records = before ++ [r] → reached d (fwd r.origin L) = true →
        Answers (.probe l tag d) s l ⟨0x83, tag, .done, .probeNone⟩ [] s) ∧
      ((∀ before r, s.trk.records = before ++ [r] → reached d (fwd r.origin L) = false) →
        (∀ before e after, s.rlg.log = before ++ e :: after → e.contains d = true →
          (∀ x ∈ after, x.contains d = false) →
          Answers (.probe l tag d) s l ⟨0x83, tag, .done, .probeEntry e.seq e.kind⟩ [] s) ∧
        ((∀ e ∈ s.rlg.log, e.contains d = false) →
          Answers (.probe l tag d) s l ⟨0x83, tag, .done, .probeNone⟩ [] s))) ∧
    (∀ e : Entry, e.contains d = true ↔ reached d e.start = true ∧ ∀ x, e.stop = some x → reached d x = false)

/-- The conditions of the hold causes that are present (R183): HOST while it is latched (notes/assumptions/12.md). -/
def conditionsOf (s : State) : Causes :=
  { encoder := s.wpu.encoderCond
    overspeed := s.wpu.overspeedCond
    refLost := decide (s.msc.refState = .lost)
    stationLost := decide (∃ i : StationId,
      (s.station i).isResident = true ∧ (s.station i).engaged = true ∧ (s.station i).st = .lost)
    overlength := s.wnd.overlength
    eventLost := s.trk.eventLost
    headOffline := decide (s.shu.head = .offline)
    printerOffline := decide (s.lbc.printerA.online = false ∨ s.lbc.printerB.online = false)
    host := s.lsc.latched.host }

/-- Tier 2. IDENTIFY, WINDER_STATUS and LABEL_STATUS answer from the state at the moment the request is taken and change
nothing (R133, R177, R197). The other status replies clear exactly what their rules have them clear: LINE_STATUS, with the
conditions of the nine hold causes, the reported causes (R183, R190), STATION_STATUS the station's latched flags (R75),
EMBOSS_STATUS the emboss flags (R97), SHADE_STATUS the clamp flags (R113), BATCH_REPORT both marks of the entries it
reports, at most 16, lowest index first (R162). The condition HOST is present while it is latched, the model's reading
(notes/assumptions/12.md). With no job the close conditions fail by notes/assumptions/47.md; the revision letter holds for
every value (notes/assumptions/8.md). -/
def Obligations.StatusRequestsReportAndClear : Prop :=
  (∀ (s : State) (l : LinkId) (tag : Byte), s.mayTake l = true →
    Answers (.identify l tag) s l ⟨0x81, tag, .done, .identify
      { partCode := 0x5708, revision := Config.revisionLetter, stations := 8, trackRecords := 512, events := 16,
        logEntries := 32, batchEntries := 32, labels := 8, link := l, rate := (s.half l).rate,
        abandoned := (s.half l).abandoned, crcFail := (s.half l).crcFail, queueFull := (s.half l).queueFull }⟩ [] s ∧
    Answers (.winderStatus l tag) s l ⟨0x87, tag, .done, .winderStatus
      { spindleA := s.wnd.spindleA, spindleB := s.wnd.spindleB, lastWinding := s.wnd.lastWinding,
        active := s.wnd.active.map fun g =>
          { seq := g.seq, role := g.role, start := g.start,
            length := ahead (back s.wpu.h ((s.lsc.job.map Job.dCut).getD 0)) g.start },
        planned := s.wnd.planned, eMin := s.wnd.eMin, lastCut := s.wnd.lastCut, plan := s.wnd.plan,
        divert := s.wnd.divert, duty := s.wnd.pwm.setDuty, transfer := s.wnd.transfer, overlength := s.wnd.overlength,
        refusals := s.wnd.refusals, lastRefusal := s.wnd.lastRefusal, overlaps := s.wnd.overlaps }⟩ [] s ∧
    Answers (.labelStatus l tag) s l ⟨0x8B, tag, .done, .labelStatus
      { labels := s.lbc.queue.map fun x => ⟨x.seq, x.roll, x.printer, x.transfers⟩,
        sending := s.lbc.channel.map fun t => t.label.seq,
        printerA := { online := s.lbc.printerA.online, ready := s.pins.readyA, rejects := s.lbc.printerA.rejects,
                      timer := s.lbc.printerA.timer, sent := s.lbc.printerA.sent,
                      lastFault := s.lbc.printerA.lastFault },
        printerB := { online := s.lbc.printerB.online, ready := s.pins.readyB, rejects := s.lbc.printerB.rejects,
                      timer := s.lbc.printerB.timer, sent := s.lbc.printerB.sent,
                      lastFault := s.lbc.printerB.lastFault },
        offlineCond := !s.lbc.printerA.online || !s.lbc.printerB.online,
        dueCount := s.rlg.log.countP fun e => e.label == .due,
        oldestDue := (s.rlg.log.find? fun e => e.label == .due).map Entry.seq,
        accepted := s.lbc.accepted, rejections := s.lbc.rejections, dropped := s.lbc.dropped, jams := s.lbc.jams,
        timeouts := s.lbc.timeouts, unattached := s.lbc.unattached }⟩ [] s) ∧
  (∀ (s : State) (l : LinkId) (tag : Byte), s.mayTake l = true →
    (∃ r : LineStatusReply,
      Answers (.lineStatus l tag) s l ⟨0x82, tag, .done, .lineStatus r⟩ [] { s with lsc := { s.lsc with reported := {} } } ∧
      (r.lineState, r.runPermit, r.serviceGrant) = (s.lsc.lineState, s.lsc.runPermit, s.lsc.serviceGrant) ∧
      (r.latched, r.reported, r.conditions) = (s.lsc.latched, s.lsc.reported, conditionsOf s) ∧
      (r.w, r.h, r.direction) = (s.wpu.w, s.wpu.h, s.wpu.direction) ∧
      (r.v, r.stopped, r.faultCount) = (s.wpu.v, s.wpu.stopped, s.wpu.faultCount) ∧
      (r.refState, r.missCount, r.origin) = (s.msc.refState, s.msc.missCount, s.msc.origin) ∧
      (r.records, r.events) = (s.trk.records.length, s.trk.events.length) ∧
      (r.entries, r.nextRoll) = (s.rlg.log.length, s.rlg.nextRoll) ∧ r.job.isSome = s.lsc.job.isSome ∧
      (∀ j m, s.lsc.job = some j → s.lsc.holdMask = some m → r.job = some
        { holdMask := m, design := j.design, colourway := j.colourway, lotText := j.lotText, L := j.L,
          matchType := j.matchType, cutMode := j.cutMode })) ∧
    (∀ i : StationId, ∃ r : StationStatusReply,
      Answers (.stationStatus l tag (BitVec.ofNat 8 i.val)) s l ⟨0x84, tag, .done, .stationStatus r⟩ []
        (s.putStation i { s.station i with flags := {} }) ∧
      r.desc = (s.station i).desc ∧ r.resident.isSome = (s.station i).isResident ∧
      r.drive.isSome = ((s.station i).isResident || (s.station i).isIndirect) ∧
      (∀ x ∈ r.resident, x = ⟨(s.station i).st, (s.station i).acc, (s.station i).bad, (s.station i).settleEnd,
        (s.station i).lastOutcome⟩) ∧
      (∀ x ∈ r.drive, x = ⟨(s.station i).engaged, (s.station i).trim, (s.station i).lastC, (s.station i).flags⟩) ∧
      r.channel = ⟨(s.chan (channelOf i)).inFlight, (s.chan (channelOf i)).remaining, (s.chan (channelOf i)).emitted,
        (s.chan (channelOf i)).retard⟩) ∧
    (∀ b : Byte, 7 < b.toNat → Answers (.stationStatus l tag b) s l ⟨0x84, tag, .param, .field 1⟩ [] s) ∧
    (∃ r : EmbossStatusReply,
      Answers (.embossStatus l tag) s l ⟨0x85, tag, .done, .embossStatus r⟩ [] { s with emb := { s.emb with flags := {} } } ∧
      (r.nip, r.nipTime, r.fails) = (s.emb.nip, s.emb.nipTime, s.closeFails) ∧
      (r.hostLift, r.zoneActive, r.release, r.heldOpen) =
        (s.emb.hostLift, s.emb.zoneActive, s.emb.release, s.emb.heldOpen) ∧
      (r.closedSince, r.reg, r.missCount, r.lastSample) =
        (s.emb.closedSince, s.emb.reg, s.emb.missCount, s.emb.lastSample) ∧
      (r.windows, r.nextExpected) = (s.emb.windows.length, s.emb.windows.head?.map EmbWindow.expected) ∧
      (r.phase, r.acc, r.trim, r.lastC, r.flags) = (s.emb.phase, s.emb.acc, s.emb.trim, s.emb.lastC, s.emb.flags) ∧
      (r.lateCount, r.lastLate, r.lateListed) =
        (s.emb.lateCount, s.emb.lastLate, s.trk.events.countP WebEvent.liftLate) ∧
      (r.duty, r.liftOutput) = (s.emb.pwm.setDuty, s.emb.nip == .lifting || s.emb.nip == .lifted) ∧
      r.channel = ⟨(s.chan 8).inFlight, (s.chan 8).remaining, (s.chan 8).emitted, (s.chan 8).retard⟩) ∧
    (∃ r : ShadeStatusReply,
      Answers (.shadeStatus l tag) s l ⟨0x86, tag, .done, .shadeStatus r⟩ []
        { s with shu := { s.shu with clampL := false, clampA := false, clampB := false } } ∧
      (r.head, r.faultCount, r.offlineCond) = (s.shu.head, s.shu.faultCount, s.shu.head == .offline) ∧
      r.meas = s.shu.meas.map (fun m => ⟨m.index, m.trigPos, m.since⟩) ∧
      (r.starts, r.nextStart) = (s.shu.starts.length, s.shu.starts.head?.map Prod.snd) ∧
      (r.clampL, r.clampA, r.clampB) = (s.shu.clampL, s.shu.clampA, s.shu.clampB) ∧
      (r.lastReading, r.drift, r.lineBatch) = (s.shu.lastReading, s.shu.drift, s.shu.lineBatch) ∧
      (r.lastDrift, r.counts) = (s.shu.lastDrift, s.shu.counts)) ∧
    (∃ (r : BatchReportReply) (table : Vector BatchEntry 32),
      Answers (.batchReport l tag) s l ⟨0x89, tag, .done, .batchReport r⟩ [] { s with bat := { s.bat with entries := table } } ∧
      r.entries = (((List.finRange 32).filter fun i => s.bat.entries[i].used || s.bat.entries[i].changed).take 16).map
        (fun i => (i.val, s.bat.entries[i])) ∧
      r.stillMarked = (s.bat.entries.toList.countP fun e => e.used || e.changed) - r.entries.length ∧
      (∀ i : Fin 32, table[i] =
        if (r.entries.any fun x => x.1 == i.val) = true then { s.bat.entries[i] with used := false, changed := false }
        else s.bat.entries[i]) ∧
      (r.nextCode, r.lineBatch, r.lastAssign, r.overflows) =
        (s.bat.nextCode, s.bat.lineBatch, s.bat.lastAssign, s.bat.overflows)))

/-! ### Links and requests (12) -/

/-- Tier 2. A link takes a request as it arrives when none is queued before it, its reply queue has room and it waits for no
RESET; it tests it for its payload's length, then for permission: the Service Link is refused OPERATE and CONFIGURE without
the service grant, and GRANT_SERVICE, REVOKE_SERVICE and RESET always (R193, R194). A refused request changes nothing. A
request that its link may not take now joins the request queue as it was sent, or with four queued is counted and lost (R192;
that an arriving request may be taken in the same event is the model's form: notes/assumptions/4.md). -/
def Obligations.RequestsAreTestedForLengthThenClass : Prop :=
  ∀ (c : Instr) (q : RequestInfo) (s : State), requestInfo c = some q →
    (s.mayTake q.link = true → c.wellFormed = false →
      Answers c s q.link ⟨q.kind + 0x80, q.tag, .length, .empty⟩ [] s) ∧
    (s.mayTake q.link = true → c.wellFormed = true → q.link = .service → q.cls ≠ .monitor →
      (s.lsc.serviceGrant = false ∨ q.lineOnly = true) →
      Answers c s q.link ⟨q.kind + 0x80, q.tag, .denied, .empty⟩ [] s) ∧
    (s.mayTake q.link = false → ∃ t, exec c s = .next t ∧ SameBut [.lnk] s t ∧
      (∀ k, (t.half k).outgoing = (s.half k).outgoing ∧ (∀ n, (t.half k).Shows n ↔ (s.half k).Shows n) ∧
        (k ≠ q.link → (s.half k).sameReceiver (t.half k))) ∧
      let h := s.half q.link
      (h.requests.length < 4 → ∃ payload : List Byte,
        { h with requests := h.requests ++ [(⟨q.kind, q.tag, payload⟩ : RawRequest)] }.sameReceiver (t.half q.link) ∧
          commandOf q.link ⟨q.kind, q.tag, payload⟩ = if c.wellFormed then some c else none) ∧
      (4 ≤ h.requests.length →
        { h with queueFull := if h.queueFull < 65535 then h.queueFull + 1 else h.queueFull }.sameReceiver
          (t.half q.link))) ∧
    (q.lineOnly = true ↔ q.kind = 0x45 ∨ q.kind = 0x46 ∨ q.kind = 0x47) ∧
    (∀ l, (s.mayTake l = true ↔
      (s.half l).requests = [] ∧ (s.half l).replies.length < 4 ∧ (s.half l).resetWait = false))

/-- Tier 2. GRANT_SERVICE and REVOKE_SERVICE set the grant on the Line Link, in every line state (R194); RESET queues its
DONE reply and the Line Link takes no further request (R198). NOTICE_MASK replaces the enable mask of the link it arrives on
by bits 0 to 10 of its payload and drops the pending slots of the kinds it disables; a notice being sent goes on, and the
other link keeps its mask (R196). -/
def Obligations.LinkRequestsChangeTheirItems : Prop :=
  (∀ (s : State) (tag : Byte), s.mayTake .line = true →
    Answers (.grantService .line tag) s .line ⟨0xC5, tag, .done, .grant true⟩ []
      { s with lsc := { s.lsc with serviceGrant := true } } ∧
    Answers (.revokeService .line tag) s .line ⟨0xC6, tag, .done, .grant false⟩ []
      { s with lsc := { s.lsc with serviceGrant := false } } ∧
    ∃ t, exec (.reset .line tag) s = .next t ∧ SameBut [.lnk] s t ∧ t.mayTake .line = false ∧
      Replied { s with lnk := { s.lnk with line := { s.lnk.line with resetWait := true } } } t .line
        ⟨0xC7, tag, .done, .empty⟩ []) ∧
  (∀ (s : State) (l : LinkId) (tag : Byte) (mask : BitVec 16), s.mayTake l = true →
    let h := s.half l
    let m := mask.extractLsb' 0 11
    ∃ t, exec (.noticeMask l tag mask) s = .next t ∧ SameBut [.lnk] s t ∧
      { h with mask := m }.sameReceiver (t.half l) ∧
      (t.half l).outgoing = h.outgoing ++ [⟨0x8C, tag, .done, .noticeMask m⟩] ∧
      (∀ n, (t.half l).Shows n ↔ (n ∈ h.slots ∧ m.getLsbD n.kindIndex = true) ∨ ∃ body, h.tx = some (.notice n body)) ∧
      ∀ k, k ≠ l → (s.half k).sameReceiver (t.half k) ∧ (t.half k).outgoing = (s.half k).outgoing ∧
        ∀ n, (t.half k).Shows n ↔ (s.half k).Shows n)

/-- Tier 2. REQUEST_TAKE removes the request at the head of the link's queue and acts on it as the command it is: its kind
with its payload, numbers high byte first (R192, R199). What waits behind it stays queued. A kind outside the table is
answered ILLEGAL, a payload of another length LENGTH (R193); with an empty queue, four replies queued or a RESET waiting,
nothing is taken (R192). That the taking is a command of its own, and comes no sooner than it is sent, is the model's choice:
notes/assumptions/52.md. -/
def Obligations.TakenRequestIsItsCommand : Prop :=
  ∀ (s : State) (l : LinkId),
    ((s.half l).requests = [] ∨ 4 ≤ (s.half l).replies.length ∨ (s.half l).resetWait = true →
      ∃ t, exec (.requestTake l) s = .next t ∧ SameBut [.lnk] s t ∧ Silent s t []) ∧
    (∀ r rest, (s.half l).requests = r :: rest → (s.half l).replies.length < 4 → (s.half l).resetWait = false →
      let u := s.putHalf l { s.half l with requests := rest }
      (∀ c, commandOf l r = some c →
        (rest = [] → exec (.requestTake l) s = exec c u) ∧
        ∃ x, serviceOf l r.kind r.payload = some x ∧
          (∀ v : State, v.mayTake l = true → exec c v = .next (v.serve l r.tag x).endOfEvent) ∧
          exec (.requestTake l) s = .next (u.serve l r.tag x).endOfEvent) ∧
      (isRequestKind r.kind = false → ∃ t, exec (.requestTake l) s = .next t ∧ SameBut [.lnk] s t ∧
        Replied u t l ⟨r.kind + 0x80, r.tag, .illegal, .empty⟩ []) ∧
      (isRequestKind r.kind = true → commandOf l r = none → ∃ t, exec (.requestTake l) s = .next t ∧
        SameBut [.lnk] s t ∧ Replied u t l ⟨r.kind + 0x80, r.tag, .length, .empty⟩ []))

/-- Tier 2. BYTE_RECEIVED moves the receive assembler of its link as R191's table says: a start byte in HUNT, a count in
2..252, N bytes, two CRC bytes; a framing error or a wrong count abandons the frame; a frame with a right CRC joins the
request queue while it holds fewer than four (R192). GAP_TIMEOUT abandons the frame. Nothing else changes. The gap runs
out at the sender's word: notes/assumptions/2.md. R192 has a request taken in the first event in which its conditions hold: that
a request completed here is left queued, and nothing else changes, is the model's choice, the taking being a command of its own:
notes/assumptions/52.md. -/
def Obligations.BytesMoveTheAssembler : Prop :=
  ∀ (s : State) (l : LinkId) (b : Byte) (framing : Bool),
    let h := s.half l
    let abandoned := { h with
      rx := .hunt, gapTime := none, abandoned := if h.abandoned < 65535 then h.abandoned + 1 else h.abandoned }
    (∃ t, exec (.byteReceived l b framing) s = .next t ∧ SameBut [.lnk] s t ∧
      (∀ k, (t.half k).outgoing = (s.half k).outgoing ∧ ∀ n, (t.half k).Shows n ↔ (s.half k).Shows n) ∧
      (∀ k, k ≠ l → (s.half k).sameReceiver (t.half k)) ∧
      (h.rx = .hunt → (b = 0xC3 ∧ framing = false → { h with rx := .count, gapTime := some 0 }.sameReceiver (t.half l)) ∧
        (¬(b = 0xC3 ∧ framing = false) → h.sameReceiver (t.half l))) ∧
      (h.rx ≠ .hunt → framing = true → abandoned.sameReceiver (t.half l)) ∧
      (h.rx = .count → framing = false →
        (2 ≤ b.toNat ∧ b.toNat ≤ 252 → { h with rx := .body b.toNat [], gapTime := some 0 }.sameReceiver (t.half l)) ∧
        (¬(2 ≤ b.toNat ∧ b.toNat ≤ 252) → abandoned.sameReceiver (t.half l))) ∧
      (∀ n bytes, h.rx = .body n bytes → framing = false →
        { h with
          rx := if bytes.length + 1 < n then .body n (bytes ++ [b]) else .check n (bytes ++ [b]) none,
          gapTime := some 0 }.sameReceiver (t.half l)) ∧
      (∀ n bytes, h.rx = .check n bytes none → framing = false →
        { h with rx := .check n bytes (some b), gapTime := some 0 }.sameReceiver (t.half l)) ∧
      (∀ n bytes hi, h.rx = .check n bytes (some hi) → framing = false →
        (crc16 (BitVec.ofNat 8 n :: bytes) = hi ++ b → h.requests.length < 4 →
          { h with
            rx := .hunt, gapTime := none,
            requests := h.requests ++ [(⟨bytes.getD 0 0, bytes.getD 1 0, bytes.drop 2⟩ : RawRequest)] }.sameReceiver (t.half l)) ∧
        (crc16 (BitVec.ofNat 8 n :: bytes) = hi ++ b → 4 ≤ h.requests.length →
          { h with
            rx := .hunt, gapTime := none,
            queueFull := if h.queueFull < 65535 then h.queueFull + 1 else h.queueFull }.sameReceiver (t.half l)) ∧
        (crc16 (BitVec.ofNat 8 n :: bytes) ≠ hi ++ b →
          { h with
            rx := .hunt, gapTime := none,
            crcFail := if h.crcFail < 65535 then h.crcFail + 1 else h.crcFail }.sameReceiver (t.half l)))) ∧
    (∃ t, exec (.gapTimeout l) s = .next t ∧ SameBut [.lnk] s t ∧
      (∀ k, (t.half k).outgoing = (s.half k).outgoing ∧ ∀ n, (t.half k).Shows n ↔ (s.half k).Shows n) ∧
      (∀ k, k ≠ l → (s.half k).sameReceiver (t.half k)) ∧
      (if h.rx = .hunt then h.sameReceiver (t.half l) else abandoned.sameReceiver (t.half l)))

/-- Tier 2. A frame received whole is the request that was sent: the bytes of the frame of 12.8, start to CRC, received
one after another by an assembler in HUNT, put kind, tag and payload at the tail of the request queue (R191, R192). -/
def Obligations.FrameReceivedIsTheRequestSent : Prop :=
  ∀ (h : LinkHalf) (kind tag : Byte) (payload : List Byte), h.rx = .hunt → payload.length ≤ 250 →
    h.requests.length < 4 →
    (frameBytes kind tag payload).foldl (fun x b => x.receive b false) h =
      { h with rx := .hunt, gapTime := none, requests := h.requests ++ [⟨kind, tag, payload⟩] }

/-- What a notice carries, told from the state in which its sending begins: LINE_STATE (R189), STATION_ALARM (R72; for a
station that is not RESIDENT the state is absent: notes/assumptions/49.md), EMBOSS_ALARM (R95), EVENT_LIST_FULL (R21),
SHADE_DRIFT and SHADE_WARNING (R111), LABEL_FAULT (R172), HEAD_FAULT (R105), ROLLS_CLOSED (R144), BATCH_CHANGED (R158) and
LOG_SPACE (R147); an entry that is gone by then is absent (notes/assumptions/45.md). -/
def contentOf (s : State) : Notice → NoticeBody
  | .lineState => .lineState s.lsc.lineState s.lsc.latched (conditionsOf s) s.lsc.runPermit s.lsc.reported
  | .stationAlarm i => match (s.station i).desc with
    | .resident _ => .stationAlarm (some (s.station i).st) (s.station i).flags
    | _ => .stationAlarm none (s.station i).flags
  | .embossAlarm => .embossAlarm s.emb.nip s.emb.reg s.emb.missCount s.emb.lateCount s.emb.flags
  | .eventListFull => .eventListFull
  | .shadeDrift | .shadeWarning => .drift s.shu.lastDrift (s.shu.lineBatch.map LineBatch.code)
  | .labelFault p =>
    let level := match p with
      | .a => s.pins.readyA
      | .b => s.pins.readyB
    .labelFault (s.printer p).online level (s.printer p).rejects (s.printer p).lastFault
      (s.lbc.queue.filter fun x => x.printer = p).length (s.printer p).sent.length
  | .headFault => .headFault s.shu.head s.shu.faultCount
  | .rollsClosed =>
    let closed := s.rlg.log.filter fun e => e.state = .closed
    .rollsClosed closed.length (closed.getLast?.map Entry.seq) (32 - s.rlg.log.length)
  | .batchChanged =>
    let count := fun (p : BatchEntry → Bool) => (s.bat.entries.toList.filter p).length
    .batchChanged (count fun e => e.batch.isNone) (count fun e => e.batch.any fun b => b.isOpen)
      (count fun e => e.batch.any fun b => !b.isOpen) (count fun e => e.used || e.changed) s.bat.nextCode
      s.bat.lastAssign s.bat.overflows
  | .logSpace =>
    .logSpace (32 - s.rlg.log.length) (s.rlg.log.head?.map Entry.seq) (s.rlg.log.head?.any fun e =>
      e.state = .closed ∧ (e.label = .none ∨ e.label = .applied ∨ e.label = .missing))

/-- Tier 2. FRAME_SENT: the frame leaves the transmitter, and the arbiter takes a pending high-priority notice, else the
oldest reply, else a pending low-priority notice, of notices the lowest kind and then the lowest subject, its content built
then (R195) of the items that the rule of the block raising it lists (contentOf; an entry that has gone, and the reference
station's state, are absent, the model's choices: notes/assumptions/45.md and 49.md; HOST: 12.md). After the DONE reply of a
RESET the part resets instead (R198), with its inputs as they stand and the waiting commands kept, which is the model's
choice (notes/assumptions/27.md). A reply's frame has its request's kind + 0x80 and tag, a notice's kind 0x60 + i, tag 0 and
the subject as first payload byte (R192, R196); a frame holds at most 250 payload bytes (R191), and what is longer has none
(notes/assumptions/39.md). R192 has a request taken in the first event in which its conditions hold: that the receiver and
its request queue stay as they are, although the frame's leaving may make room in the reply queue, is the model's choice, the
taking being a command of its own (notes/assumptions/52.md). The sender says when a frame ends, and the arbiter runs at the
end of the event: the model's choices, notes/assumptions/5.md and 9.md. -/
def Obligations.FrameSentLetsTheArbiterChoose : Prop :=
  (∀ f : Frame,
    (∀ n body, f = .notice n body → f.kind.toNat = 0x60 + n.kindIndex ∧ f.tag = 0 ∧ n.subject < 256 ∧
      f.payload = BitVec.ofNat 8 n.subject :: body.bytes) ∧
    (∀ r, f = .reply r → f.kind = r.kind ∧ f.tag = r.tag ∧ f.payload = r.status.code :: r.body.bytes) ∧
    (f.payload.length ≤ 250 → f.bytes = some (frameBytes f.kind f.tag f.payload)) ∧
    (250 < f.payload.length → f.bytes = none)) ∧
  ∀ (s : State) (l : LinkId),
    let h := s.half l
    (h.tx = none → ∃ t, exec (.frameSent l) s = .next t ∧ SameBut [.lnk] s t ∧ Silent s t []) ∧
    (∀ r, h.tx = some (.reply r) → h.resetWait = true → r.kind = 0xC7 → r.status = .done →
      exec (.frameSent l) s = exec (.partReset s.pins) s) ∧
    (∀ f, h.tx = some f → (h.resetWait = false ∨ ∀ r, f = .reply r → ¬(r.kind = 0xC7 ∧ r.status = .done)) →
      ∃ t, exec (.frameSent l) s = .next t ∧ SameBut [.lnk] s t ∧
        (∀ k, k ≠ l → (s.half k).sameReceiver (t.half k) ∧ (t.half k).outgoing = (s.half k).outgoing ∧
          ∀ n, (t.half k).Shows n ↔ (s.half k).Shows n) ∧
        h.sameReceiver (t.half l) ∧
        (∀ n ∈ h.slots, n.kindIndex ≤ 6 →
          ∃ m ∈ h.slots, (t.half l).tx = some (.notice m (contentOf s m)) ∧ (t.half l).slots = h.slots.erase m ∧
            (t.half l).replies = h.replies ∧ ∀ x ∈ h.slots, m.rank ≤ x.rank) ∧
        ((∀ n ∈ h.slots, 6 < n.kindIndex) →
          (∀ r rest, h.replies = r :: rest →
            (t.half l).tx = some (.reply r) ∧ (t.half l).replies = rest ∧ (t.half l).slots = h.slots) ∧
          (h.replies = [] → (∀ n ∈ h.slots,
            ∃ m ∈ h.slots, (t.half l).tx = some (.notice m (contentOf s m)) ∧ (t.half l).slots = h.slots.erase m ∧
              (t.half l).replies = [] ∧ ∀ x ∈ h.slots, m.rank ≤ x.rank) ∧
            (h.slots = [] → (t.half l).tx = none ∧ (t.half l).replies = [] ∧ (t.half l).slots = []))) ∧
        (∀ x y : Notice, x.rank < y.rank ↔
          x.kindIndex < y.kindIndex ∨ (x.kindIndex = y.kindIndex ∧ x.subject < y.subject)))

/-! ### Stations, step channels and the correction arithmetic (03, 04) -/

/-- The station belongs to a leader: the leader itself, or an INDIRECT station whose target it is (R63, R64). -/
def BelongsTo (s : State) (leader i : StationId) : Prop :=
  i = leader ∨ ∃ f, (s.station i).desc = .indirect f ∧ f.target = leader

/-- Tier 2. STEP_PULSE emits one step on a channel in flight (R67). The last step of a train completes it: the emboss
phase becomes SETTLING (R89), or the station notes no train any more, its trim staying as the start of the train committed it
(R56, R67), and a leader in CORRECTING whose last train this was becomes SETTLING with settle end H + settle distance + L, or,
when its bad outcomes have reached the missing limit, LOST with its accumulator empty, STATION_ALARM told for it and
STATION_LOST raised (R60, R64). Without such a leader only the note goes. On an idle channel nothing happens. The step comes at
the sender's word: notes/assumptions/2.md. -/
def Obligations.StepPulseEmitsAndEndsATrain : Prop :=
  ∀ (c : ChannelId) (s : State),
    let x := s.chan c
    ∃ t, exec (.stepPulse c) s = .next t ∧ (∀ k, k ≠ c → t.chan k = s.chan k) ∧
      (x.inFlight = false → SameBut [.lnk] s t ∧ Silent s t []) ∧
      (x.inFlight = true → t.chan c = { x with
        emitted := x.emitted + 1, remaining := x.remaining - 1, inFlight := decide (1 < x.remaining), stepHigh := true,
        highLeft := x.period / 2, toStep := x.period }) ∧
      (x.inFlight = true → 1 < x.remaining → SameBut [.stg, .lnk] s t ∧ Silent s t []) ∧
      (x.inFlight = true → x.remaining ≤ 1 →
        (c = 8 → t.emb = { s.emb with phase := .settling, train := none } ∧ SameBut [.stg, .emb, .lnk] s t ∧
          Silent s t []) ∧
        (∀ i : StationId, c = channelOf i →
          let done := { s.station i with train := none }
          SameBut [.stg, .rlp, .lsc, .emb, .lnk] s t ∧
          (∀ k, k ≠ i → k ≠ s.leaderOf i → t.station k = s.station k) ∧
          ((∀ leader d, BelongsTo s leader i → (s.station leader).desc = .resident d → (s.station leader).st ≠ .correcting) →
            t.station i = done ∧ (∀ k, k ≠ i → t.station k = s.station k) ∧ SameBut [.stg, .rlp, .lnk] s t ∧
              Silent s t []) ∧
          (∀ (leader : StationId) (d : ResidentDesc) (j : Job), s.lsc.job = some j → BelongsTo s leader i →
            (s.station leader).desc = .resident d → (s.station leader).st = .correcting →
            let held := if leader = i then done else s.station leader
            (leader ≠ i → t.station i = done) ∧
            ((∃ k, k ≠ i ∧ BelongsTo s leader k ∧ (s.chan (channelOf k)).inFlight = true) →
              t.station leader = held ∧ SameBut [.stg, .rlp, .lnk] s t ∧ Silent s t []) ∧
            ((∀ k, k ≠ i → BelongsTo s leader k → (s.chan (channelOf k)).inFlight = false) →
              ((s.station leader).bad < d.missLimit →
                t.station leader = { held with
                  st := .settling, settleEnd := some (fwd s.wpu.h (d.settle + j.L)) } ∧
                SameBut [.stg, .rlp, .lnk] s t ∧ Silent s t []) ∧
              (d.missLimit ≤ (s.station leader).bad →
                t.station leader = { held with st := .lost, acc := [], settleEnd := none } ∧
                  t.lsc = (s.raiseCause .stationLost).lsc ∧ t.emb = (s.raiseCause .stationLost).emb ∧
                  Silent s t (.stationAlarm leader :: causeTold s .stationLost))))))

/-- Tier 2. What an engaged RESIDENT station does with an offered outcome (R60 to R65): a sample ends bad outcomes, leads
SEEKING and LOST to TRACKING and fills TRACKING's accumulator; a MISSING or AMBIGUOUS is counted up to the missing limit,
where SEEKING, TRACKING and SETTLING become LOST and raise STATION_ALARM and STATION_LOST. Other stations take nothing
(R58). -/
def Obligations.OfferedOutcomesMoveTheStation : Prop :=
  ∀ (s : State) (i : StationId),
    let x := s.station i
    (x.engaged = false ∨ x.isResident = false → ∀ o, s.offer i o = s) ∧
    (∀ d, x.desc = .resident d → x.engaged = true →
      (∀ e : Int,
        (x.st = .seeking ∨ x.st = .lost →
          s.offer i (.sample e) = s.putStation i { x with st := .tracking, acc := [], bad := 0 }) ∧
        (x.st = .tracking → x.acc.length + 1 < d.tuning.averaging →
          s.offer i (.sample e) = s.putStation i { x with acc := x.acc ++ [e], bad := 0 }) ∧
        (x.st = .tracking → d.tuning.averaging ≤ x.acc.length + 1 →
          ((s.offer i (.sample e)).station i).acc = [] ∧ ((s.offer i (.sample e)).station i).bad = 0) ∧
        (x.st = .correcting ∨ x.st = .settling →
          s.offer i (.sample e) = s.putStation i { x with bad := 0 })) ∧
      (∀ o, o = .missing ∨ o = .ambiguous →
        (x.st = .seeking ∨ x.st = .tracking ∨ x.st = .settling →
          (x.bad + 1 < d.missLimit → s.offer i o = s.putStation i { x with bad := x.bad + 1 }) ∧
          (d.missLimit ≤ x.bad + 1 →
            (s.offer i o).station i = { x with bad := d.missLimit, st := .lost, acc := [], settleEnd := none } ∧
            (s.offer i o).lsc = (s.raiseCause .stationLost).lsc ∧
            Silent s (s.offer i o) (.stationAlarm i :: causeTold s .stationLost))) ∧
        (x.st = .correcting ∨ x.st = .lost →
          s.offer i o = s.putStation i { x with bad := if x.bad + 1 < d.missLimit then x.bad + 1 else d.missLimit })))

/-- A step channel with a train of n steps started for a correction, high for retard (R66, R67). -/
def trainStarted (x : Channel) (n : Nat) (c : Int) (rate : Nat) : Channel :=
  { x with
    inFlight := true, remaining := n, emitted := 0, retard := decide (0 < c), period := 40000000 / rate
    toStep := 40000000 / rate }

/-- A station that has committed a train's correction to its trim and notes the train (R54, R62). -/
def committed (x : Station) (c : Int) : Station :=
  { x with trim := x.trim + c, lastC := some c, train := some ⟨x.trim, c⟩ }

/-- Flags latched over others (R72, R95). -/
def latchedFlags (held new : CauFlags) : CauFlags :=
  ⟨held.saturated || new.saturated, held.atLimit || new.atLimit, held.belowStep || new.belowStep⟩

/-- Tier 2. A full accumulator in TRACKING calls the CAU with the A most recent samples and empties (R61): a train moves the
trim by the commanded correction, starts n steps towards its sign at the station's rate, and the station is CORRECTING (R62,
R66); without one it stays TRACKING and its trim stays. Each engaged follower takes its own share of the correction, with its
own limits, ratio and rate (R53, R63). Flags are latched, and AT_LIMIT raises STATION_ALARM (R72). No other station and no
other channel moves. -/
def Obligations.FullAccumulatorCorrects : Prop :=
  ∀ (s : State) (i : StationId) (d : ResidentDesc) (e : Int), (s.station i).desc = .resident d →
    (s.station i).engaged = true → (s.station i).st = .tracking →
    d.tuning.averaging ≤ (s.station i).acc.length + 1 →
    let x := s.station i
    let all := x.acc ++ [e]
    let r := cauFull (all.drop (all.length - d.tuning.averaging)) x.trim d.tuning
    let counted := { x with acc := [], bad := 0, flags := latchedFlags x.flags r.flags }
    let share := fun (f : IndirectDesc) (y : Station) (c : Int) => cauFinish c y.trim f.stepLimit f.trimLimit f.ratio
    let t := s.offer i (.sample e)
    SameBut [.rlp, .stg, .lnk] s t ∧
    (r.train = none → t.station i = counted ∧ (∀ k, k ≠ i → t.station k = s.station k) ∧ t.stg = s.stg) ∧
    (∀ n c, r.train = some (n, c) →
      t.station i = { committed counted c with st := .correcting } ∧
      t.chan (channelOf i) = trainStarted (s.chan (channelOf i)) n c d.tuning.rate ∧ t.chan 8 = s.chan 8 ∧
      ∀ k, k ≠ i →
        ((∀ f, (s.station k).desc = .indirect f → f.target = i → (s.station k).engaged = false) →
          t.station k = s.station k ∧ t.chan (channelOf k) = s.chan (channelOf k)) ∧
        (∀ f, (s.station k).desc = .indirect f → f.target = i → (s.station k).engaged = true →
          let y := s.station k
          let q := share f y c
          let told := { y with flags := latchedFlags y.flags q.flags }
          (q.train = none → t.station k = told ∧ t.chan (channelOf k) = s.chan (channelOf k)) ∧
          (∀ n' c', q.train = some (n', c') → t.station k = committed told c' ∧
            t.chan (channelOf k) = trainStarted (s.chan (channelOf k)) n' c' f.rate))) ∧
    ∃ notices, Silent s t notices ∧ ∀ m, m ∈ notices ↔
      (m = .stationAlarm i ∧ r.flags.atLimit = true) ∨
      ∃ n c k f, r.train = some (n, c) ∧ (s.station k).desc = .indirect f ∧ f.target = i ∧ (s.station k).engaged = true ∧
        (share f (s.station k) c).flags.atLimit = true ∧ m = .stationAlarm k

/-- Tier 2. The correction arithmetic. The mean is the nearest integer, a half away from zero (R46); within the deadband
nothing is computed (R47); product and scale round a half away from zero and turn the sign (R48). Stages 6 to 8: the step
limit, the trim limit, the steps at the step ratio, the result and the flags of each stage (R49 to R52). Its laws: the
trim stays within the trim limit (R50, R54); from a trim within its limit no correction exceeds the step limit (R49); an
abort leaves the trim between the trims before and after the train (R55). -/
def Obligations.CorrectionArithmeticHasItsBounds : Prop :=
  (∀ samples : List Int, samples ≠ [] →
    let sum := samples.foldl (· + ·) 0
    cauMean samples = sum.sign * ((sum.natAbs + samples.length / 2) / samples.length : Nat) ∧
    2 * ((samples.length : Int) * cauMean samples - samples.foldl (· + ·) 0).natAbs ≤ samples.length) ∧
  (∀ (samples : List Int) (trim : Int) (t : Tuning), cauFull samples trim t =
    if (cauMean samples).natAbs ≤ t.deadband then ⟨none, {}⟩
    else cauFinish (cauCorrection (cauMean samples) t.gain) trim t.stepLimit t.trimLimit t.ratio) ∧
  (∀ (c trim : Int) (stepLimit trimLimit ratio : Nat),
    let c6 : Int := if stepLimit < c.natAbs then (if 0 < c then (stepLimit : Int) else -(stepLimit : Int)) else c
    let clipped := trimLimit < (trim + c6).natAbs
    let c7 : Int := if clipped then (if 0 < trim + c6 then (trimLimit : Int) else -(trimLimit : Int)) - trim else c6
    let n := (c7.natAbs * ratio + 128) / 256
    let r := cauFinish c trim stepLimit trimLimit ratio
    r.train = (if n = 0 then none else some (n, c7)) ∧
      (r.flags.saturated = true ↔ stepLimit < c.natAbs) ∧ (r.flags.atLimit = true ↔ clipped) ∧
      (r.flags.belowStep = true ↔ n = 0 ∧ ¬(clipped ∧ c7 = 0)) ∧
      (trim + c7).natAbs ≤ trimLimit ∧ (trim.natAbs ≤ trimLimit → c7.natAbs ≤ stepLimit)) ∧
  (∀ (mean : Int) (gain : Nat), let p := mean * gain
    cauCorrection mean gain = -(p.sign * ((p.natAbs + 2048) / 4096 : Nat)) ∧
    (cauCorrection mean gain).natAbs = (mean.natAbs * gain + 2048) / 4096 ∧
    mean.natAbs * gain < 4096 * (cauCorrection mean gain).natAbs + 2048 ∧
    4096 * (cauCorrection mean gain).natAbs ≤ mean.natAbs * gain + 2048 ∧ 0 ≤ -mean * cauCorrection mean gain) ∧
  (∀ (note : TrainNote) (k n : Nat), k ≤ n → 0 < n →
    min note.before (note.before + note.c) ≤ prorate note k n ∧
      prorate note k n ≤ max note.before (note.before + note.c)) ∧
  (∀ note : TrainNote, ∀ n, 0 < n → prorate note 0 n = note.before ∧ prorate note n n = note.before + note.c)

/-! ### Events and records of the web track (01) -/

/-- Tier 2. SPLICE_PULSE, OPERATOR_BUTTON and MARK_EVENT bring an event at H + u_spl or at H into the list, which holds 16,
or lose it (R15, R16, R18, R21). A splice in reverse travel and any event while no job runs, loaded or not, is ignored (R4,
R15); MARK_EVENT is then refused with STATE, and else answers with the datum and whether the event was lost (R18). An event
that enters leaves the records, the emboss unit, the winder and the notices as they are, but for the coverage and the lift
check of a lifting event that are due at its arrival (R79 to R81) and the judging of splices (R120): an OPERATOR event never
lifts. What is due at the arrival itself happens in it: notes/assumptions/24.md. -/
def Obligations.EventsArrive : Prop :=
  (∀ s : State,
    (∃ t, exec .splicePulse s = .next t ∧
      (s.running = false ∨ s.reverse = true → SameBut [.lnk] s t ∧ Silent s t [])) ∧
    (s.running = false →
      (∃ t, exec .operatorButton s = .next t ∧ SameBut [.lnk] s t ∧ Silent s t []) ∧
      ∀ (l : LinkId) (tag : Byte), s.mayTake l = true → s.permits l .operate false = true →
        Answers (.markEvent l tag) s l ⟨0xAA, tag, .state, .empty⟩ [] s)) ∧
  ∀ (s : State) (j : Job), s.lsc.job = some j → s.running = true →
    (s.reverse = false → ∃ t told, exec .splicePulse s = .next t ∧
      Arrives j s t .splice (fwd s.wpu.h j.uSpl) false told ∧ Silent s t told) ∧
    (∃ t told, exec .operatorButton s = .next t ∧
      Arrives j s t .operator s.wpu.h false told ∧ Silent s t told) ∧
    (∀ (l : LinkId) (tag : Byte), s.mayTake l = true → s.permits l .operate false = true →
      ∃ t told, exec (.markEvent l tag) s = .next t ∧ Arrives j s t .operator s.wpu.h false told ∧
        Replied s t l ⟨0xAA, tag, .done, .markEvent s.wpu.h (decide (16 ≤ s.trk.events.length))⟩ told)

/-- Tier 2. The defect line (R17): a rising edge opens a DEFECT event at H + u_def, unless one is open, no job runs or the
web travels in reverse; a falling edge closes the open event with the length reported so far, and the release position of its
lift zone is no longer held open but stands at the further of what it was and the zone's end (R80); at 200,000 the event
closes, with the release position told in the same way, and, with the line still active, the next opens. A rise of an active
line is no edge, and what is due at an event's arrival happens in it, the model's readings: notes/assumptions/34.md and
24.md; DEFECT_LENGTH_LIMIT is a command of its own: notes/assumptions/1.md. -/
def Obligations.DefectLineOpensAndClosesEvents : Prop :=
  ∀ (s : State) (j : Job), s.lsc.job = some j →
    let opens := s.running && !s.reverse && !(s.trk.events.any WebEvent.isOpen)
    (∃ t told, exec .defectLineRise s = .next t ∧ t.pins = { s.pins with defectLine := true } ∧ Silent s t told ∧
      (s.pins.defectLine = true ∨ opens = false → SameBut [.pins, .lnk] s t ∧ told = []) ∧
      (s.pins.defectLine = false → opens = true →
        Arrives j { s with pins := { s.pins with defectLine := true } } t .defect (fwd s.wpu.h j.uDef) true told)) ∧
    (∃ t, exec .defectLineFall s = .next t ∧ t.pins = { s.pins with defectLine := false } ∧ Silent s t [] ∧
      SameBut [.pins, .trk, .emb, .lnk] s t ∧
      ((∀ e ∈ s.trk.events, e.isOpen = false) → SameBut [.pins, .lnk] s t) ∧
      (∀ before e after, s.trk.events = before ++ e :: after → e.isOpen = true → (∀ x ∈ before, x.isOpen = false) →
        let length := (ahead (fwd s.wpu.h j.uDef) e.datum).toNat
        let stop := fwd e.datum (length + j.trail + j.dEm + 1)
        t.trk = { s.trk with events := before ++ { e with isOpen := false, length := length } :: after } ∧
        t.emb = (if e.joined && s.emb.zoneActive then
          { s.emb with release := some ((s.emb.release.map fun r => further r stop).getD stop), heldOpen := false }
        else s.emb))) ∧
    (∃ t told, exec .defectLengthLimit s = .next t ∧ Silent s t told ∧
      ((∀ e ∈ s.trk.events, e.isOpen = true → (ahead (fwd s.wpu.h j.uDef) e.datum).toNat < 200000) →
        SameBut [.lnk] s t ∧ told = []) ∧
      (∀ before e after, s.trk.events = before ++ e :: after → e.isOpen = true →
        (∀ x ∈ before ++ after, x.isOpen = false) → 200000 ≤ (ahead (fwd s.wpu.h j.uDef) e.datum).toNat →
        let stop := fwd e.datum (200000 + j.trail + j.dEm + 1)
        let closed := { s with
          trk := { s.trk with events := before ++ { e with isOpen := false, length := 200000 } :: after }
          emb := if e.joined && s.emb.zoneActive then
            { s.emb with release := some ((s.emb.release.map fun r => further r stop).getD stop), heldOpen := false }
          else s.emb }
        ((s.pins.defectLine && s.running && !s.reverse) = false → SameBut [.lnk] closed t ∧ told = []) ∧
        ((s.pins.defectLine && s.running && !s.reverse) = true →
          Arrives j closed t .defect (fwd s.wpu.h j.uDef) true told)))

/-- The log of t is that of s, but for the newest entry whose segment contains d, which f changes; where no entry
contains d the log is the same (R138). -/
def EntryChanged (s t : State) (d : Count) (f : Entry → Entry) : Prop :=
  t.rlg.nextSeq = s.rlg.nextSeq ∧ t.rlg.nextRoll = s.rlg.nextRoll ∧
    (∀ before y after, s.rlg.log = before ++ y :: after → y.contains d = true → (∀ x ∈ after, x.contains d = false) →
      t.rlg.log = s.rlg.log.map fun x => if x.seq = y.seq then f x else x) ∧
    ((∀ y ∈ s.rlg.log, y.contains d = false) → t.rlg.log = s.rlg.log)

/-- An entry that counts an attributed event by its kind (R139). -/
def countedEvent (kind : EventKind) (x : Entry) : Entry :=
  { x with
    splices := x.splices + (if kind = .splice then 1 else 0)
    defects := x.defects + (if kind = .defect then 1 else 0)
    operators := x.operators + (if kind = .operator then 1 else 0) }

/-- Tier 2. EVENT_ATTRIBUTION counts the first event that is due into the entry containing its datum (R19, R139), and
EVENT_REMOVAL takes the first event that is due out of the list, counted first where it was not; at 12 events or fewer the
EVENT_LOST condition ends (R20, R21). Both wait for a cut at the event's own datum. Before that nothing happens. That both
are commands of their own, and that the counts of an entry have no bound, are the model's choices: notes/assumptions/1.md and
23.md. -/
def Obligations.EventsAreAttributedAndRemoved : Prop :=
  ∀ (s : State) (j : Job), s.lsc.job = some j →
    let uncut := fun (e : WebEvent) => ∀ c p, s.wnd.planned = some c → c.target ≠ .known e.datum p
    (∀ e : WebEvent, s.attributionDue j e = true ↔
      e.attributed = false ∧ reached s.wpu.h (fwd e.datum j.dCut) = true ∧ uncut e) ∧
    (∀ e : WebEvent, s.removalDue j e = true ↔
      e.isOpen = false ∧ reached s.wpu.h (fwd e.datum (e.length + j.dCut)) = true ∧ uncut e) ∧
    (∃ t, exec .eventAttribution s = .next t ∧ Silent s t [] ∧
      ((∀ e ∈ s.trk.events, s.attributionDue j e = false) → SameBut [.lnk] s t) ∧
      (∀ before e after, s.trk.events = before ++ e :: after → s.attributionDue j e = true →
        (∀ x ∈ before, s.attributionDue j x = false) →
        t.trk = { s.trk with events := before ++ { e with attributed := true } :: after } ∧
          EntryChanged s t e.datum (countedEvent e.kind) ∧ SameBut [.trk, .rlg, .lnk] s t)) ∧
    (∃ t, exec .eventRemoval s = .next t ∧ Silent s t [] ∧
      ((∀ e ∈ s.trk.events, s.removalDue j e = false) → SameBut [.lnk] s t) ∧
      (∀ before e after, s.trk.events = before ++ e :: after → s.removalDue j e = true →
        (∀ x ∈ before, s.removalDue j x = false) →
        t.trk = { s.trk with
          events := before ++ after, eventLost := s.trk.eventLost && decide (12 < before.length + after.length) } ∧
          (e.attributed = true → t.rlg = s.rlg) ∧
          (e.attributed = false → EntryChanged s t e.datum (countedEvent e.kind)) ∧
          (s.trk.eventLost = t.trk.eventLost → t.emb = s.emb) ∧ SameBut [.trk, .rlg, .emb, .lnk] s t))

/-- Tier 2. RECORD_FOLD, with H at the next record's origin + d_cut: the head record leaves the track and is counted into the
newest entry that contains its origin, of which all else stays (R12, R138). Then the CUT entries with no record left before
their end close, oldest first, ROLLS_CLOSED is shown, and the label channel goes on with what became DUE (R140, R144, R167);
with none that closes nothing else happens. Before its position the command does nothing. That it is a command of its own,
that the counts of an entry and a label's transfer count have no bound, and that a timeout timer looks at its conditions at
the event's end are the model's choices: notes/assumptions/1.md, 23.md, 51.md and 46.md. -/
def Obligations.HeadRecordFoldsIntoItsEntry : Prop :=
  ∀ (s : State) (j : Job), s.lsc.job = some j → ∃ t, exec .recordFold s = .next t ∧
    ((∀ r next rest, s.trk.records = r :: next :: rest → reached s.wpu.h (fwd next.origin j.dCut) = false) →
      SameBut [.lnk] s t ∧ Silent s t []) ∧
    (∀ r next rest, s.trk.records = r :: next :: rest → reached s.wpu.h (fwd next.origin j.dCut) = true →
      t.trk = { s.trk with records := next :: rest } ∧ SameBut [.trk, .rlg, .bat, .shu, .lbc, .lnk] s t ∧
      ∃ (counted : State) (told : List Notice), EntryChanged s counted r.origin (foldedEntry r) ∧
        counted.trk = t.trk ∧ SameBut [.trk, .rlg] s counted ∧ LogExamined j counted t told ∧ Silent s t told)

/-- The code after a code, 1 after 9,999 (R153). -/
def nextOf (code : Nat) : Nat := if 9999 ≤ code then 1 else code + 1

/-- The code n codes after a code. -/
def codeOn (code : Nat) : Nat → Nat
  | 0 => code
  | n + 1 => nextOf (codeOn code n)

/-- Some entry that is not FREE holds the code (R153). -/
def Held (b : Bat) (code : Nat) : Prop := ∃ (i : Fin 32) (x : Batch), b.entries[i].batch = some x ∧ x.code = code

/-- The code is the first from another on, counting upward from 9,999 to 1, that no entry holds (R153). -/
def FirstUnheld (b : Bat) (start code : Nat) : Prop :=
  ∃ n, code = codeOn start n ∧ ¬Held b code ∧ ∀ m, m < n → Held b (codeOn start m)

/-- The Shade Unit after a report of the line batch, which empties the drift window when it differs (R109, R157). -/
def shadeTold (u : Shu) (report : Option LineBatch) : Shu :=
  if u.lineBatch = report then u else { u with lineBatch := report, drift := [] }

/-- Tier 2. A roll mean joins the first OPEN entry within the batch tolerance (R151); without one it opens the first FREE
entry with the first code, from the next code on, that no entry holds, and the next code moves on (R152, R153); with no
FREE entry it overflows with code 0 (R156). An entry at the rolls-per-batch limit closes (R154). The line batch is that
entry while OPEN, and is reported once (R157); BATCH_CHANGED is raised for an opening, a closing and an overflow (R158).
The Shade Unit tells line batches apart by code and reference: the model's reading, notes/assumptions/31.md. -/
def Obligations.ARollIsGivenABatch : Prop :=
  ∀ (s : State) (j : Job) (roll : Nat) (mean : Shade),
    let near := fun (i : Fin 32) (x : Batch) => s.bat.entries[i].batch = some x ∧ x.isOpen = true ∧
      (mean.l - x.ref.l) ^ 2 + (mean.a - x.ref.a) ^ 2 + (mean.b - x.ref.b) ^ 2 ≤ (j.tolB : Int) ^ 2
    let t := (s.assignBatch j roll mean).1
    let given := (s.assignBatch j roll mean).2
    SameBut [.bat, .shu, .lnk] s t ∧
    (∀ i x, near i x → (∀ k y, k < i → ¬near k y) →
      let full := decide (j.rollsPerBatch ≤ x.count + 1)
      given = x.code ∧ Silent s t (if full then [.batchChanged] else []) ∧
      t.shu = shadeTold s.shu (if full then none else some ⟨x.code, x.ref⟩) ∧
      t.bat = { s.bat with
        entries := s.bat.entries.set i { s.bat.entries[i] with
          batch := some { x with count := x.count + 1, isOpen := !full }
          used := true, changed := s.bat.entries[i].changed || full }
        lineBatch := if full then none else some i, lastAssign := some ⟨roll, x.code, .joined⟩ }) ∧
    (∀ i : Fin 32, (∀ k y, ¬near k y) → s.bat.entries[i].batch = none → (∀ k : Fin 32, k < i → s.bat.entries[k].batch ≠ none) →
      let full := decide (j.rollsPerBatch ≤ 1)
      FirstUnheld s.bat s.bat.nextCode given ∧ FirstUnheld t.bat (nextOf given) t.bat.nextCode ∧
      Silent s t [.batchChanged] ∧ t.shu = shadeTold s.shu (if full then none else some ⟨given, mean⟩) ∧
      t.bat = { s.bat with
        entries := s.bat.entries.set i ⟨some ⟨!full, given, mean, 1, false⟩, true, true⟩
        nextCode := t.bat.nextCode, lineBatch := if full then none else some i
        lastAssign := some ⟨roll, given, .opened⟩ }) ∧
    ((∀ k y, ¬near k y) → (∀ k : Fin 32, s.bat.entries[k].batch ≠ none) →
      given = 0 ∧ Silent s t [.batchChanged] ∧ t.shu = s.shu ∧
      t.bat = { s.bat with lastAssign := some ⟨roll, 0, .overflow⟩, overflows := grown s.bat.overflows })

/-- Tier 2. An entry that closes: its kind by role and length, the next roll number for ROLL and SHORT (R141), mean and
spread², or UNMEASURED without a reading (R142), the batch code that its mean is given, 0 and no search without one, a
code 0 of a search flagged (R143), its grade by the job's thresholds (R143), its label DUE, or MISSING after a doff
(R144). Every count, sum, datum and other flag stays as it is. Sums and counts have no bound: notes/assumptions/23.md. -/
def Obligations.ClosingGradesAnEntry : Prop :=
  ∀ (s : State) (j : Job) (e : Entry), e ∈ s.rlg.log →
    let waste := e.role ≠ .roll ∨ e.length.getD 0 < j.minRoll
    let after : Nat := if 999999999 ≤ s.rlg.nextRoll then 1 else s.rlg.nextRoll + 1
    let mean : Shade := ⟨roundDiv e.sum.l e.readings, roundDiv e.sum.a e.readings, roundDiv e.sum.b e.readings⟩
    let half := fun (lo hi : Int) => (hi - lo).natAbs / 2
    let t := s.closeEntry j e
    ∃ y : Entry,
      t.rlg.log = s.rlg.log.map (fun x => if x.seq = e.seq then y else x) ∧ t.rlg.nextSeq = s.rlg.nextSeq ∧
      SameBut [.rlg, .bat, .shu, .lnk] s t ∧
      y = { e with
        state := .closed, kind := y.kind, roll := y.roll, mean := y.mean, spread2 := y.spread2, batch := y.batch
        grade := y.grade, label := y.label
        flags := { e.flags with unmeasured := y.flags.unmeasured, batchOverflow := y.flags.batchOverflow } } ∧
      (e.readings = 0 → y.mean = none ∧ y.spread2 = none ∧ y.flags.unmeasured = true) ∧
      (0 < e.readings → y.mean = some mean ∧ y.flags.unmeasured = e.flags.unmeasured ∧
        ∀ lo hi, e.low = some lo → e.high = some hi →
          y.spread2 = some (half lo.l hi.l ^ 2 + half lo.a hi.a ^ 2 + half lo.b hi.b ^ 2)) ∧
      (waste → y.kind = some .waste ∧ y.roll = e.roll ∧ y.grade = e.grade ∧ y.label = e.label ∧
        y.batch = e.batch ∧ y.flags.batchOverflow = e.flags.batchOverflow ∧
        t.rlg.nextRoll = s.rlg.nextRoll ∧ SameBut [.rlg] s t) ∧
      (¬waste → y.kind = some (if e.length.getD 0 < j.lt then .short else .roll) ∧ y.roll = some s.rlg.nextRoll ∧
        t.rlg.nextRoll = after ∧ y.label = (if e.flags.doffed then .missing else .due) ∧
        (e.readings = 0 → y.batch = some 0 ∧ SameBut [.rlg] s t ∧ y.flags.batchOverflow = e.flags.batchOverflow) ∧
        (0 < e.readings →
          let given := ({ s with rlg := { s.rlg with nextRoll := after } } : State).assignBatch j s.rlg.nextRoll mean
          y.batch = some given.2 ∧ SameBut [.rlg] given.1 t ∧
            y.flags.batchOverflow = (e.flags.batchOverflow || given.2 == 0)) ∧
        let rejects := j.rejReg < y.outCount ∨ j.rejEmb < y.embOff ∨ (∃ x, y.spread2 = some x ∧ j.tolB ^ 2 < x) ∨
          (j.rejectOnSplice = true ∧ 0 < y.splices) ∨ y.flags.eventLost = true
        let seconds := j.bReg < y.outCount ∨ j.bUnknown < y.unknownCount ∨ 0 < y.defects ∨
          (j.embossOn = true ∧ 0 < y.embLifted) ∨ y.flags.overlength = true ∨ y.flags.unmeasured = true ∨
          y.flags.batchOverflow = true
        (rejects → y.grade = some .reject) ∧ (¬rejects → seconds → y.grade = some .b) ∧
          (¬rejects → ¬seconds → y.grade = some .a))

/-! ### Emboss (05) -/

/-- Tier 2. The nip's timers and the host's hold: ENGAGE_TIMER_EXPIRY closes an engaging nip and notes H, LIFT_TIMER_EXPIRY
ends a lift and engages again when every close condition holds (R77, R78); EMBOSS_LIFT sets the host-lift hold and
EMBOSS_CLOSE clears it, the nip moving by the conditions, while a job runs, and both are STATE while none runs, loaded or not
(R93, R94). The timers run out at the sender's word: notes/assumptions/2.md. -/
def Obligations.NipMovesByTimersAndHold : Prop :=
  (∀ s : State,
    (∃ t, exec .engageTimerExpiry s = .next t ∧ SameBut [.emb, .lnk] s t ∧ Silent s t [] ∧
      t.emb = (if s.emb.nip = .engaging then
        { s.emb with nip := .closed, nipTime := none, closedSince := some s.wpu.h } else s.emb)) ∧
    (∃ t, exec .liftTimerExpiry s = .next t ∧ SameBut [.emb, .lnk] s t ∧ Silent s t [] ∧
      let down := { s.emb with nip := .lifted, nipTime := none }
      (s.emb.nip ≠ .lifting → t.emb = s.emb) ∧ (s.emb.nip = .lifting → s.lsc.job = none → t.emb = down) ∧
      ∀ j, s.emb.nip = .lifting → s.lsc.job = some j → t.emb = evaluated j (ClosePermitted s j s.emb) down) ∧
    (s.running = false → ∀ (l : LinkId) (tag : Byte), s.mayTake l = true → s.permits l .operate false = true →
      Answers (.embossLift l tag) s l ⟨0xA8, tag, .state, .empty⟩ [] s ∧
      Answers (.embossClose l tag) s l ⟨0xA9, tag, .state, .empty⟩ [] s)) ∧
  ∀ (s : State) (j : Job) (l : LinkId) (tag : Byte), s.lsc.job = some j → s.running = true → s.mayTake l = true →
    s.permits l .operate false = true →
    (let e := evaluated j false { s.emb with hostLift := true }
     Answers (.embossLift l tag) s l ⟨0xA8, tag, .done, .nipState e.nip⟩ [] { s with emb := e }) ∧
    (let held := { s.emb with hostLift := false }
     let e := evaluated j (ClosePermitted s j held) held
     let fails : CloseFails :=
       { notRun := s.lsc.lineState != .run, disabled := !j.embossOn, hostLift := false, zone := s.emb.zoneActive,
         eventLost := s.trk.eventLost, slow := decide (s.wpu.v < j.vMinEmboss) }
     Answers (.embossClose l tag) s l ⟨0xA9, tag, .done, .nipClose e.nip fails⟩ [] { s with emb := e })

/-- Tier 2. Lift zones (R79 to R81): an event's coverage is due to begin as coverBegins says; LIFT_COVERAGE_BEGIN joins the
first event that is due to the coverage and lifts the nip; LIFT_COVERAGE_END, at the release position, ends it; LIFT_CHECK
finds a nip still LIFTING late, on the event, on the record that covers its datum, in the count and by EMBOSS_ALARM. That the
three are commands of their own, each taking the first event that is due, is the model's choice: notes/assumptions/1.md. -/
def Obligations.LiftZonesCoverTheNip : Prop :=
  ∀ (s : State) (j : Job), s.lsc.job = some j →
    (∀ e : WebEvent, s.coverBeginDue j e = coverBegins s j e) ∧
    (∃ t, exec .liftCoverageBegin s = .next t ∧ SameBut [.trk, .emb, .lnk] s t ∧ Silent s t [] ∧
      ((∀ e ∈ s.trk.events, s.coverBeginDue j e = false) → SameBut [.lnk] s t) ∧
      (∀ before e after, s.trk.events = before ++ e :: after → s.coverBeginDue j e = true →
        (∀ x ∈ before, s.coverBeginDue j x = false) →
        t.trk = { s.trk with events := before ++ { e with joined := true } :: after } ∧
        t.emb = covering s j e)) ∧
    (∃ t, exec .liftCoverageEnd s = .next t ∧ SameBut [.emb, .lnk] s t ∧ Silent s t [] ∧
      (if s.emb.zoneActive = true ∧ s.emb.heldOpen = false ∧ (∃ r, s.emb.release = some r ∧ reached s.wpu.h r = true) ∧
          (∀ e ∈ s.trk.events, s.coverBeginDue j e = false) then
        let free := { s.emb with zoneActive := false, release := none, heldOpen := false }
        t.emb = evaluated j (ClosePermitted s j free) free
      else t.emb = s.emb)) ∧
    (∃ t, exec .liftCheck s = .next t ∧ SameBut [.trk, .emb, .lnk] s t ∧
      (∀ before e after, s.trk.events = before ++ e :: after → lifts j e.kind = true → e.checked = false →
        reached s.wpu.h (fwd e.datum j.dEm) = true → s.coverBeginDue j e = false →
        (∀ x ∈ before, s.liftCheckDue j x = false) →
        (s.emb.nip ≠ .lifting → Silent s t [] ∧ t.emb = s.emb ∧
          t.trk = { s.trk with events := before ++ { e with checked := true } :: after }) ∧
        (s.emb.nip = .lifting → Silent s t [.embossAlarm] ∧
          t.emb = { s.emb with
            lateCount := if s.emb.lateCount < 65535 then s.emb.lateCount + 1 else s.emb.lateCount
            lastLate := some (e.kind, e.datum) } ∧
          t.trk.events = before ++ { e with checked := true, liftLate := true } :: after ∧
          (∀ r, recordCovering j.L s.trk.records e.datum = some r →
            t.trk.records = s.trk.records.map fun x => if x.index = r.index then { x with liftLate := true } else x) ∧
          (recordCovering j.L s.trk.records e.datum = none → t.trk.records = s.trk.records))))

/-- Tier 2. The emboss index (R84 to R88): INDEX_EDGE gives its sample to the oldest window that contains it and holds
none, which sets the register state and, in IDLE and eligible, joins the accumulator, which when full calls the CAU;
EMBOSS_ALARM is raised where that meets the trim limit (R95); EMBOSS_WINDOW_EXPIRY counts a missed window and makes the
state LOST at the miss limit, with EMBOSS_ALARM; a stray edge, an edge in reverse travel and an early expiry do nothing.
EMBOSS_STATUS_WRITE (R91): the first record whose span's end, the next record's origin + d_em, has been reached takes its
emboss status: by the register state when the nip has been CLOSED since the record's origin met it, LIFTED otherwise and
with emboss disabled; without one nothing happens. That the two position-driven ones are commands of their own is the
model's choice: notes/assumptions/1.md. -/
def Obligations.IndexEdgesWindowsAndStatus : Prop :=
  (∀ (s : State) (j : Job), s.lsc.job = some j →
    let hit := fun (w : EmbWindow) => (ahead s.wpu.h w.expected).natAbs ≤ j.wEm ∧ w.sample = none
    (∃ t, exec .indexEdge s = .next t ∧ SameBut [.emb, .stg, .lnk] s t ∧
      (s.running = false ∨ j.embossOn = false ∨ s.reverse = true ∨ (∀ w ∈ s.emb.windows, ¬hit w) →
        SameBut [.lnk] s t ∧ Silent s t []) ∧
      (s.running = true → j.embossOn = true → s.reverse = false →
        ∀ before w after, s.emb.windows = before ++ w :: after → hit w → (∀ x ∈ before, ¬hit x) →
        let e := ahead s.wpu.h w.expected
        let eligible := (s.emb.reg = .inRegister ∨ s.emb.reg = .offRegister) ∧ w.kind = .marked
        t.emb.windows = before ++ { w with sample := some e } :: after ∧ t.emb.missCount = 0 ∧
        t.emb.lastSample = some (e, w.index) ∧
        t.emb.reg = (if e.natAbs ≤ j.tolEm then .inRegister else .offRegister) ∧ t.emb.nip = s.emb.nip ∧
        (¬(s.emb.phase = .idle ∧ eligible ∧ j.emboss.averaging ≤ s.emb.acc.length + 1) → Silent s t []) ∧
        (s.emb.phase = .inFlight → t.emb.phase = .inFlight ∧ t.emb.acc = s.emb.acc ∧ t.stg = s.stg) ∧
        (s.emb.phase = .settling → t.emb.phase = .idle ∧ t.emb.acc = s.emb.acc ∧ t.stg = s.stg) ∧
        (s.emb.phase = .idle → ¬eligible → t.emb.phase = .idle ∧ t.emb.acc = s.emb.acc ∧ t.stg = s.stg) ∧
        (s.emb.phase = .idle → eligible → s.emb.acc.length + 1 < j.emboss.averaging →
          t.emb.phase = .idle ∧ t.emb.acc = s.emb.acc ++ [e] ∧ t.stg = s.stg) ∧
        (s.emb.phase = .idle → eligible → j.emboss.averaging ≤ s.emb.acc.length + 1 →
          let r := cauFull (s.emb.acc ++ [e]) s.emb.trim j.emboss
          t.emb.acc = [] ∧ t.emb.flags = ⟨s.emb.flags.saturated || r.flags.saturated,
            s.emb.flags.atLimit || r.flags.atLimit, s.emb.flags.belowStep || r.flags.belowStep⟩ ∧
          Silent s t (if r.flags.atLimit then [.embossAlarm] else []) ∧
          (r.train = none → t.emb.phase = .idle ∧ t.emb.trim = s.emb.trim ∧ t.stg = s.stg) ∧
          (∀ n c, r.train = some (n, c) → t.emb.phase = .inFlight ∧ t.emb.trim = s.emb.trim + c ∧
            t.emb.lastC = some c ∧ t.emb.train = some ⟨s.emb.trim, c⟩ ∧
            t.chan 8 = { s.chan 8 with
              inFlight := true, remaining := n, emitted := 0, retard := decide (0 < c),
              period := 40000000 / j.emboss.rate, toStep := 40000000 / j.emboss.rate })))) ∧
    (∃ t, exec .embossWindowExpiry s = .next t ∧ SameBut [.emb, .lnk] s t ∧
      ((∀ w rest, s.emb.windows = w :: rest → reached s.wpu.h (fwd w.expected (j.wEm + 1)) = false) →
        SameBut [.lnk] s t ∧ Silent s t []) ∧
      (∀ w rest, s.emb.windows = w :: rest → reached s.wpu.h (fwd w.expected (j.wEm + 1)) = true →
        (w.sample ≠ none → t.emb = { s.emb with windows := rest } ∧ Silent s t []) ∧
        (w.sample = none →
          let n := if s.emb.missCount + 1 < j.embossMissLimit then s.emb.missCount + 1 else j.embossMissLimit
          (s.emb.reg = .lost ∨ s.emb.missCount + 1 < j.embossMissLimit →
            t.emb = { s.emb with windows := rest, missCount := n } ∧ Silent s t []) ∧
          (s.emb.reg ≠ .lost → j.embossMissLimit ≤ s.emb.missCount + 1 →
            t.emb = { s.emb with windows := rest, missCount := n, reg := .lost, acc := [] } ∧
              Silent s t [.embossAlarm]))))) ∧
  (∀ (s : State) (j : Job), s.lsc.job = some j → ∃ t, exec .embossStatusWrite s = .next t ∧ Silent s t [] ∧
    let due := fun (r next : RepeatRecord) => r.emboss = .notReached ∧ reached s.wpu.h (fwd next.origin j.dEm) = true
    ((∀ before r next after, s.trk.records = before ++ r :: next :: after → ¬due r next) → SameBut [.lnk] s t) ∧
    (∀ before r next after, s.trk.records = before ++ r :: next :: after → due r next →
      (∀ b x y a, before ++ [r] = b ++ x :: y :: a → ¬due x y) →
      SameBut [.trk, .lnk] s t ∧ t.trk.events = s.trk.events ∧ t.trk.eventLost = s.trk.eventLost ∧
      ∃ m, t.trk.records = s.trk.records.map (fun x =>
          if x.index = r.index ∧ x.emboss = .notReached then { x with emboss := m } else x) ∧
        (j.embossOn = false ∨ s.emb.nip ≠ .closed ∨ s.emb.closedSince = none → m = .lifted) ∧
        (∀ c, j.embossOn = true → s.emb.nip = .closed → s.emb.closedSince = some c →
          (0 < ahead c (fwd r.origin j.dEm) → m = .lifted) ∧
          (ahead c (fwd r.origin j.dEm) ≤ 0 →
            m = match s.emb.reg with
              | .inRegister => .inRegister
              | .offRegister => .offRegister
              | .seeking | .lost => .unknown))))

/-! ### Pulses, periods and settle ends (04, 05, 06, 07) -/

/-- The next period of a PWM generator: the duty, period value and prescale last set take effect (R83). -/
def nextPeriodOf (p : Pwm) : Pwm :=
  { p with period := p.nextPeriod, prescale := p.nextPrescale, duty := p.setDuty, cycle := 0 }

/-- Tier 2. The timed ends: a step pulse, TRIGGER, knife and turret pulse and the transfer end (R67, R98, R115, R127), a
PWM period takes what was last set (R83). SETTLE_END, with H at the settle end, makes the station TRACKING with an empty
accumulator (R65). TORQUE_UPDATE, with an active ROLL segment's wound length at a further multiple of 1,000, sets the duty
D0 − round_half_away(D0 × taper × min(ℓ, Lt) / (100 × Lt)) at the multiple ℓ reached, 0 at once and another duty with the
next period (R129, R83). Each changes nothing else. The duty of the last multiple reached is the model's reading
(notes/assumptions/17.md), and so is the final duty at the first multiple beyond an Lt that is none
(notes/assumptions/44.md); that a timed end is taken at the sender's word and a settle end or a torque update as a command
of its own is its choice (notes/assumptions/1.md and 2.md). -/
def Obligations.PulsesPeriodsAndTapers : Prop :=
  ∀ s : State,
    (∀ c : ChannelId, ∃ t, exec (.stepPulseEnd c) s = .next t ∧
      t.chan c = { s.chan c with stepHigh := false, highLeft := 0 } ∧ (∀ k, k ≠ c → t.chan k = s.chan k) ∧
      SameBut [.stg, .lnk] s t ∧ Silent s t []) ∧
    (∀ i : StationId, ∃ t, exec (.settleEnd i) s = .next t ∧ Silent s t [] ∧
      (∀ k, k ≠ i → t.station k = s.station k) ∧ SameBut [.rlp, .lnk] s t ∧
      (∀ x, (s.station i).st = .settling → (s.station i).settleEnd = some x → reached s.wpu.h x = true →
        t.station i = { s.station i with st := .tracking, acc := [], settleEnd := none }) ∧
      (¬((s.station i).st = .settling ∧ ∃ x, (s.station i).settleEnd = some x ∧ reached s.wpu.h x = true) →
        t.station i = s.station i)) ∧
    (∃ t, exec (.pwmPeriodStart .nip) s = .next t ∧ t.emb = { s.emb with pwm := nextPeriodOf s.emb.pwm } ∧
      SameBut [.emb, .lnk] s t ∧ Silent s t []) ∧
    (∃ t, exec (.pwmPeriodStart .torque) s = .next t ∧ t.wnd = { s.wnd with pwm := nextPeriodOf s.wnd.pwm } ∧
      SameBut [.wnd, .lnk] s t ∧ Silent s t []) ∧
    (∃ t, exec .triggerPulseEnd s = .next t ∧ t.shu = { s.shu with trigger := false, triggerLeft := 0 } ∧
      SameBut [.shu, .lnk] s t ∧ Silent s t []) ∧
    (∃ t, exec .knifePulseEnd s = .next t ∧ t.wnd = { s.wnd with knife := none } ∧ SameBut [.wnd, .lnk] s t ∧
      Silent s t []) ∧
    (∃ t, exec .turretPulseEnd s = .next t ∧ t.wnd = { s.wnd with turret := none } ∧ SameBut [.wnd, .lnk] s t ∧
      Silent s t []) ∧
    (∃ t, exec .transferTimerExpiry s = .next t ∧ t.wnd = { s.wnd with transfer := none } ∧ SameBut [.wnd, .lnk] s t ∧
      Silent s t []) ∧
    (∀ j, s.lsc.job = some j → ∃ t, exec .torqueUpdate s = .next t ∧ Silent s t [] ∧ SameBut [.wnd, .lnk] s t ∧
      ((∀ g, s.wnd.active = some g → g.role = .roll →
        (ahead (back s.wpu.h j.dCut) g.start).toNat / 1000 ≤ s.wnd.torqueMark) → SameBut [.lnk] s t) ∧
      (∀ g, s.wnd.active = some g → g.role = .roll →
        let mark := (ahead (back s.wpu.h j.dCut) g.start).toNat / 1000
        s.wnd.torqueMark < mark → ∃ duty : Nat,
          t.wnd = { s.wnd with
            torqueMark := mark
            pwm := { s.wnd.pwm with setDuty := duty, duty := if duty = 0 then 0 else s.wnd.pwm.duty } } ∧
          (duty : Int) = max 0 (j.d0 - roundDiv (j.d0 * j.taper * min (1000 * mark) j.lt : Nat) (100 * j.lt))))

/-! ### Shade (06) -/

/-- The track with a shade state written to the record of an index, where it was PENDING still (R10, R104). -/
def shadeWritten (u : Trk) (index : BitVec 32) (x : ShadeState) (reading : Option Shade) : Trk :=
  { u with records := u.records.map fun r =>
      if r.index = index ∧ r.shadeState = .pending then { r with shadeState := x, shade := reading } else r }

/-- Tier 2. SHADE_START_POINT, with H at the first start point: an IDLE head starts a measurement, TRIGGER high 10 µs and
the timeout timer running; a busy one makes the record SKIPPED, an OFFLINE one ABSENT (R101, R102). DATA_READY makes
ACQUIRING READING, timer stopped, smear decided (R103). HEAD_TIMEOUT makes the record ABSENT and the head IDLE, or OFFLINE
at the third in a row with HEAD_FAULT and cause HEAD_OFFLINE (R105); that a timeout is counted whether or not its record
is still in the track is the model's reading (notes/assumptions/18.md). HEAD_RESET, in every line state, makes OFFLINE
IDLE, fault count 0 (R107). At the port the clock runs only during a read and data-out stays low (R98; outside a read the
model's reading, notes/assumptions/38.md). A head that answers while an abandoned read runs reads over that selection:
notes/assumptions/43.md. A command before its position does nothing, and a timeout comes at the sender's word:
notes/assumptions/1.md and 2.md. -/
def Obligations.HeadStartsAnswersAndTimesOut : Prop :=
  (∀ s : State,
    s.headPort =
      { trigger := s.shu.trigger, select := s.shu.select, clock := if s.shu.select then .shifting else .low, dataOut := .low } ∧
    (∃ t, exec .headTimeout s = .next t ∧
      (s.shu.head ≠ .acquiring ∨ s.shu.meas = none → SameBut [.lnk] s t ∧ Silent s t []) ∧
      (∀ m, s.shu.head = .acquiring → s.shu.meas = some m →
        t.trk = shadeWritten s.trk m.index .absent none ∧ SameBut [.shu, .trk, .lsc, .emb, .lnk] s t ∧
        t.shu = { s.shu with
          head := if s.shu.faultCount + 1 < 3 then .idle else .offline
          meas := none, faultCount := s.shu.faultCount + 1
          counts := { s.shu.counts with timedOut := grown s.shu.counts.timedOut } } ∧
        (s.shu.faultCount + 1 < 3 → t.lsc = s.lsc ∧ t.emb = s.emb ∧ Silent s t []) ∧
        (3 ≤ s.shu.faultCount + 1 → t.lsc = (s.raiseCause .headOffline).lsc ∧
          ∀ l, (s.half l).mask.getLsbD 6 = true → (t.half l).Shows .headFault))) ∧
    (∀ (l : LinkId) (tag : Byte), s.mayTake l = true → s.permits l .operate false = true →
      let head := if s.shu.head = .offline then .idle else s.shu.head
      Answers (.headReset l tag) s l ⟨0xAE, tag, .done, .head head 0⟩ []
        { s with shu := { s.shu with head := head, faultCount := 0 } })) ∧
  ∀ (s : State) (j : Job), s.lsc.job = some j →
    (∃ t, exec .shadeStartPoint s = .next t ∧ Silent s t [] ∧
      ((∀ x rest, s.shu.starts = x :: rest → reached s.wpu.h x.2 = false) → SameBut [.lnk] s t) ∧
      (∀ index p rest, s.shu.starts = (index, p) :: rest → reached s.wpu.h p = true →
        SameBut [.shu, .trk, .lnk] s t ∧
        (s.shu.head = .idle → t.trk = s.trk ∧ t.shu = { s.shu with
          starts := rest, head := .acquiring, trigger := true, triggerLeft := 400
          meas := some ⟨index, s.wpu.h, 0, some (40 * j.acquisitionUs + 40000 * j.headTimeoutMs), false⟩
          counts := { s.shu.counts with started := grown s.shu.counts.started } }) ∧
        (s.shu.head = .acquiring ∨ s.shu.head = .reading → t.trk = shadeWritten s.trk index .skipped none ∧
          t.shu = { s.shu with
            starts := rest, counts := { s.shu.counts with skipped := grown s.shu.counts.skipped } }) ∧
        (s.shu.head = .offline → t.trk = shadeWritten s.trk index .absent none ∧
          t.shu = { s.shu with
            starts := rest, counts := { s.shu.counts with notStarted := grown s.shu.counts.notStarted } }))) ∧
    (∃ t, exec .dataReady s = .next t ∧ Silent s t [] ∧ SameBut [.shu, .lnk] s t ∧
      (∀ m, s.shu.head = .acquiring → s.shu.meas = some m → t.shu = { s.shu with
        head := .reading, select := true
        meas := some { m with timeout := none, smeared := decide ((j.spanLimit : Int) < ahead s.wpu.h m.trigPos) } }) ∧
      (s.shu.head ≠ .acquiring ∨ s.shu.meas = none → t.shu = s.shu))

/-- Tier 2. READ_COMPLETE ends the read on the port: bytes of a head in READING make it IDLE with fault count 0; a smeared
read makes a PENDING record SMEARED; another latches the clamp flags, and makes a PENDING record PRESENT with the clamped
L, a and b, which join the drift window of eight (R104, R110). A full window is compared with the line batch: DRIFT marks
the open entry and shows SHADE_DRIFT, WARNING shows SHADE_WARNING (R111). Without a selected head nothing happens. The
effects without the record, and the bytes of an abandoned read, are the model's readings: notes/assumptions/18.md and
19.md; a READ_COMPLETE while such a read runs under a new measurement ends that one: notes/assumptions/43.md. -/
def Obligations.ReadCompleteWritesTheReading : Prop :=
  ∀ (s : State) (j : Job) (a b c d e f : Byte), s.lsc.job = some j →
    let raw : Shade := ⟨(a ++ b).toInt, (c ++ d).toInt, (e ++ f).toInt⟩
    let x : Shade := ⟨clamp 0 10000 raw.l, clamp (-12800) 12700 raw.a, clamp (-12800) 12700 raw.b⟩
    ∃ t, exec (.readComplete a b c d e f) s = .next t ∧
      (s.shu.select = false → SameBut [.lnk] s t ∧ Silent s t []) ∧
      (s.shu.select = true → s.shu.head ≠ .reading ∨ s.shu.meas = none →
        t.shu = { s.shu with select := false } ∧ SameBut [.shu, .lnk] s t ∧ Silent s t []) ∧
      (∀ m, s.shu.select = true → s.shu.head = .reading → s.shu.meas = some m →
        let pending := ∃ r ∈ s.trk.records, r.index = m.index ∧ r.shadeState = .pending
        let idle := { s.shu with head := .idle, faultCount := 0, meas := none, select := false }
        let clamped := { idle with
          clampL := s.shu.clampL || x.l != raw.l, clampA := s.shu.clampA || x.a != raw.a
          clampB := s.shu.clampB || x.b != raw.b }
        let window := (if s.shu.drift.length < 8 then s.shu.drift else s.shu.drift.drop 1) ++ [x]
        SameBut [.shu, .trk, .rlg, .lnk] s t ∧
        (m.smeared = true → t.rlg = s.rlg ∧ Silent s t [] ∧
          (pending → t.trk = shadeWritten s.trk m.index .smeared none ∧
            t.shu = { idle with counts := { s.shu.counts with smeared := grown s.shu.counts.smeared } }) ∧
          (¬pending → t.trk = s.trk ∧ t.shu = idle)) ∧
        (m.smeared = false → ¬pending → t.rlg = s.rlg ∧ Silent s t [] ∧ t.trk = s.trk ∧ t.shu = clamped) ∧
        (m.smeared = false → pending →
          let told := { clamped with
            lastReading := some (x, m.index), drift := window
            counts := { s.shu.counts with present := grown s.shu.counts.present } }
          t.trk = shadeWritten s.trk m.index .present (some x) ∧
          (s.shu.lineBatch = none ∨ window.length ≠ 8 → t.rlg = s.rlg ∧ Silent s t [] ∧ t.shu = told) ∧
          (∀ batch, s.shu.lineBatch = some batch → window.length = 8 →
            let mean : Shade := ⟨roundDiv (window.map Shade.l).sum 8, roundDiv (window.map Shade.a).sum 8,
              roundDiv (window.map Shade.b).sum 8⟩
            let d2 := ((mean.l - batch.ref.l) ^ 2 + (mean.a - batch.ref.a) ^ 2 + (mean.b - batch.ref.b) ^ 2).toNat
            ∃ verdict, t.shu = { told with lastDrift := some ⟨mean, d2, verdict⟩ } ∧
              (verdict = .drift ↔ j.tolB ^ 2 < d2) ∧
              (verdict = .inside ↔ d2 ≤ j.tolB ^ 2 ∧ d2 ≤ (j.tolB * j.warn / 100) ^ 2) ∧
              (verdict = .inside → t.rlg = s.rlg ∧ Silent s t []) ∧
              (verdict = .warning → t.rlg = s.rlg ∧ Silent s t [.shadeWarning]) ∧
              (verdict = .drift → Silent s t [.shadeDrift] ∧ t.rlg = { s.rlg with log := s.rlg.log.map fun y =>
                if (s.wnd.active.any fun g => g.seq == y.seq) = true then
                  { y with flags := { y.flags with driftSeen := true } } else y }))))

/-! ### The winder (07) -/

/-- The state of cut1 for the limit x − c, with earliest cut datum e (R121). Of two greatest points at one datum it is the
first in (index, half) order (R117). -/
def Cut1Found (s : State) (j : Job) (e limit : Count) (cut1 : Cut1) : Prop :=
  let passed := fun (y : Count) => reached s.wpu.h (fwd y j.dCut)
  let inRange := fun (y : Count) => reached y e = true ∧ reached limit y = true ∧ passed y = false
  let beyond := ∃ q ∈ s.wnd.points, 0 < ahead q.2 limit
  (passed limit = true → cut1 = .none) ∧
  (passed limit = false → j.cutMode = .length → cut1 = if reached limit e = true then .fixed limit none else .none) ∧
  (passed limit = false → j.cutMode = .matched →
    ((∀ q ∈ s.wnd.points, ¬inRange q.2) → (beyond → cut1 = .none) ∧ (¬beyond → cut1 = .seeking)) ∧
    ∀ before n y after, s.wnd.points = before ++ (n, y) :: after → inRange y →
      (∀ q ∈ before, inRange q.2 → 0 < ahead y q.2) → (∀ q ∈ after, inRange q.2 → ahead q.2 y ≤ 0) →
      (beyond → cut1 = .fixed y (some n)) ∧ (¬beyond → cut1 = .candidate y (some n)))

/-- The cut2 floor for a cut1 (R121). -/
def cut2FloorOf (j : Job) (e : Count) : Cut1 → Count
  | .fixed d _ | .candidate d _ => fwd d (j.vMax * j.transferMs / 1000)
  | .none | .seeking => e

/-- The planned cut under a REMOVE plan (R121). -/
def plannedUnder (q : SplicePlan) : CutPlan :=
  match q.cut1 with
  | .fixed d n | .candidate d n => ⟨.known d n, .remove, false⟩
  | .none => ⟨q.cut2, .roll, false⟩
  | .seeking => ⟨.seekingCut1, .remove, false⟩

/-- A target lies after d, or is pending still. -/
def LiesAfter (t : CutTarget) (d : Count) : Prop := ∀ x n, t = .known x n → 0 < ahead x d

/-- Tier 2. Splices under REMOVE. A SPLICE of the list may be judged in RUN and HOLD, not in ENDING (R130), once for the
active segment, while the planned cut's datum is known and the splice lies before it in the segment (R120). A judged one
starts a REMOVE plan in a ROLL segment without one, cut1 the greatest point of its range and cut2 the first eligible point
past the clearance and the transfer (R121); with a plan it moves cut2 further, and in a LEAD_IN or REMOVE segment the planned
cut (R122); in the TAIL it does nothing. SPLICE_PULSE has the splice it brings judged. Splices that may be judged together
are judged in list order, each against what the one before it left, the model's reading: notes/assumptions/20.md. -/
def Obligations.SplicesAreJudgedUnderRemove : Prop :=
  (∀ (s : State) (j : Job) (e : WebEvent), s.judgeable j e = true ↔
    (s.lsc.lineState = .run ∨ s.lsc.lineState = .hold) ∧ j.splicePolicy = .remove ∧ e.kind = .splice ∧ e.judged = false ∧
      ∃ g c p n, s.wnd.active = some g ∧ s.wnd.planned = some c ∧ c.target = .known p n ∧
        reached e.datum g.start = true ∧ reached e.datum p = false) ∧
  (∀ (s : State) (j : Job), (∀ e ∈ s.trk.events, s.judgeable j e = false) → s.judgeSplices j = s) ∧
  (∀ (s : State) (j : Job), s.judgeSplices j = (List.range s.trk.events.length).foldl (fun u n =>
    match u.trk.events[n]? with
    | some e => if u.judgeable j e = true then
        ({ u with trk := { u.trk with events := u.trk.events.set n { e with judged := true } } } : State).judge j e.datum
      else u
    | none => u) s) ∧
  (∀ (s : State) (j : Job) before e after, s.trk.events = before ++ e :: after → s.judgeable j e = true →
    (∀ x ∈ before ++ after, x.kind = .splice → x.judged = true) →
    s.judgeSplices j = ({ s with trk := { s.trk with events := before ++ { e with judged := true } :: after } } : State).judge
      j e.datum) ∧
  (∀ (s : State) (j : Job) (x e : Count) (g : Segment), s.wnd.active = some g → s.wnd.eMin = some e →
    let t := s.judge j x
    let cut2 := fun (last : Count) (c : Cut1) =>
      FirstEligible j s.wnd.points (further (fwd last j.clearance) (cut2FloorOf j e c))
    t = { s with wnd := { s.wnd with plan := t.wnd.plan, planned := t.wnd.planned } } ∧
    (g.role = .tail → t = s) ∧
    (g.role = .roll → s.wnd.plan = none → ∃ c y,
      Cut1Found s j e (back x j.clearance) c ∧ cut2 x c y ∧ t.wnd.plan = some ⟨back x j.clearance, x, c, y⟩ ∧
      t.wnd.planned = some (plannedUnder ⟨back x j.clearance, x, c, y⟩)) ∧
    (∀ q, g.role = .roll → s.wnd.plan = some q → ∃ y, cut2 x q.cut1 y ∧
      let moves := ∀ d n, q.cut2 = .known d n → LiesAfter y d
      (moves → t.wnd.plan = some { q with lastSplice := x, cut2 := y } ∧
        t.wnd.planned = some (plannedUnder { q with lastSplice := x, cut2 := y })) ∧
      (¬moves → t.wnd.plan = some { q with lastSplice := x } ∧ t.wnd.planned = s.wnd.planned)) ∧
    (∀ c p n, g.role = .leadIn ∨ g.role = .remove → s.wnd.planned = some c → c.target = .known p n →
      t.wnd.plan = s.wnd.plan ∧ ∃ y, cut2 x .none y ∧
        (LiesAfter y p → t.wnd.planned = some { c with target := y, replanned := false }) ∧
        (¬LiesAfter y p → t.wnd.planned = s.wnd.planned))) ∧
  (∀ (s : State) (j : Job), s.lsc.job = some j → s.running = true → s.reverse = false → s.trk.events.length < 16 →
    (∀ x ∈ s.trk.events, x.kind = .splice → x.judged = true) →
    let e : WebEvent := WebEvent.fresh .splice (fwd s.wpu.h j.uSpl) false
    ∃ t, exec .splicePulse s = .next t ∧
      t.wnd = if s.judgeable j e = true then (s.judge j e.datum).wnd else s.wnd)

/-- Tier 2. The winder's part of an appended record, with earliest cut datum e: its points become known (R117); those that
have passed the knife are dropped, and others stay known past the fold of their records, in a list of the winder's own,
which is the model's reading (notes/assumptions/21.md and 9.md). A pending planned cut is settled (R119); a CANDIDATE or
SEEKING cut1 is examined again, with cut2 found anew, and a pending cut2 is settled (R121); the search that END_JOB has
kept goes on, and a cut it finds opens the TAIL (R130; that it goes on beside the dropped plan, and that one that ends
with cut1 NONE plans the tail's cut at the first eligible point from e on, are the model's: notes/assumptions/15.md). Then
the splices are judged (R120). -/
def Obligations.AppendedRecordsSettleThePlans : Prop :=
  ∀ (s : State) (j : Job) (r : RepeatRecord) (e : Count), s.wnd.eMin = some e →
    let points := (s.wnd.points.filter fun x => decide (ahead s.wpu.h (fwd x.2 j.dCut) ≤ 0)) ++
      r.points.zipIdx.map fun x => (⟨r.index, x.2⟩, x.1)
    let seen : State := { s with wnd := { s.wnd with points := points } }
    let cut2 := fun (last : Count) (c : Cut1) => FirstEligible j points (further (fwd last j.clearance) (cut2FloorOf j e c))
    ∃ u : State, s.winderAppend j r = u.judgeSplices j ∧
      u = { seen with wnd := { seen.wnd with plan := u.wnd.plan, planned := u.wnd.planned, search := u.wnd.search } } ∧
      (s.wnd.plan = none → s.wnd.search = none → u.wnd.plan = none ∧ u.wnd.search = none ∧
        (s.wnd.planned = none → u.wnd.planned = none) ∧
        ∀ c, s.wnd.planned = some c → ∃ y, Settled j points e c.target y ∧ u.wnd.planned = some { c with target := y }) ∧
      (∀ q, s.wnd.plan = some q → u.wnd.search = s.wnd.search ∧
        ((∃ d n, q.cut1 = .candidate d n) ∨ q.cut1 = .seeking → ∃ c y,
          Cut1Found seen j e q.limit c ∧ cut2 q.lastSplice c y ∧ u.wnd.plan = some { q with cut1 := c, cut2 := y } ∧
          u.wnd.planned = some (plannedUnder { q with cut1 := c, cut2 := y })) ∧
        ((∃ d n, q.cut1 = .fixed d n) ∨ q.cut1 = .none → ∃ y, Settled j points e q.cut2 y ∧
          u.wnd.plan = some { q with cut2 := y } ∧
          ((∃ n, q.cut2 = .named n) ∨ (∃ f, q.cut2 = .fromFloor f) →
            u.wnd.planned = some (plannedUnder { q with cut2 := y })) ∧
          ((∀ n, q.cut2 ≠ .named n) → (∀ f, q.cut2 ≠ .fromFloor f) → u.wnd.planned = s.wnd.planned))) ∧
      (∀ limit, s.wnd.plan = none → s.wnd.search = some limit → u.wnd.plan = none ∧ ∃ c,
        Cut1Found seen j e limit c ∧
        (∀ d n, c = .fixed d n → u.wnd.planned = some ⟨.known d n, .tail, false⟩ ∧ u.wnd.search = none) ∧
        (∀ d n, c = .candidate d n → u.wnd.planned = some ⟨.known d n, .tail, false⟩ ∧ u.wnd.search = some limit) ∧
        (c = .seeking → u.wnd.planned = some ⟨.seekingCut1, .tail, false⟩ ∧ u.wnd.search = some limit) ∧
        (c = .none → u.wnd.search = none ∧ ∃ y, FirstEligible j points e y ∧ u.wnd.planned = some ⟨y, .tail, false⟩))

/-- Tier 2. CUT_DUE, with the planned cut's datum d at the knife, room in the log and, for a ROLL, a chosen spindle: the
cut fires (R123, R124). Knife pulsed, transfer started, the active entry ended at d, a ROLL's spindle FULL and the turret
pulsed; the next entry allocated from d with the opened role, a ROLL winding on the chosen spindle, the divert asserted
for any other role; last cut d, earliest cut d + D_tr, overlength over; the next cut planned, a ROLL's at d + Lt or,
counted on by whole or half repeats, at its MATCH point (R119), the one after cut1 at cut2 (R121); the listed splices
judged anew (R120); torque D0 or 0 (R129); LOG_SPACE raised where the log then holds 28 entries or more (R147). A tail cut
drops run-permit (R130). An entry that the cut leaves with no record before its end closes in the cut, as a lead-in ended while
the track is empty does, with ROLLS_CLOSED and what its closing tells (R140, R144). All this is CutFired. CUT_DUE is a command
of its own: the model's choice, notes/assumptions/1.md; that an entry's counts and a label's transfer count have no bound, and
that a timeout timer looks at its conditions at the event's end, its choices too: notes/assumptions/23.md, 51.md and 46.md. -/
def Obligations.CutFiresAndOpensASegment : Prop :=
  ∀ (s : State) (j : Job) (c : CutPlan) (d : Count) (p : Option PointName),
    s.lsc.job = some j → s.wnd.planned = some c → c.target = .known d p →
    reached s.wpu.h (fwd d j.dCut) = true → s.rlg.log.length < 32 → (c.opens = .roll → ∃ k, Chosen s k) →
    (s.lsc.lineState = .ending → s.wpu.stopped = false) →
    ∃ t notices, exec .cutDue s = .next t ∧ CutFired j c.opens d p s t notices ∧ Silent s t notices

/-- Tier 2. CUT_DUE, with the planned cut at the knife but the log full, or, for a ROLL, no spindle EMPTY as chosen: the
cut is refused (R123, R125). The active entry is flagged OVERLENGTH, the refusal counted with its cause, the earliest cut
datum d + D_tr. The cut is planned anew at the first eligible point from there on; in LENGTH mode a cut refused again
waits; a refused cut1 is NONE, with cut2 found anew (R121); any other refused cut, a tail's among them, ends the search for
cut1 that END_JOB has kept (R130). An entry then longer than Lt + maximum overlength raises OVERLENGTH, which
OVERLENGTH_CONDITION finds too (R126); LINE_STATE is told where that stops the line or is newly latched, and nothing else is
told. What the winder holds besides stays. CUT_DUE before its time does nothing (notes/assumptions/1.md).
That a refused cut1 is NONE in LENGTH mode too, cut2's own first refusal counting as a first, and that a refused tail cut
ends the search for cut1, are the model's readings: notes/assumptions/48.md and 15.md. -/
def Obligations.CutIsRefusedAndOverlengthRaised : Prop :=
  ∀ (s : State) (j : Job), s.lsc.job = some j →
    let beyond := fun (g : Segment) =>
      (j.lt + j.maxOver : Int) < ahead (back s.wpu.h j.dCut) g.start ∧ s.wnd.overlength = false
    (∃ t, exec .overlengthCondition s = .next t ∧
      let due := ∃ g e, s.wnd.active = some g ∧ e ∈ s.rlg.log ∧ e.seq = g.seq ∧ e.flags.overlength = true ∧ beyond g
      (due → t.wnd = { s.wnd with overlength := true } ∧ t.lsc = (s.raiseCause .overlength).lsc ∧
        t.emb = (s.raiseCause .overlength).emb ∧ SameBut [.wnd, .lsc, .emb, .lnk] s t ∧
        Silent s t (causeTold s .overlength)) ∧
      (¬due → SameBut [.lnk] s t ∧ Silent s t [])) ∧
    ((∀ c d p, s.wnd.planned = some c → c.target = .known d p → reached s.wpu.h (fwd d j.dCut) = false) →
      ∃ t, exec .cutDue s = .next t ∧ SameBut [.lnk] s t ∧ Silent s t []) ∧
    (∀ c d p g, s.wnd.planned = some c → c.target = .known d p → s.wnd.active = some g →
      reached s.wpu.h (fwd d j.dCut) = true → 32 ≤ s.rlg.log.length ∨ (c.opens = .roll ∧ ∀ k, ¬Chosen s k) →
      (s.lsc.lineState = .ending → s.wpu.stopped = false) →
      ∃ t, exec .cutDue s = .next t ∧ SameBut [.trk, .wnd, .rlg, .lsc, .emb, .lnk] s t ∧
        t.rlg = { s.rlg with log := s.rlg.log.map fun e =>
          if e.seq = g.seq then { e with flags := { e.flags with overlength := true } } else e } ∧
        t.wnd = { s.wnd with
          planned := t.wnd.planned, plan := t.wnd.plan, search := t.wnd.search, eMin := t.wnd.eMin
          refusals := grown s.wnd.refusals, lastRefusal := t.wnd.lastRefusal, overlength := t.wnd.overlength } ∧
        t.wnd.lastRefusal = some (if 32 ≤ s.rlg.log.length then .logFull else .spindleNotReady) ∧
        t.wnd.eMin = some (fwd d (j.vMax * j.transferMs / 1000)) ∧
        ((∃ e ∈ s.rlg.log, e.seq = g.seq) → beyond g →
          t.wnd.overlength = true ∧ t.lsc = (s.raiseCause .overlength).lsc ∧
            t.emb = (s.raiseCause .overlength).emb ∧ Silent s t (causeTold s .overlength)) ∧
        (¬((∃ e ∈ s.rlg.log, e.seq = g.seq) ∧ beyond g) →
          t.wnd.overlength = s.wnd.overlength ∧ t.lsc = s.lsc ∧ t.emb = s.emb ∧ Silent s t []) ∧
        (s.wnd.plan = none ∨ c.opens ≠ .remove → t.wnd.search = none) ∧
        (s.wnd.plan ≠ none → c.opens = .remove → t.wnd.search = s.wnd.search) ∧
        let e := fwd d (j.vMax * j.transferMs / 1000)
        ∃ u : State, t = (u.judgeSplices j).endOfEvent ∧ u.trk = s.trk ∧ u.wnd.points = s.wnd.points ∧
          (s.wnd.plan = none ∨ c.opens ≠ .remove → ∃ y, u.wnd.planned = some ⟨y, c.opens, true⟩ ∧
            u.wnd.plan = s.wnd.plan.map (fun q => { q with cut2 := y }) ∧
            (j.cutMode = .matched → FirstEligible j s.wnd.points e y) ∧
            (j.cutMode = .length → y = if c.replanned then .waiting else .known e none)) ∧
          (∀ q, s.wnd.plan = some q → c.opens = .remove → ∃ y,
            FirstEligible j s.wnd.points (further (fwd q.lastSplice j.clearance) e) y ∧
            u.wnd.plan = some { q with cut1 := .none, cut2 := y } ∧ u.wnd.planned = some ⟨y, .roll, false⟩) ∧
          (j.splicePolicy = .mark ∨ (∀ x ∈ s.trk.events, x.kind ≠ .splice) →
            t.wnd.plan = u.wnd.plan ∧ t.wnd.planned = u.wnd.planned))

/-! ### The label channel (10) -/

/-- The state with a printer's state replaced. -/
def withPrinter (s : State) (p : Printer) (x : PrinterState) : State :=
  match p with
  | .a => { s with lbc := { s.lbc with printerA := x } }
  | .b => { s with lbc := { s.lbc with printerB := x } }

/-- The state with the label state of one entry written. -/
def withLabel (s : State) (seq : BitVec 32) (x : LabelState) : State :=
  { s with rlg := { s.rlg with log := s.rlg.log.map fun e => if e.seq = seq then { e with label := x } else e } }

/-- The state with the label of an entry out of the queue. -/
def dequeued (s : State) (seq : BitVec 32) : State :=
  { s with lbc := { s.lbc with queue := s.lbc.queue.filter fun x => x.seq != seq } }

/-- A place joins the end of a sent list, which then is new (R170): a list of 32 places first loses its oldest unattached place;
one without such a place, which no run makes, loses its oldest (notes/assumptions/33.md). -/
def PlaceJoins (sent : List (Option (BitVec 32))) (place : Option (BitVec 32)) (new : List (Option (BitVec 32))) : Prop :=
  (sent.length < 32 → new = sent ++ [place]) ∧
  (32 ≤ sent.length →
    (∀ before after, sent = before ++ none :: after → (∀ x ∈ before, x ≠ none) → new = before ++ after ++ [place]) ∧
    ((∀ x ∈ sent, x ≠ none) → ∀ oldest rest, sent = oldest :: rest → new = rest ++ [place]))

/-- Tier 2. PRINTER_READY_CHANGE sets the READY level (R168). LABEL_TRANSFER_END reads the verdict byte (R169): 0x06 moves
the label to the sent list, which at 32 places first loses its oldest unattached one, and its entry to SENT (R170; a list of
32 without one, which no run makes, loses its oldest place, the model's reading, notes/assumptions/33.md), 0x1A puts the
printer OFFLINE with its cause (R172), any other counts a rejection, the third dropping the label and making its entry
MISSING (R171). PRINTER_TIMEOUT puts the printer OFFLINE (R172). After each the channel goes on (R167, R168). APPLIED settles
the first place of the sent list (R174). The label port selects the printer of the transfer alone, and its clock and data-out
are low without one (R166, R169; between transfers the model's reading, notes/assumptions/38.md). Verdicts and timeouts come
at the sender's word, a label's transfer count has no bound, and a timeout timer looks at its conditions at the event's end:
the model's choices, notes/assumptions/2.md, 9.md, 51.md and 46.md. -/
def Obligations.LabelsMoveThroughTheChannel : Prop :=
  ∀ s : State,
    (s.lbc.channel = none → s.labelPort = { selectA := false, selectB := false, clock := .low, dataOut := .low }) ∧
    (∀ tr, s.lbc.channel = some tr → s.labelPort =
      { selectA := tr.label.printer == .a, selectB := tr.label.printer == .b, clock := .shifting, dataOut := .shifting }) ∧
    (∀ p level, ∃ t, exec (.printerReadyChange p level) s = .next t ∧
      let u := { s with pins := match p with
        | .a => { s.pins with readyA := level }
        | .b => { s.pins with readyB := level } }
      t.pins = u.pins ∧ ChannelWorks u t ∧ SameBut [.pins, .lbc, .rlg, .lnk] s t ∧ Silent s t []) ∧
    (∀ b, s.lbc.channel = none → ∃ t, exec (.labelTransferEnd b) s = .next t ∧ SameBut [.lnk] s t ∧ Silent s t []) ∧
    (∀ b tr, s.lbc.channel = some tr → ∃ t, exec (.labelTransferEnd b) s = .next t ∧
      SameBut [.lbc, .rlg, .lsc, .emb, .lnk] s t ∧
      let x := tr.label
      let q := s.printer x.printer
      let free := { s with lbc := { s.lbc with channel := none } }
      (b = 0x06 → tr.withdrawn = false → ∃ sent, PlaceJoins q.sent (some x.seq) sent ∧
        let out := dequeued (withLabel free x.seq .sent) x.seq
        let u := withPrinter out x.printer { q with sent := sent, rejects := 0 }
        ChannelWorks { u with lbc := { u.lbc with accepted := grown s.lbc.accepted } } t ∧ t.lsc = s.lsc ∧ Silent s t []) ∧
      (b = 0x06 → tr.withdrawn = true → ∃ sent, PlaceJoins q.sent none sent ∧
        ChannelWorks (withPrinter free x.printer { q with sent := sent }) t ∧ t.lsc = s.lsc ∧ Silent s t []) ∧
      (b ≠ 0x06 → b ≠ 0x1A → tr.withdrawn = true → ChannelWorks free t ∧ t.lsc = s.lsc ∧ Silent s t []) ∧
      (b ≠ 0x06 → b ≠ 0x1A → tr.withdrawn = false →
        let counted := { free with lbc := { free.lbc with rejections := grown s.lbc.rejections } }
        (q.rejects + 1 < 3 → ChannelWorks (withPrinter counted x.printer { q with rejects := q.rejects + 1 }) t ∧
          t.lsc = s.lsc ∧ Silent s t []) ∧
        (3 ≤ q.rejects + 1 →
          let out := dequeued (withLabel counted x.seq .missing) x.seq
          let u := withPrinter out x.printer { q with rejects := 0, lastFault := some .dropped }
          ChannelWorks { u with lbc := { u.lbc with dropped := grown s.lbc.dropped } } t ∧ t.lsc = s.lsc ∧
            Silent s t [.labelFault x.printer])) ∧
      (b = 0x1A → ChannelWorks (withPrinter { free with lbc := { free.lbc with jams := grown s.lbc.jams } } x.printer
          { q with online := false, lastFault := some .jammed }) t ∧
        t.lsc = (s.raiseCause .printerOffline).lsc ∧
        ∀ l, (s.half l).mask.getLsbD 5 = true → (t.half l).Shows (.labelFault x.printer))) ∧
    (∀ p, ∃ t, exec (.printerTimeout p) s = .next t ∧
      ((s.printer p).timer = none → SameBut [.lnk] s t ∧ Silent s t []) ∧
      (∀ n, (s.printer p).timer = some n →
        ChannelWorks (withPrinter { s with lbc := { s.lbc with timeouts := grown s.lbc.timeouts } } p
          { s.printer p with online := false, lastFault := some .timeout }) t ∧
        t.lsc = (s.raiseCause .printerOffline).lsc ∧ SameBut [.lbc, .rlg, .lsc, .emb, .lnk] s t ∧
        ∀ l, (s.half l).mask.getLsbD 5 = true → (t.half l).Shows (.labelFault p))) ∧
    (∀ p, ∃ t, exec (.applied p) s = .next t ∧ Silent s t [] ∧
      ((s.printer p).sent = [] → SameBut [.lnk] s t) ∧
      (∀ seq rest, (s.printer p).sent = some seq :: rest →
        SameBut [.lnk] (withLabel (withPrinter s p { s.printer p with sent := rest }) seq .applied) t) ∧
      (∀ rest, (s.printer p).sent = none :: rest →
        SameBut [.lbc, .lnk] s t ∧
          t.lbc = { (withPrinter s p { s.printer p with sent := rest }).lbc with unattached := grown s.lbc.unattached }))

/-- No cut waits for a doff or a release, and no tail ends with the event (R125, R131). -/
def NothingWaits (s : State) : Prop :=
  s.lsc.job = none ∨ ((∀ c, s.wnd.planned = some c → c.target ≠ .waiting) ∧
    (s.lsc.lineState = .ending → s.wpu.stopped = false))

/-- The state with a spindle EMPTY. -/
def unwound (s : State) (k : Spindle) : State :=
  match k with
  | .a => { s with wnd := { s.wnd with spindleA := .empty } }
  | .b => { s with wnd := { s.wnd with spindleB := .empty } }

/-- A doff of spindle k, FULL with the entry seq, has made t of s (R128, R137, R175): the spindle EMPTY, the entry doffed,
and its label by its label state; what the label channel does is as it is at the end of the event. -/
def SpindleDoffed (s : State) (k : Spindle) (seq : BitVec 32) (t : State) : Prop :=
  t.wnd = (unwound s k).wnd ∧ SameBut [.wnd, .lbc, .rlg, .lnk] s t ∧
  ((∀ e ∈ s.rlg.log, e.seq ≠ seq) → t.rlg = s.rlg ∧ t.lbc = s.lbc) ∧
  (∀ before e after, s.rlg.log = before ++ e :: after → e.seq = seq → (∀ x ∈ before, x.seq ≠ seq) →
    let marked := { s with rlg := { s.rlg with log := s.rlg.log.map fun x =>
      if x.seq = seq then { x with flags := { x.flags with doffed := true } } else x } }
    let missing := withLabel marked seq .missing
    (e.label = .none ∨ e.label = .applied ∨ e.label = .missing → t.rlg = marked.rlg ∧ t.lbc = s.lbc) ∧
    (e.label = .due → t.rlg = missing.rlg ∧ t.lbc = s.lbc) ∧
    (e.label = .sent → t.rlg = missing.rlg ∧ ∀ p, t.printer p = { s.printer p with
      sent := (s.printer p).sent.map fun place => if place = some seq then none else place }) ∧
    (e.label = .queued → ∀ b x a, s.lbc.queue = b ++ x :: a → x.seq = seq → (∀ y ∈ b, y.seq ≠ seq) →
      ∀ rejects, ((∀ y ∈ b, y.printer ≠ x.printer) → rejects = 0) →
        ((∃ y ∈ b, y.printer = x.printer) → rejects = (s.printer x.printer).rejects) →
      let out := dequeued missing seq
      let channel := s.lbc.channel.map fun c => if c.label.seq = seq then { c with withdrawn := true } else c
      ChannelWorks (withPrinter { out with lbc := { out.lbc with channel := channel } } x.printer
        { s.printer x.printer with rejects := rejects }) t))

/-- A cut waits, and its conditions do not hold: the log is full, or a ROLL has no chosen spindle (R123, R125). -/
def WaitsOn (s : State) : Prop :=
  (∀ c, s.wnd.planned = some c → c.target = .waiting →
    32 ≤ s.rlg.log.length ∨ (c.opens = .roll ∧ ∀ k, ¬Chosen s k)) ∧ (s.lsc.lineState = .ending → s.wpu.stopped = false)

/-- Tier 2. DOFF of a FULL spindle makes it EMPTY and its entry doffed (R128, R137); the entry's label: DUE becomes MISSING;
QUEUED leaves the queue, a transfer of it going on withdrawn; SENT keeps an unattached place; the entry is then MISSING
(R175). A spindle that is not FULL ignores it. A WAITING cut whose conditions the doff meets fires at the knife (R125), and
in ENDING with the web stopped the job then ends in the same event (R131). That the reject count returns to 0 with the oldest
label of its printer withdrawn is the model's reading: notes/assumptions/28.md; that a timeout timer looks at its conditions
at the event's end, so that it runs on where a DUE entry takes the room of the printer's only label, is its choice:
notes/assumptions/46.md, as it is that the return to READY raises no STATION_LOST for a CORRECTING station at its missing
limit, notes/assumptions/41.md, and that a label's transfer count and an entry's counts have no bound,
notes/assumptions/51.md and 23.md. An abort leaves the channel's counts of steps as they stand, a TRIGGER still high ends its
10 µs, and an abandoned read goes on under the select, the model's choices and readings: notes/assumptions/35.md, 42.md and
19.md. -/
def Obligations.DoffEmptiesASpindle : Prop :=
  ∀ (s : State) (k : Spindle),
    ((∀ seq, s.spindle k ≠ .full seq) → ∃ t, exec (.doff k) s = .next t ∧ SameBut [.lnk] s t ∧ Silent s t []) ∧
    (∀ seq, s.spindle k = .full seq → NothingWaits s ∨ WaitsOn (unwound s k) →
      ∃ t, exec (.doff k) s = .next t ∧ SpindleDoffed s k seq t ∧ Silent s t []) ∧
    (∀ seq j c, s.spindle k = .full seq → s.lsc.job = some j → s.wnd.planned = some c → c.target = .waiting →
      s.rlg.log.length < 32 → (c.opens = .roll → ∃ i, Chosen (unwound s k) i) →
      ∃ t doffed fired told rest, exec (.doff k) s = .next t ∧ SpindleDoffed s k seq doffed ∧
        CutFired j c.opens (back s.wpu.h j.dCut) none doffed fired told ∧ Silent s t (told ++ rest) ∧
        ((s.lsc.lineState = .ending → s.wpu.stopped = false) → SameBut [.lnk] fired t ∧ rest = []) ∧
        (s.lsc.lineState = .ending → s.wpu.stopped = true → ReturnedToReady j false fired t rest))

/-- Tier 2. RELEASE_ENTRIES removes the longest run from the oldest entry that is CLOSED with label NONE, APPLIED or MISSING
and numbered up to n, and answers with what it left (R145). A release that removes an entry lets a WAITING cut fire at the
knife where its conditions then hold (R125), and in ENDING with the web stopped the job then ends (R131), with no
STATION_LOST at a CORRECTING station and no bound on an entry's counts, the model's choices (notes/assumptions/41.md and
23.md). PRINTER_RESET makes the printer ONLINE, its rejects 0, its timer start anew and its unattached places go (R173).
REPRINT puts a label for a CLOSED ROLL or SHORT entry, MISSING or APPLIED, at the tail of the queue; NOT_FOUND without one,
BUSY with 8 labels queued (R176). A wrong printer byte is a PARAM. The reply is told from the log after the release, the
model's reading (notes/assumptions/26.md); a label's transfer count has no bound, and a timeout timer looks at its conditions
at the event's end, its choices (notes/assumptions/51.md and 46.md). Where the job ends: an abort leaves the channel's counts
of steps as they stand, a TRIGGER still high ends its 10 µs, and an abandoned read goes on under the select, the model's
choices and readings: notes/assumptions/35.md, 42.md and 19.md. -/
def Obligations.EntriesAreReleasedAndReprinted : Prop :=
  ∀ (s : State) (l : LinkId) (tag : Byte), s.mayTake l = true → s.permits l .operate false = true →
    (∀ n run rest, s.rlg.log = run ++ rest →
      let goes := fun (e : Entry) => reached n e.seq = true ∧ e.state = .closed ∧
        (e.label = .none ∨ e.label = .applied ∨ e.label = .missing)
      let reply : Reply := ⟨0xAB, tag, .done, .released run.length (rest.head?.map Entry.seq) rest.length⟩
      let released := { s with rlg := { s.rlg with log := rest } }
      (∀ e ∈ run, goes e) → (∀ e, rest.head? = some e → ¬goes e) →
      (run = [] ∨ NothingWaits s ∨ WaitsOn released → Answers (.releaseEntries l tag n) s l reply [] released) ∧
      (∀ j c, run ≠ [] → s.lsc.job = some j → s.wnd.planned = some c → c.target = .waiting → rest.length < 32 →
        (c.opens = .roll → ∃ k, Chosen s k) →
        ∃ t fired told more, exec (.releaseEntries l tag n) s = .next t ∧ Replied s t l reply (told ++ more) ∧
          CutFired j c.opens (back s.wpu.h j.dCut) none released fired told ∧
          ((s.lsc.lineState = .ending → s.wpu.stopped = false) → SameBut [.lnk] fired t ∧ more = []) ∧
          (s.lsc.lineState = .ending → s.wpu.stopped = true → ReturnedToReady j false fired t more))) ∧
    (∀ b : Byte, 1 < b.toNat → Answers (.printerReset l tag b) s l ⟨0xAF, tag, .param, .field 1⟩ [] s ∧
      ∀ n, Answers (.reprint l tag n b) s l ⟨0xAC, tag, .param, .field 2⟩ [] s) ∧
    (∀ p, let b : Byte := match p with
        | .a => 0
        | .b => 1
      (∃ t, exec (.printerReset l tag b) s = .next t ∧ SameBut [.lbc, .rlg, .lnk] s t ∧
        ChannelWorks (withPrinter s p { s.printer p with
          online := true, rejects := 0, timer := (s.printer p).timer.map fun _ => 0
          sent := (s.printer p).sent.filter Option.isSome }) t ∧
        Replied s t l ⟨0xAF, tag, .done,
          .printer true (s.readyLevel p) (t.lbc.queue.countP fun x => x.printer == p)⟩ []) ∧
      ∀ n, let may := fun (e : Entry) => e.seq = n ∧ e.state = .closed ∧ (e.kind = some .roll ∨ e.kind = some .short) ∧
          (e.label = .missing ∨ e.label = .applied)
        ((∀ e ∈ s.rlg.log, ¬may e) → Answers (.reprint l tag n b) s l ⟨0xAC, tag, .notFound, .empty⟩ [] s) ∧
        (∀ before e after j, s.lsc.job = some j → s.rlg.log = before ++ e :: after → may e → (∀ y ∈ before, ¬may y) →
          (8 ≤ s.lbc.queue.length → Answers (.reprint l tag n b) s l ⟨0xAC, tag, .busy, .empty⟩ [] s) ∧
          (s.lbc.queue.length < 8 → ∃ t, exec (.reprint l tag n b) s = .next t ∧ SameBut [.lbc, .rlg, .lnk] s t ∧
            Replied s t l ⟨0xAC, tag, .done, .queued (s.lbc.queue.length + 1)⟩ [] ∧
            let queued := withLabel s n .queued
            ChannelWorks { queued with lbc := { queued.lbc with
              queue := s.lbc.queue ++ [⟨n, p, e.roll.getD 0, recordOf j e, 0⟩] } } t)))

/-! ### Setting, tuning and engaging stations (02, 04) -/

/-- Field n of a SET_STATION is held by its kind and lies outside its range (R39, R41), on a job with repeat length L. -/
def StationFieldFails (p : List Byte) (L n : Nat) : Prop :=
  let kind := field p 1 1
  (n = 1 ∧ 7 < field p 0 1) ∨ (n = 2 ∧ 3 < kind) ∨
    (kind = 2 ∧ n = 3 ∧ (7 < field p 2 1 ∨ field p 2 1 = field p 0 1)) ∨
    (kind = 1 ∧ ((n = 4 ∧ L ≤ field p 3 2) ∨ (n = 5 ∧ 3000000 < field p 5 4) ∨ (n = 6 ∧ 8191 < field p 9 2) ∨
      (n = 7 ∧ 1000 < field p 11 2) ∨ (n = 8 ∧ (field p 13 1 < 1 ∨ 8 < field p 13 1)))) ∨
    ((kind = 1 ∨ kind = 2) ∧ ((n = 9 ∧ (field p 14 2 < 1 ∨ 4000 < field p 14 2)) ∨
      (n = 10 ∧ (field p 16 2 < 1 ∨ 30000 < field p 16 2)) ∨ (n = 11 ∧ (field p 18 2 < 1 ∨ 4096 < field p 18 2)) ∨
      (n = 12 ∧ (field p 20 2 < 100 ∨ 50000 < field p 20 2)))) ∨
    (kind = 1 ∧ ((n = 13 ∧ (field p 22 1 < 1 ∨ 15 < field p 22 1)) ∨ (n = 14 ∧ (field p 23 2 < 1 ∨ 2000 < field p 23 2))))

/-- Tier 2. SET_STATION writes the descriptor that its fields spell in READY, with trim 0, and keeps or gives the
engagement (R41); another line state is STATE, the first field out of its range PARAM. -/
def Obligations.SetStationWritesADescriptor : Prop :=
  ∀ (s : State) (l : LinkId) (tag : Byte) (p : List Byte), s.mayTake l = true → s.permits l .configure false = true →
    p.length = 25 →
    (s.lsc.lineState ≠ .ready → Answers (.setStation l tag p) s l ⟨0xC1, tag, .state, .empty⟩ [] s) ∧
    ∀ j, s.lsc.lineState = .ready → s.lsc.job = some j →
      (∀ n, StationFieldFails p j.L n → (∀ m, m < n → ¬StationFieldFails p j.L m) →
        Answers (.setStation l tag p) s l ⟨0xC1, tag, .param, .field n⟩ [] s) ∧
      (∀ i : StationId, field p 0 1 = i.val → (∀ n, ¬StationFieldFails p j.L n) →
        ∃ x, Answers (.setStation l tag p) s l ⟨0xC1, tag, .done, .empty⟩ [] (s.putStation i x) ∧ x.trim = 0 ∧
          (field p 1 1 = 0 → x.desc = .reference) ∧
          (field p 1 1 = 1 → x.desc = .resident ⟨field p 3 2, field p 5 4,
            ⟨field p 13 1, field p 9 2, field p 11 2, field p 14 2, field p 16 2, field p 18 2, field p 20 2⟩,
            field p 22 1, field p 23 2⟩) ∧
          (∀ target : StationId, field p 1 1 = 2 → field p 2 1 = target.val →
            x.desc = .indirect ⟨target, field p 14 2, field p 16 2, field p 18 2, field p 20 2⟩) ∧
          (field p 1 1 = 3 → x.desc = .invalid) ∧
          (field p 1 1 = 1 ∨ field p 1 1 = 2 → x.engaged =
            ((s.station i).engaged || (s.station i).desc == .reference || (s.station i).desc == .invalid)))

/-- Tier 2. TUNE_STATION replaces four fields of a RESIDENT descriptor (R71). STATION_ENGAGE engages a disengaged station, a
RESIDENT one SEEKING while a job runs (R70); STATION_DISENGAGE of one aborts its train and its followers' with prorating, and
the leader of an INDIRECT one leaves CORRECTING with the last train (R69): SETTLING with settle end H + settle distance + L,
or at the missing limit LOST, with STATION_ALARM and STATION_LOST (R60, R64). Every other station and channel stays.
UNCONFIGURED is STATE; a station or kind that does not fit, PARAM. That a leader disengaged in CORRECTING at its missing
limit goes straight to DISENGAGED, with no STATION_ALARM and no STATION_LOST, is the model's choice between R64 and R69:
notes/assumptions/41.md; that an abort leaves the channel's counts of steps as they stand is its reading:
notes/assumptions/35.md. -/
def Obligations.StationsAreTunedAndEngaged : Prop :=
  ∀ (s : State) (l : LinkId) (tag b : Byte) (g d : BitVec 16) (a : Byte) (tol : BitVec 16),
    s.mayTake l = true → s.permits l .operate false = true →
    let tune := Instr.tuneStation l tag b g d a tol
    let asks : List (Instr × Byte) := [(tune, 0xA7), (.stationEngage l tag b, 0xA5), (.stationDisengage l tag b, 0xA6)]
    (s.lsc.lineState = .unconfigured → ∀ c ∈ asks, Answers c.1 s l ⟨c.2, tag, .state, .empty⟩ [] s) ∧
    (s.lsc.lineState ≠ .unconfigured → 7 < b.toNat → ∀ c ∈ asks, Answers c.1 s l ⟨c.2, tag, .param, .field 1⟩ [] s) ∧
    ∀ i : StationId, s.lsc.lineState ≠ .unconfigured → b.toNat = i.val →
      let x := s.station i
      (x.desc = .reference ∨ x.desc = .invalid → ∀ c ∈ asks, Answers c.1 s l ⟨c.2, tag, .param, .field 2⟩ [] s) ∧
      (∀ e, x.desc = .indirect e → Answers tune s l ⟨0xA7, tag, .param, .field 2⟩ [] s) ∧
      (∀ e, x.desc = .resident e →
        let fails := fun (n : Nat) => (n = 6 ∧ 8191 < g.toNat) ∨ (n = 7 ∧ 1000 < d.toNat) ∨
          (n = 8 ∧ (a.toNat < 1 ∨ 8 < a.toNat)) ∨ (n = 14 ∧ (tol.toNat < 1 ∨ 2000 < tol.toNat))
        (∀ n, fails n → (∀ m, m < n → ¬fails m) → Answers tune s l ⟨0xA7, tag, .param, .field n⟩ [] s) ∧
        ((∀ n, ¬fails n) → Answers tune s l ⟨0xA7, tag, .done, .empty⟩ [] (s.putStation i { x with
          desc := .resident { e with
            tuning := { e.tuning with gain := g.toNat, deadband := d.toNat, averaging := a.toNat }
            tol := tol.toNat } }))) ∧
      (x.isResident = true ∨ x.isIndirect = true →
        (x.engaged = true → Answers (.stationEngage l tag b) s l ⟨0xA5, tag, .done, .empty⟩ [] s) ∧
        (x.engaged = false →
          Answers (.stationDisengage l tag b) s l ⟨0xA6, tag, .done, .empty⟩ [] s ∧
          Answers (.stationEngage l tag b) s l ⟨0xA5, tag, .done, .empty⟩ [] (s.putStation i
            (if s.running && x.isResident then { x with engaged := true, st := .seeking, acc := [], bad := 0 }
              else { x with engaged := true }))) ∧
        (x.engaged = true → s.running = false →
          Answers (.stationDisengage l tag b) s l ⟨0xA6, tag, .done, .empty⟩ [] (s.putStation i { x with engaged := false })) ∧
        (x.engaged = true → s.running = true → ∃ t notices, exec (.stationDisengage l tag b) s = .next t ∧
          Replied s t l ⟨0xA6, tag, .done, .empty⟩ notices ∧ SameBut [.rlp, .stg, .lsc, .emb, .lnk] s t ∧
          t.chan (channelOf i) = { s.chan (channelOf i) with inFlight := false } ∧
          (x.isResident = true → t.lsc = s.lsc ∧ t.emb = s.emb ∧ notices = [] ∧
            t.station i = { trainAborted s i with
              engaged := false, st := .disengaged, acc := [], bad := 0, settleEnd := none } ∧
            ∀ k, k ≠ i →
              (BelongsTo s i k → t.station k = trainAborted s k ∧
                t.chan (channelOf k) = { s.chan (channelOf k) with inFlight := false }) ∧
              (¬BelongsTo s i k → t.station k = s.station k ∧ t.chan (channelOf k) = s.chan (channelOf k))) ∧
          t.chan 8 = s.chan 8 ∧
          (∀ e, x.desc = .indirect e → t.station i = { trainAborted s i with engaged := false } ∧
            (∀ k, k ≠ i → k ≠ e.target → t.station k = s.station k) ∧
            (∀ k, k ≠ i → t.chan (channelOf k) = s.chan (channelOf k)) ∧
            ((s.station e.target).isResident = false → t.lsc = s.lsc ∧ t.emb = s.emb ∧ notices = [] ∧
              (e.target ≠ i → t.station e.target = s.station e.target))) ∧
          (∀ e d' j, x.desc = .indirect e → e.target ≠ i → (s.station e.target).desc = .resident d' → s.lsc.job = some j →
            let leader := s.station e.target
            (leader.st ≠ .correcting ∨ (∃ k, k ≠ i ∧ BelongsTo s e.target k ∧ (s.chan (channelOf k)).inFlight = true) →
              t.station e.target = leader ∧ t.lsc = s.lsc ∧ t.emb = s.emb ∧ notices = []) ∧
            (leader.st = .correcting → (s.chan (channelOf i)).inFlight = true →
              (∀ k, k ≠ i → BelongsTo s e.target k → (s.chan (channelOf k)).inFlight = false) →
              (leader.bad < d'.missLimit → t.lsc = s.lsc ∧ t.emb = s.emb ∧ notices = [] ∧
                t.station e.target = { leader with
                  st := .settling, settleEnd := some (fwd s.wpu.h (d'.settle + j.L)) }) ∧
              (d'.missLimit ≤ leader.bad → t.lsc = (s.raiseCause .stationLost).lsc ∧
                t.emb = (s.raiseCause .stationLost).emb ∧
                notices = .stationAlarm e.target :: causeTold s .stationLost ∧
                t.station e.target = { leader with st := .lost, acc := [], settleEnd := none })))))

/-! ### Loading and starting a job (02, 11) -/

/-- The value of a LOAD_JOB's field n, for n of 4 to 80, where 12.8 lays it (R180, R199). -/
def jobValue (p : List Byte) (n : Nat) : Nat :=
  match n with
  | 4 => field p 24 4 | 5 => field p 28 2 | 6 => field p 30 1 | 7 => field p 31 4 | 8 => field p 35 2
  | 9 => field p 37 2 | 10 => field p 39 2 | 11 => field p 41 1 | 12 => field p 42 1 | 13 => field p 43 1
  | 14 => field p 44 1 | 15 => field p 45 1 | 16 => field p 46 1 | 17 => field p 47 1 | 18 => field p 48 1
  | 19 => field p 49 1 | 20 => field p 50 1 | 21 => field p 51 1 | 22 => field p 52 1 | 23 => field p 53 1
  | 24 => field p 54 1 | 25 => field p 55 1 | 26 => field p 56 1 | 27 => field p 57 1 | 28 => field p 58 4
  | 29 => field p 62 4 | 30 => field p 66 4 | 31 => field p 70 4 | 32 => field p 74 4 | 33 => field p 78 1
  | 34 => field p 79 1 | 35 => field p 80 1 | 36 => field p 81 4 | 37 => field p 85 2 | 38 => field p 87 2
  | 39 => field p 89 1 | 40 => field p 90 2 | 41 => field p 92 2 | 42 => field p 94 2 | 43 => field p 96 2
  | 44 => field p 98 2 | 45 => field p 100 2 | 46 => field p 102 1 | 47 => field p 103 2 | 48 => field p 105 2
  | 49 => field p 107 4 | 50 => field p 111 4 | 51 => field p 115 1 | 52 => field p 116 4 | 53 => field p 120 2
  | 54 => field p 122 1 | 55 => field p 123 1 | 56 => field p 124 1 | 57 => field p 125 2 | 58 => field p 127 2
  | 59 => field p 129 1 | 60 => field p 130 2 | 61 => field p 132 2 | 62 => field p 134 1 | 63 => field p 135 2
  | 64 => field p 137 4 | 65 => field p 141 1 | 66 => field p 142 2 | 67 => field p 144 4 | 68 => field p 148 2
  | 69 => field p 150 4 | 70 => field p 154 1 | 71 => field p 155 4 | 72 => field p 159 2 | 73 => field p 161 1
  | 74 => field p 162 1 | 75 => field p 163 1 | 76 => field p 164 2 | 77 => field p 166 2 | 78 => field p 168 2
  | 79 => field p 170 2 | 80 => field p 172 1 | _ => 0

/-- A value lies outside a range. -/
def outOf (lo hi x : Nat) : Prop := x < lo ∨ hi < x

/-- Field n of a LOAD_JOB lies outside its range or breaks the constraint beside it (R180). Fields 12 to 27 are the four
gates, four fields each: yes or no, two bytes, a role of three. -/
def JobFieldFails (p : List Byte) (n : Nat) : Prop :=
  let f := jobValue p
  match n with
  | 1 => ∃ b ∈ slice p 0 8, outOf 0x20 0x7E b.toNat | 2 => ∃ b ∈ slice p 8 4, outOf 0x20 0x7E b.toNat
  | 3 => ∃ b ∈ slice p 12 12, outOf 0x20 0x7E b.toNat | 4 => outOf 1 999999999 (f 4) | 5 => outOf 2000 65000 (f 5)
  | 6 => 1 < f 6 ∨ (f 6 = 1 ∧ f 5 % 2 = 1) | 7 => outOf 10000 300000 (f 7) | 8 => 511 < f 8
  | 9 => outOf 10 (f 5 / 8) (f 9) | 10 => outOf 10 2000 (f 10) | 11 => outOf 1 8 (f 11) | 28 => 3000000 < f 28
  | 29 => 3000000 < f 29 | 30 => outOf (f 5) 3000000 (f 30) ∨ 254 * f 5 < f 30 ∨ f 30 ≤ f 29 | 31 => 3000000 < f 31
  | 32 => 3000000 < f 32 | 33 => 1 < f 33 | 34 => outOf 1 4 (f 34) | 35 => f 34 ≤ f 35 | 36 => f 34 * f 5 ≤ f 36
  | 37 => outOf 10 16000 (f 37) | 38 => outOf 1 4000 (f 38) | 39 => outOf 1 8 (f 39) | 40 => 8191 < f 40
  | 41 => 1000 < f 41 | 42 => outOf 1 4000 (f 42) | 43 => outOf 1 30000 (f 43) | 44 => outOf 1 4096 (f 44)
  | 45 => outOf 100 50000 (f 45) | 46 => outOf 1 8 (f 46) | 47 => outOf 50 2000 (f 47) | 48 => outOf 50 2000 (f 48)
  | 49 => 500000 < f 49 | 50 => 500000 < f 50 | 51 => 1 < f 51 | 52 => f 7 < f 52 | 53 => 1023 < f 53
  | 54 => 255 < f 54 | 55 => f 55 ≠ 1 ∧ f 55 ≠ 4 ∧ f 55 ≠ 16 | 56 => outOf 1 64 (f 56)
  | 57 => f 5 ≤ f 57 ∨ f 30 ≤ f 28 + f 57 | 58 => outOf 200 20000 (f 58) | 59 => outOf 1 100 (f 59)
  | 60 => outOf 100 (f 5) (f 60) | 61 => outOf 1 1000 (f 61) | 62 => outOf 50 100 (f 62) | 63 => outOf 1 65535 (f 63)
  | 64 => outOf 100000 10000000 (f 64) | 65 => 1 < f 65 | 66 => f 5 ≤ f 66 | 67 => outOf 10000 (f 64) (f 67)
  | 68 => outOf 200 5000 (f 68) ∨ f 67 ≤ f 7 * f 68 / 1000 | 69 => 2000000 < f 69 | 70 => 1 < f 70
  | 71 => 500000 < f 71 | 72 => 1023 < f 72 | 73 => 50 < f 73 | 74 => 255 < f 74
  | 75 => f 75 ≠ 1 ∧ f 75 ≠ 4 ∧ f 75 ≠ 16 | 76 => 65535 < f 76 | 77 => 65535 < f 77 | 78 => 65535 < f 78
  | 79 => 65535 < f 79 | 80 => 1 < f 80
  | 12 | 16 | 20 | 24 => 1 < f n
  | 13 | 17 | 21 | 25 | 14 | 18 | 22 | 26 => 255 < f n
  | 15 | 19 | 23 | 27 => 2 < f n
  | _ => False

/-- The gate whose fields begin at field n of a LOAD_JOB. -/
def gateSpelled (p : List Byte) (n : Nat) : Gate :=
  { enabled := decide (jobValue p n = 1), base := BitVec.ofNat 8 (jobValue p (n + 1)),
    mask := BitVec.ofNat 8 (jobValue p (n + 2)),
    role := if jobValue p (n + 3) = 0 then .ref else if jobValue p (n + 3) = 1 then .marks else .both }

/-- The job record that a LOAD_JOB spells, field by field (R180); HOST is in its hold mask whatever field 8 names. -/
def jobSpelled (p : List Byte) : Job :=
  let f := jobValue p
  { design := slice p 0 8, colourway := slice p 8 4, lotText := slice p 12 12, firstRoll := f 4, L := f 5,
    matchType := if f 6 = 0 then .straight else .drop, vMax := f 7,
    mask := {
      encoder := (f 8).testBit 0, overspeed := (f 8).testBit 1, refLost := (f 8).testBit 2
      stationLost := (f 8).testBit 3, overlength := (f 8).testBit 4, eventLost := (f 8).testBit 5
      headOffline := (f 8).testBit 6, printerOffline := (f 8).testBit 7, host := true },
    wRef := f 9, wMark := f 10, refMissLimit := f 11,
    gates := #v[gateSpelled p 12, gateSpelled p 16, gateSpelled p 20, gateSpelled p 24],
    dSh := f 28, dEm := f 29, dCut := f 30, uSpl := f 31, uDef := f 32, embossOn := decide (f 33 = 1), k := f 34,
    phaseSelect := f 35, oEm := f 36, wEm := f 37, tolEm := f 38,
    emboss := ⟨f 39, f 40, f 41, f 42, f 43, f 44, f 45⟩,
    embossMissLimit := f 46, engageMs := f 47, liftMs := f 48, lead := f 49, trail := f 50,
    liftOnDefect := decide (f 51 = 1), vMinEmboss := f 52, pressure := f 53, pressurePeriod := f 54,
    pressurePrescale := f 55, sampleInterval := f 56, oSh := f 57, acquisitionUs := f 58, headTimeoutMs := f 59,
    spanLimit := f 60, tolB := f 61, warn := f 62, rollsPerBatch := f 63, lt := f 64,
    cutMode := if f 65 = 0 then .length else .matched, cutOffset := f 66, minRoll := f 67, transferMs := f 68,
    maxOver := f 69, splicePolicy := if f 70 = 0 then .mark else .remove, clearance := f 71, d0 := f 72,
    taper := f 73, torquePeriod := f 74, torquePrescale := f 75, rejReg := f 76, bReg := f 77, bUnknown := f 78,
    rejEmb := f 79, rejectOnSplice := decide (f 80 = 1) }

/-- Tier 2. LOAD_JOB in UNCONFIGURED and READY puts its record in force when every field passes: READY, every descriptor
INVALID and ENGAGED with nothing kept (R74; SEEKING in an INVALID station is the model's: notes/assumptions/7.md), the record's
gates with the scanner else as between jobs (R26), the roll number and torque values, the nip LIFTED and every emboss item at
its LOAD_JOB value, the host-lift hold kept (R76, R96), the OPEN batches at the new limit CLOSED, the
line batch among them made absent, at the Shade Unit too (R155, R157, R180, R181), with LINE_STATE where the state changes
(R189) and BATCH_CHANGED where a batch closes (R158); the fields are where 12.8 lays them, the prescales of fields 55 and
75 as the numbers 1, 4 and 16 and not as codes, which is the model's reading (notes/assumptions/10.md). The first failing
field is a PARAM; another line state is STATE. -/
def Obligations.LoadJobPutsAJobInForce : Prop :=
  ∀ (s : State) (l : LinkId) (tag : Byte) (p : List Byte), s.mayTake l = true → s.permits l .configure false = true →
    p.length = 173 →
    let j := jobSpelled p
    let free := s.lsc.lineState = .unconfigured ∨ s.lsc.lineState = .ready
    let closes := fun (i : Fin 32) => ∃ x, s.bat.entries[i].batch = some x ∧ x.isOpen = true ∧ j.rollsPerBatch ≤ x.count
    (¬free → Answers (.loadJob l tag p) s l ⟨0xC0, tag, .state, .empty⟩ [] s) ∧
    (∀ n, free → JobFieldFails p n → (∀ m, m < n → ¬JobFieldFails p m) →
      Answers (.loadJob l tag p) s l ⟨0xC0, tag, .param, .field n⟩ [] s) ∧
    (free → (∀ n, ¬JobFieldFails p n) → ∃ t notices, exec (.loadJob l tag p) s = .next t ∧
      Replied s t l ⟨0xC0, tag, .done, .empty⟩ notices ∧
      (∀ n, n ∈ notices ↔ (n = .lineState ∧ s.lsc.lineState = .unconfigured) ∨ (n = .batchChanged ∧ ∃ i, closes i)) ∧
      SameBut [.lsc, .rlp, .msc, .rlg, .emb, .wnd, .bat, .shu, .lnk] s t ∧
      t.lsc = { s.lsc with job := some j, holdMask := some j.mask, lineState := .ready } ∧
      (∀ i : StationId, t.station i =
        { desc := .invalid, engaged := true, st := .seeking, acc := [], bad := 0, settleEnd := none, trim := 0, train := none,
          lastC := none, flags := {}, lastOutcome := none }) ∧
      t.msc = { s.msc with
        gates := j.gates, refState := .seeking, origin := none, prevEdge := none, missCount := 0, nextIndex := 0
        capture := none, closings := [] } ∧
      t.rlg = { s.rlg with nextRoll := j.firstRoll } ∧
      t.emb = { s.emb with
        nip := .lifted, nipTime := none, closedSince := none, zoneActive := false, release := none, heldOpen := false
        windows := [], reg := .seeking, missCount := 0, phase := .idle, acc := [], trim := 0, train := none, lastC := none
        flags := {}, lateCount := 0, lastLate := none, lastSample := none
        pwm := { s.emb.pwm with
          setDuty := 0, duty := 0, nextPeriod := j.pressurePeriod, nextPrescale := j.pressurePrescale } } ∧
      t.wnd = { s.wnd with pwm := { s.wnd.pwm with nextPeriod := j.torquePeriod, nextPrescale := j.torquePrescale } } ∧
      t.bat = { s.bat with entries := t.bat.entries, lineBatch := t.bat.lineBatch } ∧
      (∀ i, s.bat.lineBatch = some i → closes i → t.bat.lineBatch = none ∧ t.shu = shadeTold s.shu none) ∧
      (∀ i, s.bat.lineBatch = some i → ¬closes i → t.bat.lineBatch = some i ∧ t.shu = s.shu) ∧
      (s.bat.lineBatch = none → t.bat.lineBatch = none ∧ (s.shu.lineBatch = none → t.shu = s.shu)) ∧
      (∀ i : Fin 32, t.bat.entries[i] = match s.bat.entries[i].batch with
        | some x => if x.isOpen = true ∧ j.rollsPerBatch ≤ x.count then
            { s.bat.entries[i] with batch := some { x with isOpen := false }, changed := true } else s.bat.entries[i]
        | none => s.bat.entries[i]))

/-- Station check n of START fails and names station k (R42): 1 for the REFERENCE station, 2 for targets, 3 for windows
within the repeat, 4 for offsets that lie apart. -/
def StationCheckFails (s : State) (j : Job) (n k : Nat) : Prop :=
  let reference := fun (i : StationId) => (s.station i).desc = .reference
  let orphan := fun (i : StationId) => ∃ d, (s.station i).desc = .indirect d ∧ (s.station d.target).isResident = false
  let outside := fun (i : StationId) => ∃ d, (s.station i).desc = .resident d ∧
    ¬(j.wRef + 2 * j.wMark < d.offset ∧ d.offset + 2 * j.wMark + j.wRef < j.L)
  let close := fun (i i' : StationId) => i < i' ∧ ∃ d d', (s.station i).desc = .resident d ∧
    (s.station i').desc = .resident d' ∧ d.offset ≤ d'.offset + 2 * j.wMark ∧ d'.offset ≤ d.offset + 2 * j.wMark
  (n = 1 ∧ k = 255 ∧ ∀ i, ¬reference i) ∨
    (n = 1 ∧ ∃ i i', i < i' ∧ k = i'.val ∧ reference i ∧ reference i' ∧ ∀ m, m < i' → m ≠ i → ¬reference m) ∨
    (n = 2 ∧ ∃ i, k = i.val ∧ orphan i ∧ ∀ m, m < i → ¬orphan m) ∨
    (n = 3 ∧ ∃ i, k = i.val ∧ outside i ∧ ∀ m, m < i → ¬outside m) ∨
    (n = 4 ∧ ∃ i i', k = i'.val ∧ close i i' ∧ (∀ m m', m < i → ¬close m m') ∧ ∀ m, m < i' → ¬close i m)

/-- Tier 2. START in READY: the first failing station check is a PARAM (R42), a full roll log BUSY (R118); else the blocks
take their START values (R43, R74, R96, R99, R114), the nip kept and its conditions evaluated, which may engage it (R96), the
lead-in opens at the knife with its cut planned (R118), LOG_SPACE is raised where the log then holds 28 entries or more
(R147), an active defect line opens a DEFECT (R17; no event stands in READY: RestLaw), which may be due to lift the nip at
once (R79, R81), and the line is RUN with run-permit, or what the four conditions examined make of it (R182); the reply tells
the line state and the latched causes. Another line state is STATE. The order of the parts of a START, and that what is due
at the DEFECT's arrival happens in it, are the model's readings: notes/assumptions/13.md and 24.md. -/
def Obligations.StartChecksAndStartsARun : Prop :=
  ∀ (s : State) (l : LinkId) (tag : Byte), s.mayTake l = true → s.permits l .operate false = true →
    (s.lsc.lineState ≠ .ready → Answers (.start l tag) s l ⟨0xA0, tag, .state, .empty⟩ [] s) ∧
    ∀ j, s.lsc.lineState = .ready → s.lsc.job = some j →
      (∀ n k, StationCheckFails s j n k → (∀ m k', m < n → ¬StationCheckFails s j m k') →
        Answers (.start l tag) s l ⟨0xA0, tag, .param, .check n k⟩ [] s) ∧
      ((∀ n k, ¬StationCheckFails s j n k) → 32 ≤ s.rlg.log.length →
        Answers (.start l tag) s l ⟨0xA0, tag, .busy, .empty⟩ [] s) ∧
      ((∀ n k, ¬StationCheckFails s j n k) → s.rlg.log.length < 32 → (s.pins.defectLine = true → s.trk.events = []) →
        let start := back s.wpu.h j.dCut
        ∃ t notices, exec (.start l tag) s = .next t ∧
          Replied s t l ⟨0xA0, tag, .done, .started t.lsc.lineState t.lsc.latched⟩ notices ∧
          SameBut [.wpu, .trk, .msc, .rlp, .emb, .shu, .wnd, .rlg, .bat, .lsc, .lnk] s t ∧
          (∃ (u v : State) (told : List Notice),
            SameBut [.wpu, .msc, .rlp, .emb, .shu, .wnd, .rlg, .bat, .lsc, .lnk] s u ∧ u.wpu = { s.wpu with faultCount := 0 } ∧
            u.lsc = { s.lsc with lineState := .run, runPermit := true } ∧
            u.emb = evaluated j (j.embossOn && !s.trk.eventLost && decide (j.vMinEmboss ≤ s.wpu.v)) { s.emb with
              hostLift := false, zoneActive := false, release := none, heldOpen := false
              closedSince := if s.emb.nip = .closed then s.emb.closedSince else none
              windows := [], reg := .seeking, missCount := 0, phase := .idle, acc := [], trim := 0, train := none
              lastC := none, flags := {}, lateCount := 0, lastLate := none, lastSample := none } ∧
            OccasionTaken j u v told ∧ SameBut [.lsc, .emb, .lnk] v t ∧
            t.emb = (if t.lsc.lineState = .hold then evaluated j false v.emb else v.emb) ∧
            ∀ n, n ∈ notices ↔ n = .lineState ∨ (n = .logSpace ∧ 28 ≤ s.rlg.log.length + 1) ∨ n ∈ told) ∧
          t.wpu = { s.wpu with faultCount := 0 } ∧
          (∀ i : StationId, let x := s.station i
            t.station i = if (x.isResident || x.isIndirect) = true then { x with
                st := if x.isResident then (if x.engaged then .seeking else .disengaged) else x.st
                trim := 0, acc := [], bad := 0, settleEnd := none, train := none, lastC := none, flags := {}
                lastOutcome := none }
              else x) ∧
          (t.msc = { s.msc with
              refState := .seeking, origin := none, prevEdge := none, missCount := 0, nextIndex := 0, capture := none
              closings := [], offsets := t.msc.offsets, oMax := t.msc.oMax } ∧
            (∀ i : StationId, (∀ d, (s.station i).desc = .resident d → t.msc.offsets[i] = some d.offset) ∧
              ((s.station i).isResident = false → t.msc.offsets[i] = none)) ∧
            (∀ (i : StationId) d, (s.station i).desc = .resident d → d.offset ≤ t.msc.oMax) ∧
            (t.msc.oMax = 0 ∨ ∃ (i : StationId) (d : _), (s.station i).desc = .resident d ∧ d.offset = t.msc.oMax)) ∧
          t.shu = { s.shu with
            meas := none, starts := [], clampL := false, clampA := false, clampB := false, lastReading := none, drift := []
            lineBatch := none, lastDrift := none, counts := {} } ∧
          t.bat = { s.bat with lineBatch := none, overflows := 0 } ∧
          (∃ e, t.rlg = { s.rlg with log := s.rlg.log ++ [e], nextSeq := s.rlg.nextSeq + 1 } ∧
            (e.seq, e.state, e.role, e.start, e.stop) = (s.rlg.nextSeq, .opened, .leadIn, start, none) ∧ e.spindle = none ∧
            (e.repeats, e.splices, e.defects, e.operators, e.readings) = (0, 0, 0, 0, 0) ∧
            e.flags = { eventLost := s.trk.eventLost } ∧ e.label = .none) ∧
          (let earliest := fwd start (j.vMax * j.transferMs / 1000)
           t.wnd = { s.wnd with
            active := some ⟨s.rlg.nextSeq, start, .leadIn, none⟩, divert := true, lastCut := some start, eMin := some earliest
            planned := some ⟨if j.cutMode = .length then .known earliest none else .fromFloor earliest, .roll, false⟩
            plan := none, search := none, points := [], lastWinding := none, refusals := 0, lastRefusal := none
            overlaps := 0, overlength := false, torqueMark := 0, pwm := { s.wnd.pwm with setDuty := 0, duty := 0 } }) ∧
          (∀ u : State, u.lsc = { s.lsc with lineState := .run, runPermit := true } →
            t.lsc = (([.encoder, .overspeed, .headOffline, .printerOffline].filter (conditionsOf s).has).foldl
              State.raiseCause u).lsc))

/-! ### Holding, resuming, ending and aborting (11) -/

/-- Tier 2. HOLD in RUN latches HOST and drops run-permit, and the nip may no longer be closed (R77, R184). RESUME in HOLD
keeps the causes whose condition is present, HOST never, and returns to RUN when none is left, the nip then evaluated (R77,
R185). END_JOB in RUN and HOLD makes the line ENDING and the planned cut the tail's, a cut1 that is not FIXED still searched
for and the rest of the plan dropped, or the active segment the tail (R130, R186); with the web stopped the job ends at once
(R131). ABORT_JOB ends it in RUN, HOLD and ENDING (R132, R187). At the end the active entry is ended at the knife, ABORTED by
ABORT_JOB, the records before the knife are folded, LIFTED where not past the nip (R92), every ended entry is CLOSED, and a
ROLL's spindle is FULL, knife and turret pulsed, and every block takes its column of the return: trains aborted with prorated
trims, stations and emboss unit in their starting states, the head IDLE (R26, R55, R68, R73, R74, R90, R96, R112, R114).
Elsewhere each is STATE (R179). That of a dropped plan only the limit of a CANDIDATE or SEEKING cut1 is kept is the model's
reading (notes/assumptions/15.md); that the return to READY takes a CORRECTING station at its missing limit straight to its
starting state, with no STATION_LOST raised, and that an entry's counts have no bound, are its choices
(notes/assumptions/41.md and 23.md). That the tail made of a segment that is no ROLL keeps its log entry's role is its
reading (notes/assumptions/16.md). An abort leaves the channel's counts of steps as they stand, a TRIGGER still high ends its
10 µs, and an abandoned read goes on under the select, the model's choices and readings: notes/assumptions/35.md, 42.md and
19.md. -/
def Obligations.LineRequestsMoveTheLineState : Prop :=
  ∀ (s : State) (l : LinkId) (tag : Byte), s.mayTake l = true → s.permits l .operate false = true →
    (s.lsc.lineState ≠ .run → Answers (.hold l tag) s l ⟨0xA1, tag, .state, .empty⟩ [] s) ∧
    (s.lsc.lineState = .run → (∃ m, s.lsc.holdMask = some m ∧ m.host = true) →
      ∃ t, exec (.hold l tag) s = .next t ∧ SameBut [.lsc, .emb, .lnk] s t ∧
        Replied s t l ⟨0xA1, tag, .done, .causes { s.lsc.latched with host := true }⟩ [.lineState] ∧
        t.lsc = { s.lsc with lineState := .hold, latched := { s.lsc.latched with host := true }, runPermit := false } ∧
        ∀ j, s.lsc.job = some j → t.emb = evaluated j false s.emb) ∧
    (s.lsc.lineState ≠ .hold → ∃ body, Answers (.resume l tag) s l ⟨0xA2, tag, .state, body⟩ [] s) ∧
    (s.lsc.lineState = .hold →
      let was := s.lsc.latched
      let kept : Causes :=
        { encoder := was.encoder && s.wpu.encoderCond
          overspeed := was.overspeed && s.wpu.overspeedCond
          refLost := was.refLost && s.msc.refState == .lost
          stationLost := was.stationLost && (conditionsOf s).stationLost
          overlength := was.overlength && s.wnd.overlength
          eventLost := was.eventLost && s.trk.eventLost
          headOffline := was.headOffline && s.shu.head == .offline
          printerOffline := was.printerOffline && (!s.lbc.printerA.online || !s.lbc.printerB.online)
          host := false }
      (kept ≠ {} → Answers (.resume l tag) s l ⟨0xA2, tag, .state, .causes kept⟩ []
        { s with lsc := { s.lsc with latched := kept } }) ∧
      (kept = {} → ∃ t, exec (.resume l tag) s = .next t ∧ SameBut [.lsc, .emb, .lnk] s t ∧
        Replied s t l ⟨0xA2, tag, .done, .empty⟩ [.lineState] ∧
        t.lsc = { s.lsc with lineState := .run, latched := {}, runPermit := true } ∧
        ∀ j, s.lsc.job = some j → t.emb = evaluated j (ClosePermitted t j s.emb) s.emb)) ∧
    (s.lsc.lineState ≠ .run → s.lsc.lineState ≠ .hold →
      Answers (.endJob l tag) s l ⟨0xA3, tag, .state, .empty⟩ [] s) ∧
    (∀ j g, s.lsc.lineState = .run ∨ s.lsc.lineState = .hold → s.lsc.job = some j → s.wnd.active = some g →
      (s.wpu.stopped = false → ∃ t, exec (.endJob l tag) s = .next t ∧ SameBut [.lsc, .emb, .wnd, .lnk] s t ∧
        Replied s t l ⟨0xA3, tag, .done, .empty⟩ [.lineState] ∧ t.emb = evaluated j false s.emb ∧
        (g.role = .roll → t.lsc = { s.lsc with lineState := .ending } ∧ t.wnd = { s.wnd with
          planned := s.wnd.planned.map fun c => { c with opens := .tail }, plan := none
          search := match s.wnd.plan with
            | some ⟨limit, _, .candidate _ _, _⟩ | some ⟨limit, _, .seeking, _⟩ => some limit
            | _ => none }) ∧
        (g.role ≠ .roll → t.lsc = { s.lsc with lineState := .ending, runPermit := false } ∧
          t.wnd = { s.wnd with
            active := some { g with role := .tail }, planned := none, plan := none })) ∧
      (s.wpu.stopped = true → ∃ t notices, exec (.endJob l tag) s = .next t ∧ ReturnedToReady j false s t notices ∧
        Replied s t l ⟨0xA3, tag, .done, .empty⟩ notices ∧
        SameBut [.trk, .msc, .rlp, .stg, .emb, .shu, .wnd, .rlg, .bat, .lbc, .lsc, .lnk] s t)) ∧
    (s.running = false → Answers (.abortJob l tag) s l ⟨0xA4, tag, .state, .empty⟩ [] s) ∧
    (∀ j, s.running = true → s.lsc.job = some j → ∃ t notices, exec (.abortJob l tag) s = .next t ∧
      ReturnedToReady j true s t notices ∧ Replied s t l ⟨0xA4, tag, .done, .empty⟩ notices ∧
      SameBut [.trk, .msc, .rlp, .stg, .emb, .shu, .wnd, .rlg, .bat, .lbc, .lsc, .lnk] s t)

/-! ### Requests on the batch table (09) -/

/-- The entry at index i is the first that holds the code. -/
def HoldsCode (s : State) (code : Nat) (i : Fin 32) : Prop :=
  (∃ x, s.bat.entries[i].batch = some x ∧ x.code = code) ∧
    ∀ k : Fin 32, k < i → ∀ x, s.bat.entries[k].batch = some x → x.code ≠ code

/-- The state with a batch entry written and the line batch reported to the Shade Unit, which empties its drift window
when the report differs from what it holds (R109, R157). -/
def batchWritten (s : State) (i : Fin 32) (e : BatchEntry) (lineBatch : Option (Fin 32)) (report : Option LineBatch) : State :=
  { s with
    bat := { s.bat with entries := s.bat.entries.set i e, lineBatch := lineBatch }
    shu := if s.bat.lineBatch = some i ∧ s.shu.lineBatch ≠ report then { s.shu with lineBatch := report, drift := [] }
      else s.shu }

/-- Tier 2. CLOSE_BATCH closes the OPEN entry that holds the code and leaves a CLOSED one; NOT_FOUND without one (R159).
PIN_BATCH writes the holder of the code, else the first FREE entry: OPEN, pinned, with the reference given; BUSY without one
(R160). PURGE_BATCHES frees the CLOSED entries of a range, pinned ones only when they are included (R161). The line batch
reports its closing and its new reference (R157), and the drift window is emptied where the reported code or reference
differs from what the Shade Unit holds (R109): that it compares with what it holds, where R160 compares with the entry's own
reference, is the model's choice, notes/assumptions/31.md. SET_BATCH_CODE sets the next code in READY, and in another line
state is STATE (R164). A field out of range is a PARAM. -/
def Obligations.BatchRequestsChangeTheTable : Prop :=
  ∀ (s : State) (l : LinkId) (tag : Byte), s.mayTake l = true →
    (∀ code : BitVec 16, s.permits l .operate false = true →
      (code.toNat < 1 ∨ 9999 < code.toNat → Answers (.closeBatch l tag code) s l ⟨0xAD, tag, .param, .field 1⟩ [] s) ∧
      (1 ≤ code.toNat → code.toNat ≤ 9999 →
        ((∀ i, ¬HoldsCode s code.toNat i) → Answers (.closeBatch l tag code) s l ⟨0xAD, tag, .notFound, .empty⟩ [] s) ∧
        (∀ i x, HoldsCode s code.toNat i → s.bat.entries[i].batch = some x →
          (x.isOpen = false → Answers (.closeBatch l tag code) s l ⟨0xAD, tag, .done, .batchClosed i.val false⟩ [] s) ∧
          (x.isOpen = true → Answers (.closeBatch l tag code) s l ⟨0xAD, tag, .done, .batchClosed i.val false⟩ []
            (batchWritten s i { s.bat.entries[i] with batch := some { x with isOpen := false }, changed := true }
              (if s.bat.lineBatch = some i then none else s.bat.lineBatch) none))))) ∧
    (∀ code x y z : BitVec 16, s.permits l .configure false = true →
      let fails := fun (n : Nat) => (n = 1 ∧ (code.toNat < 1 ∨ 9999 < code.toNat)) ∨
        (n = 2 ∧ (x.toInt < 0 ∨ 10000 < x.toInt)) ∨ (n = 3 ∧ (y.toInt < -12800 ∨ 12700 < y.toInt)) ∨
        (n = 4 ∧ (z.toInt < -12800 ∨ 12700 < z.toInt))
      let free := fun (i : Fin 32) => s.bat.entries[i].batch = none
      (∀ n, fails n → (∀ m, m < n → ¬fails m) →
        Answers (.pinBatch l tag code x y z) s l ⟨0xC2, tag, .param, .field n⟩ [] s) ∧
      ((∀ n, ¬fails n) →
        ((∀ i, ¬HoldsCode s code.toNat i ∧ ¬free i) →
          Answers (.pinBatch l tag code x y z) s l ⟨0xC2, tag, .busy, .empty⟩ [] s) ∧
        (∀ i, (HoldsCode s code.toNat i ∨ ((∀ k, ¬HoldsCode s code.toNat k) ∧ free i ∧ ∀ k, k < i → ¬free k)) →
          let count := match s.bat.entries[i].batch with
            | some b => if b.isOpen then b.count else 0
            | none => 0
          let ref : Shade := ⟨x.toInt, y.toInt, z.toInt⟩
          Answers (.pinBatch l tag code x y z) s l ⟨0xC2, tag, .done, .pinned i.val count⟩ []
            (batchWritten s i { s.bat.entries[i] with batch := some ⟨true, code.toNat, ref, count, true⟩, changed := true }
              s.bat.lineBatch (some ⟨code.toNat, ref⟩))))) ∧
    (∀ first last pinned : Byte, s.permits l .configure false = true →
      let fails := fun (n : Nat) => (n = 1 ∧ 31 < first.toNat) ∨
        (n = 2 ∧ (31 < last.toNat ∨ last.toNat < first.toNat)) ∨ (n = 3 ∧ 1 < pinned.toNat)
      (∀ n, fails n → (∀ m, m < n → ¬fails m) →
        Answers (.purgeBatches l tag first last pinned) s l ⟨0xC3, tag, .param, .field n⟩ [] s) ∧
      ((∀ n, ¬fails n) → ∃ entries : Vector BatchEntry 32, ∃ freed freeNow,
        Answers (.purgeBatches l tag first last pinned) s l ⟨0xC3, tag, .done, .purged freed freeNow⟩ []
          { s with bat := { s.bat with entries := entries } } ∧
        freeNow = entries.toList.countP (fun e => e.batch.isNone) ∧
        freeNow = freed + s.bat.entries.toList.countP (fun e => e.batch.isNone) ∧
        (∀ i : Fin 32, (first.toNat ≤ i.val ∧ i.val ≤ last.toNat ∧
            ∃ b, s.bat.entries[i].batch = some b ∧ b.isOpen = false ∧ (b.pinned = false ∨ pinned = 1)) →
          entries[i] = { s.bat.entries[i] with batch := none, changed := true }) ∧
        (∀ i : Fin 32, ¬(first.toNat ≤ i.val ∧ i.val ≤ last.toNat ∧
            ∃ b, s.bat.entries[i].batch = some b ∧ b.isOpen = false ∧ (b.pinned = false ∨ pinned = 1)) →
          entries[i] = s.bat.entries[i]))) ∧
    (∀ code : BitVec 16, s.permits l .configure false = true →
      (s.lsc.lineState ≠ .ready → Answers (.setBatchCode l tag code) s l ⟨0xC4, tag, .state, .empty⟩ [] s) ∧
      (s.lsc.lineState = .ready → code.toNat < 1 ∨ 9999 < code.toNat →
        Answers (.setBatchCode l tag code) s l ⟨0xC4, tag, .param, .field 1⟩ [] s) ∧
      (s.lsc.lineState = .ready → 1 ≤ code.toNat → code.toNat ≤ 9999 →
        Answers (.setBatchCode l tag code) s l ⟨0xC4, tag, .done, .nextCode code.toNat⟩ []
          { s with bat := { s.bat with nextCode := code.toNat } }))
end

