-- ==== Sys2Proof/Laws/Frame.lean ====
section
/-! SUPPORT. Frames: how SameBut composes, what the arbiter leaves alone, and Affects, the frame of an operation that
changes some blocks and raises notices. -/

namespace Sys2Proof.Machine

-- one proof at a time: the joined package would else open a thread for each of them
set_option Elab.async false

/-! ### SameBut -/

theorem SameBut.refl (bs : List Block) (s : State) : SameBut bs s s := by
  intro b _
  cases b <;> rfl

theorem SameBut.trans {bs : List Block} {s t u : State} (h : SameBut bs s t) (k : SameBut bs t u) : SameBut bs s u := by
  intro b hb
  have h1 := h b hb
  have h2 := k b hb
  cases b <;> exact Eq.trans h2 h1

theorem SameBut.mono {bs cs : List Block} {s t : State} (h : SameBut bs s t) (sub : ∀ b ∈ bs, b ∈ cs) :
    SameBut cs s t := fun b hb => h b fun hm => hb (sub b hm)

theorem SameBut.pins {bs : List Block} {s t : State} (h : SameBut bs s t) (n : .pins ∉ bs) : t.pins = s.pins := h _ n
theorem SameBut.wpu {bs : List Block} {s t : State} (h : SameBut bs s t) (n : .wpu ∉ bs) : t.wpu = s.wpu := h _ n
theorem SameBut.trk {bs : List Block} {s t : State} (h : SameBut bs s t) (n : .trk ∉ bs) : t.trk = s.trk := h _ n
theorem SameBut.msc {bs : List Block} {s t : State} (h : SameBut bs s t) (n : .msc ∉ bs) : t.msc = s.msc := h _ n
theorem SameBut.rlp {bs : List Block} {s t : State} (h : SameBut bs s t) (n : .rlp ∉ bs) : t.rlp = s.rlp := h _ n
theorem SameBut.stg {bs : List Block} {s t : State} (h : SameBut bs s t) (n : .stg ∉ bs) : t.stg = s.stg := h _ n
theorem SameBut.emb {bs : List Block} {s t : State} (h : SameBut bs s t) (n : .emb ∉ bs) : t.emb = s.emb := h _ n
theorem SameBut.shu {bs : List Block} {s t : State} (h : SameBut bs s t) (n : .shu ∉ bs) : t.shu = s.shu := h _ n
theorem SameBut.wnd {bs : List Block} {s t : State} (h : SameBut bs s t) (n : .wnd ∉ bs) : t.wnd = s.wnd := h _ n
theorem SameBut.rlg {bs : List Block} {s t : State} (h : SameBut bs s t) (n : .rlg ∉ bs) : t.rlg = s.rlg := h _ n
theorem SameBut.bat {bs : List Block} {s t : State} (h : SameBut bs s t) (n : .bat ∉ bs) : t.bat = s.bat := h _ n
theorem SameBut.lbc {bs : List Block} {s t : State} (h : SameBut bs s t) (n : .lbc ∉ bs) : t.lbc = s.lbc := h _ n
theorem SameBut.lsc {bs : List Block} {s t : State} (h : SameBut bs s t) (n : .lsc ∉ bs) : t.lsc = s.lsc := h _ n
theorem SameBut.lnk {bs : List Block} {s t : State} (h : SameBut bs s t) (n : .lnk ∉ bs) : t.lnk = s.lnk := h _ n
theorem SameBut.pending {bs : List Block} {s t : State} (h : SameBut bs s t) (n : .pending ∉ bs) :
    t.pending = s.pending := h _ n

/-! ### Notices raised -/

/-- The links after some notices have been raised. -/
def Lnk.raised (k : Lnk) (ns : List Notice) : Lnk :=
  { line := ns.foldl LinkHalf.raise k.line, service := ns.foldl LinkHalf.raise k.service }

/-- t comes from s by changing at most the listed blocks and raising notices. -/
def Affects (bs : List Block) (s t : State) : Prop :=
  SameBut (.lnk :: bs) s t ∧ ∃ ns, t.lnk = s.lnk.raised ns

theorem Affects.refl (bs : List Block) (s : State) : Affects bs s s := ⟨SameBut.refl _ s, [], rfl⟩

theorem Affects.trans {bs : List Block} {s t u : State} (h : Affects bs s t) (k : Affects bs t u) : Affects bs s u := by
  obtain ⟨h1, ns, h2⟩ := h
  obtain ⟨k1, ms, k2⟩ := k
  refine ⟨h1.trans k1, ns ++ ms, ?_⟩
  rw [k2, h2]
  simp [Lnk.raised, List.foldl_append]

theorem Affects.mono {bs cs : List Block} {s t : State} (h : Affects bs s t) (sub : ∀ b ∈ bs, b ∈ cs) : Affects cs s t :=
  ⟨h.1.mono (by simpa using fun b hb => Or.inr (sub b hb)), h.2⟩

/-- Composition, with the blocks of both. -/
theorem Affects.comp {bs cs ds : List Block} {s t u : State} (h : Affects bs s t) (k : Affects cs t u)
    (sub1 : ∀ b ∈ bs, b ∈ ds := by decide) (sub2 : ∀ b ∈ cs, b ∈ ds := by decide) : Affects ds s u :=
  (h.mono sub1).trans (k.mono sub2)

theorem affects_pins (s : State) (x : Pins) : Affects [.pins] s { s with pins := x } :=
  ⟨by intro b hb; cases b <;> first | rfl | simp at hb, [], rfl⟩
theorem affects_wpu (s : State) (x : Wpu) : Affects [.wpu] s { s with wpu := x } :=
  ⟨by intro b hb; cases b <;> first | rfl | simp at hb, [], rfl⟩
theorem affects_trk (s : State) (x : Trk) : Affects [.trk] s { s with trk := x } :=
  ⟨by intro b hb; cases b <;> first | rfl | simp at hb, [], rfl⟩
theorem affects_msc (s : State) (x : Msc) : Affects [.msc] s { s with msc := x } :=
  ⟨by intro b hb; cases b <;> first | rfl | simp at hb, [], rfl⟩
theorem affects_rlp (s : State) (x : Rlp) : Affects [.rlp] s { s with rlp := x } :=
  ⟨by intro b hb; cases b <;> first | rfl | simp at hb, [], rfl⟩
theorem affects_stg (s : State) (x : Stg) : Affects [.stg] s { s with stg := x } :=
  ⟨by intro b hb; cases b <;> first | rfl | simp at hb, [], rfl⟩
theorem affects_emb (s : State) (x : Emb) : Affects [.emb] s { s with emb := x } :=
  ⟨by intro b hb; cases b <;> first | rfl | simp at hb, [], rfl⟩
theorem affects_shu (s : State) (x : Shu) : Affects [.shu] s { s with shu := x } :=
  ⟨by intro b hb; cases b <;> first | rfl | simp at hb, [], rfl⟩
theorem affects_wnd (s : State) (x : Wnd) : Affects [.wnd] s { s with wnd := x } :=
  ⟨by intro b hb; cases b <;> first | rfl | simp at hb, [], rfl⟩
theorem affects_rlg (s : State) (x : Rlg) : Affects [.rlg] s { s with rlg := x } :=
  ⟨by intro b hb; cases b <;> first | rfl | simp at hb, [], rfl⟩
theorem affects_bat (s : State) (x : Bat) : Affects [.bat] s { s with bat := x } :=
  ⟨by intro b hb; cases b <;> first | rfl | simp at hb, [], rfl⟩
theorem affects_lbc (s : State) (x : Lbc) : Affects [.lbc] s { s with lbc := x } :=
  ⟨by intro b hb; cases b <;> first | rfl | simp at hb, [], rfl⟩
theorem affects_lsc (s : State) (x : Lsc) : Affects [.lsc] s { s with lsc := x } :=
  ⟨by intro b hb; cases b <;> first | rfl | simp at hb, [], rfl⟩

/-- A fold of steps that each affect the same blocks affects those blocks. -/
theorem affects_foldl {α : Type} {bs : List Block} (f : State → α → State) (h : ∀ s x, Affects bs s (f s x)) :
    ∀ (l : List α) (s : State), Affects bs s (l.foldl f s)
  | [], s => Affects.refl _ s
  | x :: xs, s => (h s x).trans (affects_foldl f h xs (f s x))

theorem affects_withJob {bs : List Block} (s : State) (f : Job → State) (h : ∀ j, Affects bs s (f j)) :
    Affects bs s (s.withJob f) := by
  unfold State.withJob
  split
  · exact Affects.refl _ s
  · exact h _

theorem affects_ite {bs : List Block} {s t u : State} (c : Prop) [Decidable c] (h : Affects bs s t) (k : Affects bs s u) :
    Affects bs s (if c then t else u) := by
  split
  · exact h
  · exact k

end Sys2Proof.Machine
end

