-- ==== Sys2Proof/Laws/OpsFrames.lean ====
section
/-! SUPPORT. What each shared operation may change: one Affects lemma for each operation of Ops, RegisterOps and
EmbossOps. -/

namespace Sys2Proof.Machine

-- one proof at a time: the joined package would else open a thread for each of them
set_option Elab.async false

/-! ### Ops -/

theorem State.putStation_affects (s : State) (i : StationId) (x : Station) : Affects [.rlp] s (s.putStation i x) :=
  affects_rlp s _

theorem State.putChan_affects (s : State) (c : ChannelId) (x : Channel) : Affects [.stg] s (s.putChan c x) :=
  affects_stg s _

theorem State.putPrinter_affects (s : State) (p : Printer) (x : PrinterState) : Affects [.lbc] s (s.putPrinter p x) := by
  cases p <;> exact affects_lbc s _

theorem State.putSpindle_affects (s : State) (k : Spindle) (x : SpindleState) : Affects [.wnd] s (s.putSpindle k x) := by
  cases k <;> exact affects_wnd s _

theorem State.updateRecord_affects (s : State) (index : BitVec 32) (f : RepeatRecord → RepeatRecord) :
    Affects [.trk] s (s.updateRecord index f) := affects_trk s _

theorem State.updateEntry_affects (s : State) (seq : BitVec 32) (f : Entry → Entry) :
    Affects [.rlg] s (s.updateEntry seq f) := affects_rlg s _

theorem State.updateOpenEntry_affects (s : State) (f : Entry → Entry) : Affects [.rlg] s (s.updateOpenEntry f) := by
  unfold State.updateOpenEntry
  split
  · exact Affects.refl _ s
  · exact affects_rlg s _

theorem State.raiseNotice_affects (s : State) (n : Notice) : Affects [] s (s.raiseNotice n) :=
  ⟨by intro b hb; cases b <;> first | rfl | simp at hb, [n], rfl⟩

theorem State.nipEngage_affects (s : State) (j : Job) : Affects [.emb] s (s.nipEngage j) := affects_emb s _

theorem State.nipLift_affects (s : State) : Affects [.emb] s s.nipLift := affects_emb s _

theorem State.evaluateNip_affects (s : State) : Affects [.emb] s s.evaluateNip := by
  unfold State.evaluateNip
  split
  · exact affects_ite _ (affects_withJob s _ fun j => s.nipEngage_affects j) (Affects.refl _ s)
  · exact affects_ite _ (Affects.refl _ s) s.nipLift_affects
  · exact affects_ite _ (Affects.refl _ s) s.nipLift_affects
  · exact Affects.refl _ s

theorem State.setLineState_affects (s : State) (x : LineState) : Affects [.lsc, .emb] s (s.setLineState x) := by
  unfold State.setLineState
  refine affects_ite _ (Affects.refl _ s) ?_
  have h : Affects [.lsc] s (({ s with lsc := { s.lsc with lineState := x } } : State).raiseNotice .lineState) :=
    (affects_lsc s _).comp (State.raiseNotice_affects _ _)
  exact h.comp (State.evaluateNip_affects _)

theorem State.dropPermit_affects (s : State) : Affects [.lsc] s s.dropPermit := affects_lsc s _

theorem State.report_affects (s : State) (c : HoldCause) : Affects [.lsc] s (s.report c) := affects_lsc s _

theorem State.latch_affects (s : State) (c : HoldCause) : Affects [.lsc] s (s.latch c) := affects_lsc s _

theorem State.raiseCause_affects (s : State) (c : HoldCause) : Affects [.lsc, .emb] s (s.raiseCause c) := by
  have permit : Affects [.lsc] s (s.latch c).dropPermit := (s.latch_affects c).trans (State.dropPermit_affects _)
  unfold State.raiseCause
  refine affects_ite _ ?_ ((s.report_affects c).mono (by decide))
  split
  · exact permit.comp (State.setLineState_affects _ _)
  · exact affects_ite _ (Affects.refl _ s) ((s.latch_affects c).comp (State.raiseNotice_affects _ _))
  · exact affects_ite _ (s.dropPermit_affects.mono (by decide)) (permit.comp (State.raiseNotice_affects _ _))
  · exact (s.report_affects c).mono (by decide)
  · exact (s.report_affects c).mono (by decide)

theorem State.startTrain_affects (s : State) (c : ChannelId) (n : Nat) (x : Int) (rate : Nat) :
    Affects [.stg] s (s.startTrain c n x rate) := affects_stg s _

theorem State.stopTrain_affects (s : State) (c : ChannelId) : Affects [.stg] s (s.stopTrain c) := affects_stg s _

/-! ### RegisterOps -/

theorem State.latchStation_affects (s : State) (i : StationId) (f : CauFlags) : Affects [.rlp] s (s.latchStation i f) :=
  affects_ite _ ((s.putStation_affects i _).comp (State.raiseNotice_affects _ _)) (s.putStation_affects i _)

theorem State.commitTrain_affects (s : State) (i : StationId) (n : Nat) (c : Int) (rate : Nat) :
    Affects [.rlp, .stg] s (s.commitTrain i n c rate) :=
  (s.putStation_affects i _).comp (State.startTrain_affects _ _ _ _ _)

theorem State.startFollower_affects (s : State) (c : Int) (f : StationId) :
    Affects [.rlp, .stg] s (s.startFollower c f) := by
  unfold State.startFollower
  split
  · refine affects_ite _ ?_ (Affects.refl _ s)
    dsimp only
    split
    · exact (s.latchStation_affects f _).mono (by decide)
    · exact (s.latchStation_affects f _).comp (State.commitTrain_affects _ _ _ _ _)
  · exact Affects.refl _ s

theorem State.startStationTrain_affects (s : State) (i : StationId) (n : Nat) (c : Int) (rate : Nat) :
    Affects [.rlp, .stg] s (s.startStationTrain i n c rate) :=
  ((s.commitTrain_affects i n c rate).comp (State.putStation_affects _ i _)).trans
    (affects_foldl _ (fun s f => State.startFollower_affects s c f) _ _)

theorem State.stationCompute_affects (s : State) (i : StationId) (d : ResidentDesc) (samples : List Int) :
    Affects [.rlp, .stg] s (s.stationCompute i d samples) := by
  unfold State.stationCompute
  dsimp only
  split
  · exact (s.putStation_affects i _).comp (State.latchStation_affects _ i _)
  · exact ((s.putStation_affects i _).trans (State.latchStation_affects _ i _)).comp
      (State.startStationTrain_affects _ i _ _ _)

theorem State.enterLost_affects (s : State) (i : StationId) : Affects [.rlp, .lsc, .emb] s (s.enterLost i) :=
  (Affects.comp (ds := [.rlp]) (s.putStation_affects i _) (State.raiseNotice_affects _ _)).comp
    (State.raiseCause_affects _ _)

theorem State.offerSample_affects (s : State) (i : StationId) (d : ResidentDesc) (e : Int) :
    Affects [.rlp, .stg] s (s.offerSample i d e) := by
  unfold State.offerSample
  dsimp only
  split
  · exact (s.putStation_affects i _).mono (by decide)
  · exact (s.putStation_affects i _).mono (by decide)
  · exact affects_ite _ ((s.putStation_affects i _).mono (by decide))
      ((s.putStation_affects i _).comp (State.stationCompute_affects _ _ _ _))
  all_goals exact (s.putStation_affects i _).mono (by decide)

theorem State.offerBad_affects (s : State) (i : StationId) (d : ResidentDesc) :
    Affects [.rlp, .lsc, .emb] s (s.offerBad i d) := by
  have put : ∀ x, Affects [.rlp, .lsc, .emb] s (s.putStation i x) := fun x => (s.putStation_affects i x).mono (by decide)
  unfold State.offerBad
  dsimp only
  split
  all_goals first
    | exact put _
    | exact affects_ite _ ((put _).trans (State.enterLost_affects _ i)) (put _)

theorem State.offer_affects (s : State) (i : StationId) (o : StationOutcome) :
    Affects [.rlp, .stg, .lsc, .emb] s (s.offer i o) := by
  unfold State.offer
  split
  · refine affects_ite _ ?_ (Affects.refl _ s)
    split
    · exact (s.offerSample_affects i _ _).mono (by decide)
    · exact (s.offerBad_affects i _).mono (by decide)
    · exact (s.offerBad_affects i _).mono (by decide)
    all_goals exact Affects.refl _ s
  · exact Affects.refl _ s

theorem State.outcomeTransfer_affects (s : State) (index : BitVec 32) (kind : OriginKind)
    (formed : Vector StationOutcome 8) :
    Affects [.trk, .rlp, .stg, .lsc, .emb] s (s.outcomeTransfer index kind formed) := by
  unfold State.outcomeTransfer
  dsimp only
  have h1 := s.updateRecord_affects index fun r =>
    r.close (s.writtenOutcomes formed) (s.regClass kind (s.writtenOutcomes formed))
      (s.worstError (s.writtenOutcomes formed))
  have h2 := h1.comp (ds := [.trk, .rlp, .stg, .lsc, .emb])
    (affects_foldl (bs := [.rlp]) (fun (t : State) (i : Fin 8) =>
      if (t.station i).isResident then
        t.putStation i { t.station i with lastOutcome := some (s.writtenOutcomes formed)[i] } else t)
      (fun t i => affects_ite _ (t.putStation_affects i _) (Affects.refl _ t)) (List.finRange 8) _)
  split
  · exact h2.comp (affects_foldl _ (fun (t : State) i => t.offer_affects i _) _ _)
  · exact h2

theorem State.correctingEnd_affects (s : State) (i : StationId) : Affects [.rlp, .lsc, .emb] s (s.correctingEnd i) := by
  unfold State.correctingEnd
  split
  · exact affects_ite _ (affects_ite _ (s.enterLost_affects i) ((s.putStation_affects i _).mono (by decide)))
      (Affects.refl _ s)
  · exact Affects.refl _ s

theorem State.stationTrainDone_affects (s : State) (i : StationId) :
    Affects [.rlp, .lsc, .emb] s (s.stationTrainDone i) :=
  (s.putStation_affects i _).comp (State.correctingEnd_affects _ _)

theorem State.abortStation_affects (s : State) (i : StationId) : Affects [.rlp, .stg] s (s.abortStation i) := by
  unfold State.abortStation
  dsimp only
  refine affects_ite _ ?_ (Affects.refl _ s)
  split
  · exact (s.stopTrain_affects _).mono (by decide)
  · exact (s.stopTrain_affects _).comp (State.putStation_affects _ i _)

theorem State.abortStations_affects (s : State) : Affects [.rlp, .stg] s s.abortStations :=
  affects_foldl _ (fun s i => State.abortStation_affects s i) _ _

theorem State.disengage_affects (s : State) (i : StationId) : Affects [.rlp, .stg, .lsc, .emb] s (s.disengage i) := by
  unfold State.disengage
  refine affects_ite _ ?_ ((s.putStation_affects i _).mono (by decide))
  dsimp only
  split
  · exact (((s.abortStation_affects i).trans
      (affects_foldl _ (fun s i => State.abortStation_affects s i) _ _)).comp (State.putStation_affects _ i _))
  · exact ((s.abortStation_affects i).comp (ds := [.rlp, .stg]) (State.putStation_affects _ i _)).comp
      (State.correctingEnd_affects _ _)

theorem State.engage_affects (s : State) (i : StationId) : Affects [.rlp] s (s.engage i) :=
  affects_ite _ (s.putStation_affects i _) (s.putStation_affects i _)

theorem State.mapStations_affects (s : State) (f : Station → Station) : Affects [.rlp] s (s.mapStations f) :=
  affects_rlp s _

/-! ### EmbossOps -/

theorem State.modifyEvent_affects (s : State) (n : Nat) (f : WebEvent → WebEvent) :
    Affects [.trk] s (s.modifyEvent n f) := affects_trk s _

theorem State.coverBegin_affects (s : State) (j : Job) (n : Nat) : Affects [.trk, .emb] s (s.coverBegin j n) := by
  unfold State.coverBegin
  split
  · exact Affects.refl _ s
  · exact ((s.modifyEvent_affects n _).comp (ds := [.trk, .emb]) (affects_emb _ _)).comp (State.evaluateNip_affects _)

theorem State.coverEnd_affects (s : State) : Affects [.emb] s s.coverEnd :=
  (affects_emb s _).trans (State.evaluateNip_affects _)

theorem State.coverClosed_affects (s : State) (j : Job) (e : WebEvent) : Affects [.emb] s (s.coverClosed j e) :=
  affects_ite _ (affects_emb s _) (Affects.refl _ s)

theorem State.liftCheck_affects (s : State) (j : Job) (n : Nat) : Affects [.trk, .emb] s (s.liftCheck j n) := by
  unfold State.liftCheck
  split
  · exact Affects.refl _ s
  · refine affects_ite _ ?_ ((s.modifyEvent_affects n _).mono (by decide))
    refine Affects.comp (bs := [.trk, .emb]) (cs := []) ?_ (State.raiseNotice_affects _ _)
    refine Affects.comp (bs := [.trk]) (cs := [.emb]) ?_ (affects_emb _ _)
    split
    · exact s.modifyEvent_affects n _
    · exact (s.modifyEvent_affects n _).trans (State.updateRecord_affects _ _ _)

theorem State.addWindow_affects (s : State) (j : Job) (r : RepeatRecord) : Affects [.emb] s (s.addWindow j r) :=
  affects_ite _ (affects_emb s _) (Affects.refl _ s)

theorem State.latchEmboss_affects (s : State) (f : CauFlags) : Affects [.emb] s (s.latchEmboss f) :=
  affects_ite _ ((affects_emb s _).comp (State.raiseNotice_affects _ _)) (affects_emb s _)

theorem State.embossCompute_affects (s : State) (j : Job) (samples : List Int) :
    Affects [.emb, .stg] s (s.embossCompute j samples) := by
  unfold State.embossCompute
  dsimp only
  split
  · exact (affects_emb s _).comp (State.latchEmboss_affects _ _)
  · exact (((affects_emb s _).trans (State.latchEmboss_affects _ _)).trans (affects_emb _ _)).comp
      (State.startTrain_affects _ _ _ _ _)

theorem State.embossOffer_affects (s : State) (j : Job) (e : Int) (b : Bool) :
    Affects [.emb, .stg] s (s.embossOffer j e b) := by
  unfold State.embossOffer
  split
  · exact Affects.refl _ s
  · exact (affects_emb s _).mono (by decide)
  · exact affects_ite _ (affects_ite _ ((affects_emb s _).mono (by decide)) (s.embossCompute_affects j _))
      (Affects.refl _ s)

theorem State.embossSample_affects (s : State) (j : Job) (w : EmbWindow) (e : Int) :
    Affects [.emb, .stg] s (s.embossSample j w e) :=
  (affects_emb s _).comp (State.embossOffer_affects _ _ _ _)

theorem State.embossMiss_affects (s : State) (j : Job) : Affects [.emb] s (s.embossMiss j) :=
  affects_ite _ (((affects_emb s _).trans (affects_emb _ _)).comp (State.raiseNotice_affects _ _)) (affects_emb s _)

theorem State.embossTrainDone_affects (s : State) : Affects [.emb] s s.embossTrainDone := affects_emb s _

theorem State.abortEmboss_affects (s : State) : Affects [.emb, .stg] s s.abortEmboss := by
  unfold State.abortEmboss
  dsimp only
  refine affects_ite _ ?_ (Affects.refl _ s)
  split
  · exact (s.stopTrain_affects _).comp (affects_emb _ _)
  · exact (s.stopTrain_affects _).comp (affects_emb _ _)

end Sys2Proof.Machine
end

