-- ==== Sys2Proof/Laws/BlockFrames.lean ====
section
/-! SUPPORT. What each shared operation may change: one Affects lemma for each operation of ShadeOps, BatchOps, LabelOps,
LogOps and TrackOps. -/

namespace Sys2Proof.Machine

-- one proof at a time: the joined package would else open a thread for each of them
set_option Elab.async false

/-! ### ShadeOps -/

theorem State.reportLineBatch_affects (s : State) (b : Option LineBatch) : Affects [.shu] s (s.reportLineBatch b) :=
  affects_ite _ (Affects.refl _ s) (affects_shu s _)

theorem State.addStart_affects (s : State) (j : Job) (r : RepeatRecord) : Affects [.shu] s (s.addStart j r) :=
  affects_ite _ (affects_shu s _) (Affects.refl _ s)

theorem State.startPoint_affects (s : State) (j : Job) (index : BitVec 32) (rest : List (BitVec 32 × Count)) :
    Affects [.shu, .trk] s (s.startPoint j index rest) := by
  have h := affects_shu s { s.shu with starts := rest }
  unfold State.startPoint
  dsimp only
  split
  · exact h.comp (affects_shu _ _)
  · exact (h.comp (ds := [.shu, .trk]) (State.updateRecord_affects _ _ _)).comp (affects_shu _ _)
  · exact (h.comp (ds := [.shu, .trk]) (State.updateRecord_affects _ _ _)).comp (affects_shu _ _)
  · exact (h.comp (ds := [.shu, .trk]) (State.updateRecord_affects _ _ _)).comp (affects_shu _ _)

theorem State.takeVerdict_affects (s : State) (c : DriftComparison) : Affects [.shu, .rlg] s (s.takeVerdict c) := by
  unfold State.takeVerdict
  dsimp only
  split
  · exact ((affects_shu s _).comp (ds := [.shu, .rlg]) (State.raiseNotice_affects _ _)).comp
      (State.updateOpenEntry_affects _ _)
  · exact (affects_shu s _).comp (State.raiseNotice_affects _ _)
  · exact (affects_shu s _).mono (by decide)

theorem State.offerReading_affects (s : State) (j : Job) (x : Shade) : Affects [.shu, .rlg] s (s.offerReading j x) := by
  unfold State.offerReading
  dsimp only
  split
  · exact (affects_shu s _).mono (by decide)
  · exact affects_ite _ ((affects_shu s _).comp (State.takeVerdict_affects _ _)) ((affects_shu s _).mono (by decide))

theorem State.headIdle_affects (s : State) (n : Nat) : Affects [.shu] s (s.headIdle n) := affects_shu s _

theorem State.takeReading_affects (s : State) (j : Job) (index : BitVec 32) (raw : Shade) :
    Affects [.shu, .trk, .rlg] s (s.takeReading j index raw) := by
  unfold State.takeReading
  dsimp only
  refine affects_ite _ ?_ ((affects_shu s _).mono (by decide))
  exact (((affects_shu s _).comp (ds := [.shu, .trk, .rlg]) (State.updateRecord_affects _ _ _)).comp
    (ds := [.shu, .trk, .rlg]) (affects_shu _ _)).comp (State.offerReading_affects _ _ _)

theorem State.takeSmeared_affects (s : State) (index : BitVec 32) : Affects [.shu, .trk] s (s.takeSmeared index) :=
  affects_ite _ ((s.updateRecord_affects index _).comp (affects_shu _ _)) (Affects.refl _ s)

theorem State.readDone_affects (s : State) (j : Job) (raw : Shade) : Affects [.shu, .trk, .rlg] s (s.readDone j raw) := by
  have h := affects_shu s { s.shu with select := false }
  unfold State.readDone
  dsimp only
  split
  · have h2 := h.trans (State.headIdle_affects _ 0)
    exact affects_ite _ (h2.comp (State.takeSmeared_affects _ _)) (h2.comp (State.takeReading_affects _ _ _ _))
  · exact h.mono (by decide)

theorem State.headTimedOut_affects (s : State) (m : Measurement) :
    Affects [.shu, .trk, .lsc, .emb] s (s.headTimedOut m) := by
  unfold State.headTimedOut
  dsimp only
  have h := (s.updateRecord_affects m.index fun r => r.putShade .absent none).comp (ds := [.shu, .trk])
    (affects_shu _ { s.shu with
      meas := none, faultCount := s.shu.faultCount + 1,
      counts := { s.shu.counts with timedOut := satInc s.shu.counts.timedOut } })
  refine affects_ite _ (h.comp (affects_shu _ _)) ?_
  exact ((h.comp (ds := [.shu, .trk]) (affects_shu _ _)).comp (ds := [.shu, .trk]) (State.raiseNotice_affects _ _)).comp
    (State.raiseCause_affects _ _)

theorem State.abandonMeasurement_affects (s : State) : Affects [.shu, .trk] s s.abandonMeasurement := by
  unfold State.abandonMeasurement
  split
  · exact Affects.refl _ s
  · exact (s.updateRecord_affects _ _).comp (State.headIdle_affects _ _)

theorem State.shadeReturn_affects (s : State) : Affects [.shu, .trk] s s.shadeReturn :=
  s.abandonMeasurement_affects.comp (affects_shu _ _)

/-! ### BatchOps -/

theorem State.settleAssign_affects (s : State) (j : Job) (b : Bat) (i : Fin 32) (opened : Bool) :
    Affects [.bat, .shu] s (s.settleAssign j b i opened) := by
  have h := affects_bat s (b.applyLimit i j.rollsPerBatch)
  unfold State.settleAssign
  dsimp only
  refine Affects.comp (bs := [.bat]) (cs := [.shu]) ?_ (State.reportLineBatch_affects _ _)
  exact affects_ite _ (h.comp (State.raiseNotice_affects _ _)) h

theorem State.assignBatch_affects (s : State) (j : Job) (roll : Nat) (mean : Shade) :
    Affects [.bat, .shu] s (s.assignBatch j roll mean).1 := by
  unfold State.assignBatch
  split
  · split
    · exact s.settleAssign_affects j _ _ _
    · exact Affects.refl _ s
  · split
    · exact s.settleAssign_affects j _ _ _
    · exact (affects_bat s _).comp (State.raiseNotice_affects _ _)

theorem State.batchLoad_affects (s : State) (j : Job) : Affects [.bat, .shu] s (s.batchLoad j) := by
  have h := affects_bat s ((List.finRange 32).foldl (fun b i => b.applyLimit i j.rollsPerBatch) s.bat)
  unfold State.batchLoad
  dsimp only
  have h2 : Affects [.bat] s (if ((List.finRange 32).any fun i => s.bat.full i j.rollsPerBatch) = true then
      ({ s with bat := (List.finRange 32).foldl (fun b i => b.applyLimit i j.rollsPerBatch) s.bat } : State).raiseNotice
        .batchChanged
      else { s with bat := (List.finRange 32).foldl (fun b i => b.applyLimit i j.rollsPerBatch) s.bat }) :=
    affects_ite _ (h.comp (State.raiseNotice_affects _ _)) h
  split
  · exact h2.mono (by decide)
  · exact h2.comp (State.reportLineBatch_affects _ _)

theorem State.closeBatchAt_affects (s : State) (i : Fin 32) : Affects [.bat, .shu] s (s.closeBatchAt i) :=
  affects_ite _ ((affects_bat s _).comp (State.reportLineBatch_affects _ _)) ((affects_bat s _).mono (by decide))

theorem State.pinAt_affects (s : State) (i : Fin 32) (code : Nat) (ref : Shade) :
    Affects [.bat, .shu] s (s.pinAt i code ref) :=
  affects_ite _ ((affects_bat s _).comp (State.reportLineBatch_affects _ _)) ((affects_bat s _).mono (by decide))

/-! ### LabelOps -/

theorem State.enqueueLabel_affects (s : State) (j : Job) (e : Entry) (p : Printer) :
    Affects [.lbc, .rlg] s (s.enqueueLabel j e p) :=
  (affects_lbc s _).comp (State.updateEntry_affects _ _ _)

theorem State.fillQueue_affects (s : State) (j : Job) : Affects [.lbc, .rlg] s (s.fillQueue j) := by
  refine affects_foldl _ (fun s e => ?_) _ _
  split
  · exact affects_ite _ (State.enqueueLabel_affects _ _ _ _) (Affects.refl _ _)
  · exact Affects.refl _ _

theorem State.chooseTransfer_affects (s : State) : Affects [.lbc] s s.chooseTransfer := by
  unfold State.chooseTransfer
  split
  · exact Affects.refl _ s
  · split
    · exact Affects.refl _ s
    · exact affects_lbc s _

theorem State.refreshTimer_affects (s : State) (p : Printer) : Affects [.lbc] s (s.refreshTimer p) :=
  s.putPrinter_affects p _

theorem State.labelWork_affects (s : State) : Affects [.lbc, .rlg] s s.labelWork :=
  (((affects_withJob s _ fun j => s.fillQueue_affects j).comp (ds := [.lbc, .rlg]) (State.chooseTransfer_affects _)).comp
    (ds := [.lbc, .rlg]) (State.refreshTimer_affects _ .a)).comp (State.refreshTimer_affects _ .b)

theorem State.removeLabel_affects (s : State) (seq : BitVec 32) : Affects [.lbc] s (s.removeLabel seq) := affects_lbc s _

theorem State.addSent_affects (s : State) (p : Printer) (x : Option (BitVec 32)) : Affects [.lbc] s (s.addSent p x) :=
  s.putPrinter_affects p _

theorem State.printerOffline_affects (s : State) (p : Printer) (why : PrinterFault) :
    Affects [.lbc, .lsc, .emb] s (s.printerOffline p why) :=
  ((s.putPrinter_affects p _).comp (ds := [.lbc]) (State.raiseNotice_affects _ _)).comp (State.raiseCause_affects _ _)

theorem State.labelAccepted_affects (s : State) (x : Label) (w : Bool) : Affects [.lbc, .rlg] s (s.labelAccepted x w) := by
  unfold State.labelAccepted
  refine affects_ite _ ((s.addSent_affects _ _).mono (by decide)) ?_
  exact ((((s.removeLabel_affects _).comp (ds := [.lbc, .rlg]) (State.updateEntry_affects _ _ _)).comp
    (ds := [.lbc, .rlg]) (State.addSent_affects _ _ _)).comp (ds := [.lbc, .rlg])
      (State.putPrinter_affects _ _ _)).comp (affects_lbc _ _)

theorem State.dropLabel_affects (s : State) (x : Label) : Affects [.lbc, .rlg] s (s.dropLabel x) :=
  ((((s.removeLabel_affects _).comp (ds := [.lbc, .rlg]) (State.updateEntry_affects _ _ _)).comp
    (ds := [.lbc, .rlg]) (State.putPrinter_affects _ _ _)).comp (ds := [.lbc, .rlg]) (affects_lbc _ _)).comp
      (State.raiseNotice_affects _ _)

theorem State.labelRejected_affects (s : State) (x : Label) (w : Bool) : Affects [.lbc, .rlg] s (s.labelRejected x w) := by
  unfold State.labelRejected
  refine affects_ite _ (Affects.refl _ s) ?_
  exact affects_ite _ ((affects_lbc s _).comp (State.putPrinter_affects _ _ _))
    ((affects_lbc s _).comp (State.dropLabel_affects _ _))

theorem State.labelJammed_affects (s : State) (x : Label) : Affects [.lbc, .lsc, .emb] s (s.labelJammed x) :=
  (affects_lbc s _).comp (State.printerOffline_affects _ _ _)

theorem State.transferEnded_affects (s : State) (t : Transfer) (b : Byte) :
    Affects [.lbc, .rlg, .lsc, .emb] s (s.transferEnded t b) := by
  unfold State.transferEnded
  dsimp only
  refine Affects.comp (bs := [.lbc, .rlg, .lsc, .emb]) (cs := [.lbc, .rlg]) ?_ (State.labelWork_affects _)
  split
  · exact (affects_lbc s _).comp (State.labelAccepted_affects _ _ _)
  · exact (affects_lbc s _).comp (State.labelRejected_affects _ _ _)
  · exact (affects_lbc s _).comp (State.labelJammed_affects _ _)

theorem State.printerTimedOut_affects (s : State) (p : Printer) :
    Affects [.lbc, .rlg, .lsc, .emb] s (s.printerTimedOut p) :=
  ((affects_lbc s _).comp (ds := [.lbc, .rlg, .lsc, .emb]) (State.printerOffline_affects _ _ _)).comp
    (State.labelWork_affects _)

theorem State.resetPrinter_affects (s : State) (p : Printer) : Affects [.lbc, .rlg] s (s.resetPrinter p) :=
  (s.putPrinter_affects p _).comp (State.labelWork_affects _)

theorem State.labelApplied_affects (s : State) (p : Printer) : Affects [.lbc, .rlg] s (s.labelApplied p) := by
  unfold State.labelApplied
  split
  · exact Affects.refl _ s
  · dsimp only
    split
    · exact (s.putPrinter_affects p _).comp (State.updateEntry_affects _ _ _)
    · exact (s.putPrinter_affects p _).comp (affects_lbc _ _)

theorem State.withdrawLabel_affects (s : State) (seq : BitVec 32) : Affects [.lbc] s (s.withdrawLabel seq) := by
  unfold State.withdrawLabel
  split
  · exact Affects.refl _ s
  · refine Affects.trans (Affects.trans ?_ (State.removeLabel_affects _ _)) (affects_lbc _ _)
    exact affects_ite _ (s.putPrinter_affects _ _) (Affects.refl _ s)

theorem State.unattachSent_affects (s : State) (seq : BitVec 32) : Affects [.lbc] s (s.unattachSent seq) :=
  (s.putPrinter_affects .a _).trans (State.putPrinter_affects _ .b _)

theorem State.doffEntry_affects (s : State) (e : Entry) : Affects [.lbc, .rlg] s (s.doffEntry e) := by
  have h := s.updateEntry_affects e.seq fun e => { e with flags := { e.flags with doffed := true } }
  unfold State.doffEntry
  dsimp only
  split
  · exact h.comp (State.updateEntry_affects _ _ _)
  · exact ((h.comp (ds := [.lbc, .rlg]) (State.withdrawLabel_affects _ _)).comp (ds := [.lbc, .rlg])
      (State.updateEntry_affects _ _ _)).comp (State.labelWork_affects _)
  · exact (h.comp (ds := [.lbc, .rlg]) (State.unattachSent_affects _ _)).comp (State.updateEntry_affects _ _ _)
  all_goals exact h.mono (by decide)

/-! ### LogOps -/

theorem State.updateContaining_affects (s : State) (d : Count) (f : Entry → Entry) :
    Affects [.rlg] s (s.updateContaining d f) := by
  unfold State.updateContaining
  split
  · exact Affects.refl _ s
  · exact s.updateEntry_affects _ _

theorem State.allocate_affects (s : State) (start : Count) (role : Role) (k : Option Spindle) :
    Affects [.rlg] s (s.allocate start role k) :=
  affects_ite _ ((affects_rlg s _).comp (State.raiseNotice_affects _ _)) (affects_rlg s _)

theorem State.batchFor_affects (s : State) (j : Job) (roll : Nat) (e : Entry) :
    Affects [.bat, .shu] s (s.batchFor j roll e).1 := by
  unfold State.batchFor
  split
  · exact Affects.refl _ s
  · exact s.assignBatch_affects j roll _

theorem State.closeLabelled_affects (s : State) (j : Job) (e : Entry) :
    Affects [.rlg, .bat, .shu] s (s.closeLabelled j e) :=
  ((affects_rlg s _).comp (ds := [.rlg, .bat, .shu]) (State.batchFor_affects _ _ _ _)).comp
    (State.updateEntry_affects _ _ _)

theorem State.closeEntry_affects (s : State) (j : Job) (e : Entry) : Affects [.rlg, .bat, .shu] s (s.closeEntry j e) := by
  unfold State.closeEntry
  dsimp only
  split
  · exact (s.updateEntry_affects _ _).mono (by decide)
  · exact s.closeLabelled_affects j _
  · exact s.closeLabelled_affects j _

theorem State.examineLog_affects (s : State) (j : Job) : Affects [.rlg, .bat, .shu, .lbc] s (s.examineLog j) := by
  refine affects_ite _ (Affects.refl _ s) ?_
  exact ((affects_foldl _ (fun s e => State.closeEntry_affects s j e) _ _).comp (ds := [.rlg, .bat, .shu])
    (State.raiseNotice_affects _ _)).comp (State.labelWork_affects _)

theorem State.endEntry_affects (s : State) (seq : BitVec 32) (stop : Count) (aborted : Bool) :
    Affects [.rlg, .bat, .shu, .lbc] s (s.endEntry seq stop aborted) :=
  (s.updateEntry_affects _ _).comp (affects_withJob _ _ fun j => State.examineLog_affects _ j)

/-! ### TrackOps -/

theorem State.foldInto_affects (s : State) (r : RepeatRecord) : Affects [.rlg] s (s.foldInto r) :=
  s.updateContaining_affects _ _

theorem State.foldHead_affects (s : State) (j : Job) : Affects [.trk, .rlg, .bat, .shu, .lbc] s (s.foldHead j) := by
  unfold State.foldHead
  split
  · exact Affects.refl _ s
  · exact ((affects_trk s _).comp (ds := [.trk, .rlg]) (State.foldInto_affects _ _)).comp (State.examineLog_affects _ j)

theorem State.foldRemaining_affects (s : State) (stop : Count) : Affects [.rlg] s (s.foldRemaining stop) :=
  affects_foldl _ (fun _ _ => affects_ite _ (Affects.refl _ _) (State.foldInto_affects _ _)) _ _

theorem State.fullArrival_affects (s : State) : Affects [.trk, .rlg, .emb, .lsc] s s.fullArrival := by
  unfold State.fullArrival
  refine Affects.comp (bs := [.trk, .rlg, .emb, .lsc]) (cs := []) ?_ (State.raiseNotice_affects _ _)
  refine affects_ite _ (Affects.refl _ s) ?_
  exact (((affects_trk s _).comp (ds := [.trk, .rlg]) (State.updateOpenEntry_affects _ _)).comp (ds := [.trk, .rlg, .emb])
    (State.evaluateNip_affects _)).comp (State.raiseCause_affects _ _)

theorem State.attribute_affects (s : State) (n : Nat) : Affects [.trk, .rlg] s (s.attribute n) := by
  unfold State.attribute
  split
  · exact Affects.refl _ s
  · exact (s.updateContaining_affects _ _).comp (State.modifyEvent_affects _ _ _)

theorem State.endEventLost_affects (s : State) : Affects [.trk, .emb] s s.endEventLost :=
  affects_ite _ ((affects_trk s _).comp (State.evaluateNip_affects _)) (Affects.refl _ s)

theorem State.removeEvent_affects (s : State) (n : Nat) : Affects [.trk, .rlg, .emb] s (s.removeEvent n) := by
  have h : Affects [.trk, .rlg] s (if ((s.trk.events[n]?).any fun e => !e.attributed) = true then s.attribute n else s) :=
    affects_ite _ (s.attribute_affects n) (Affects.refl _ s)
  unfold State.removeEvent
  have h2 := h.comp (ds := [.trk, .rlg]) (affects_trk _ { (if ((s.trk.events[n]?).any fun e => !e.attributed) = true
    then s.attribute n else s).trk with events := (if ((s.trk.events[n]?).any fun e => !e.attributed) = true
    then s.attribute n else s).trk.events.eraseIdx n })
  exact affects_ite _ (h2.comp (State.endEventLost_affects _)) (h2.mono (by decide))

theorem State.emptyTrack_affects (s : State) : Affects [.trk] s s.emptyTrack := affects_trk s _

end Sys2Proof.Machine
end

