-- ==== Sys2Proof/Laws/LineFrames.lean ====
section
/-! SUPPORT. What each shared operation may change: one Affects lemma for each operation of WinderOps, EventOps, MarkOps
and LineOps. -/

namespace Sys2Proof.Machine

-- one proof at a time: the joined package would else open a thread for each of them
set_option Elab.async false

/-! ### WinderOps -/

theorem State.addPoints_affects (s : State) (j : Job) (r : RepeatRecord) : Affects [.wnd] s (s.addPoints j r) :=
  affects_wnd s _

theorem State.fillSpindle_affects (s : State) (seq : BitVec 32) : Affects [.wnd] s (s.fillSpindle seq) :=
  affects_wnd s _

theorem State.pulseKnife_affects (s : State) : Affects [.wnd] s s.pulseKnife := affects_wnd s _

theorem State.setTorque_affects (s : State) (n : Nat) : Affects [.wnd] s (s.setTorque n) := affects_wnd s _

theorem State.torqueStep_affects (s : State) (j : Job) : Affects [.wnd] s (s.torqueStep j) := by
  unfold State.torqueStep
  split
  · exact (affects_wnd s _).trans (State.setTorque_affects _ _)
  · exact Affects.refl _ s

theorem State.setPlan_affects (s : State) (p : SplicePlan) : Affects [.wnd] s (s.setPlan p) := affects_wnd s _

theorem State.planWith_affects (s : State) (j : Job) (a b : Count) (c : Cut1) : Affects [.wnd] s (s.planWith j a b c) :=
  s.setPlan_affects _

theorem State.startPlan_affects (s : State) (j : Job) (x : Count) : Affects [.wnd] s (s.startPlan j x) :=
  s.planWith_affects j _ _ _

theorem State.extendPlan_affects (s : State) (j : Job) (p : SplicePlan) (x : Count) :
    Affects [.wnd] s (s.extendPlan j p x) := affects_ite _ (s.setPlan_affects _) (affects_wnd s _)

theorem State.extendPlanned_affects (s : State) (j : Job) (x : Count) : Affects [.wnd] s (s.extendPlanned j x) := by
  unfold State.extendPlanned
  split
  · split
    · exact affects_ite _ (affects_wnd s _) (Affects.refl _ s)
    · exact Affects.refl _ s
  · exact Affects.refl _ s

theorem State.judge_affects (s : State) (j : Job) (x : Count) : Affects [.wnd] s (s.judge j x) := by
  unfold State.judge
  split
  · exact Affects.refl _ s
  · split
    · split
      · exact s.startPlan_affects j x
      · exact s.extendPlan_affects j _ x
    · exact s.extendPlanned_affects j x
    · exact s.extendPlanned_affects j x
    · exact Affects.refl _ s

theorem State.judgeAt_affects (s : State) (j : Job) (n : Nat) : Affects [.trk, .wnd] s (s.judgeAt j n) := by
  unfold State.judgeAt
  split
  · exact Affects.refl _ s
  · exact affects_ite _ ((s.modifyEvent_affects n _).comp (State.judge_affects _ j _)) (Affects.refl _ s)

theorem State.judgeSplices_affects (s : State) (j : Job) : Affects [.trk, .wnd] s (s.judgeSplices j) :=
  affects_foldl _ (fun s n => State.judgeAt_affects s j n) _ _

theorem State.reexamine_affects (s : State) (j : Job) (p : SplicePlan) : Affects [.wnd] s (s.reexamine j p) := by
  unfold State.reexamine
  split
  · exact s.planWith_affects j _ _ _
  · exact s.planWith_affects j _ _ _
  all_goals
    split
    · exact s.setPlan_affects _
    · exact s.setPlan_affects _
    all_goals exact Affects.refl _ s

theorem State.settlePlanned_affects (s : State) (j : Job) : Affects [.wnd] s (s.settlePlanned j) := by
  unfold State.settlePlanned
  split
  · exact Affects.refl _ s
  · exact affects_wnd s _

theorem State.searchOn_affects (s : State) (j : Job) (limit : Count) : Affects [.wnd] s (s.searchOn j limit) := by
  unfold State.searchOn
  split <;> exact affects_wnd s _

theorem State.winderAppend_affects (s : State) (j : Job) (r : RepeatRecord) :
    Affects [.trk, .wnd] s (s.winderAppend j r) := by
  unfold State.winderAppend
  refine Affects.comp (bs := [.wnd]) (cs := [.trk, .wnd]) ?_ (State.judgeSplices_affects _ j)
  refine (s.addPoints_affects j r).trans ?_
  split
  · exact State.reexamine_affects _ j _
  · exact State.searchOn_affects _ j _
  · exact State.settlePlanned_affects _ j

theorem State.startTransfer_affects (s : State) (j : Job) : Affects [.wnd] s (s.startTransfer j) := affects_wnd s _

theorem State.unjudge_affects (s : State) : Affects [.trk] s s.unjudge := affects_trk s _

theorem State.endSegment_affects (s : State) (d : Count) : Affects [.rlg, .bat, .shu, .lbc, .wnd] s (s.endSegment d) := by
  unfold State.endSegment
  split
  · exact Affects.refl _ s
  · exact affects_ite _ ((s.endEntry_affects _ _ _).comp (State.fillSpindle_affects _ _))
      ((s.endEntry_affects _ _ _).mono (by decide))

theorem State.openSegment_affects (s : State) (d : Count) (p : Option PointName) (r : Role) :
    Affects [.rlg, .wnd] s (s.openSegment d p r) := by
  unfold State.openSegment
  refine Affects.comp (bs := [.rlg, .wnd]) (cs := [.wnd]) ?_ (affects_wnd _ _)
  refine Affects.comp (bs := [.rlg]) (cs := [.wnd]) (s.allocate_affects d r (s.spindleFor r)) ?_
  split
  · exact State.putSpindle_affects _ _ _
  · exact Affects.refl _ _

theorem State.planSegment_affects (s : State) (j : Job) (d : Count) (p : Option PointName) (r : Role) :
    Affects [.wnd] s (s.planSegment j d p r) := by
  unfold State.planSegment
  dsimp only
  split
  · exact (affects_wnd s _).trans (affects_wnd _ _)
  · exact (affects_wnd s _).trans (affects_wnd _ _)
  all_goals exact affects_wnd s _

theorem State.torqueFor_affects (s : State) (j : Job) (r : Role) : Affects [.wnd] s (s.torqueFor j r) :=
  (affects_wnd s _).trans (State.setTorque_affects _ _)

theorem State.fireCut_affects (s : State) (j : Job) (d : Count) (p : Option PointName) (r : Role) :
    Affects [.trk, .rlg, .bat, .shu, .lbc, .wnd, .lsc] s (s.fireCut j d p r) := by
  have h1 : Affects [.wnd] s (s.pulseKnife.startTransfer j) := s.pulseKnife_affects.trans (State.startTransfer_affects _ j)
  have h2 := h1.comp (ds := [.rlg, .bat, .shu, .lbc, .wnd]) (State.endSegment_affects _ d)
  have h3 := (h2.comp (ds := [.rlg, .bat, .shu, .lbc, .wnd]) (State.openSegment_affects _ d p r)).comp
    (ds := [.rlg, .bat, .shu, .lbc, .wnd]) (State.planSegment_affects _ j d p r)
  have h4 := h3.comp (ds := [.rlg, .bat, .shu, .lbc, .wnd]) (State.torqueFor_affects _ j r)
  unfold State.fireCut
  refine Affects.comp (bs := [.rlg, .bat, .shu, .lbc, .wnd, .lsc]) (cs := [.trk, .wnd]) ?_
    ((State.unjudge_affects _).comp (State.judgeSplices_affects _ j))
  exact affects_ite _ (h4.comp (State.dropPermit_affects _)) (h4.mono (by decide))

theorem State.checkOverlength_affects (s : State) (j : Job) : Affects [.wnd, .lsc, .emb] s (s.checkOverlength j) :=
  affects_ite _ ((affects_wnd s _).comp (State.raiseCause_affects _ _)) (Affects.refl _ s)

theorem State.replan_affects (s : State) (j : Job) (c : CutPlan) : Affects [.wnd] s (s.replan j c) := affects_wnd s _

theorem State.refuseCut_affects (s : State) (j : Job) (c : CutPlan) (d : Count) (why : RefusalCause) :
    Affects [.trk, .rlg, .wnd, .lsc, .emb] s (s.refuseCut j c d why) := by
  unfold State.refuseCut
  dsimp only
  refine Affects.comp (bs := [.rlg, .wnd]) (cs := [.trk, .wnd, .lsc, .emb]) ?_
    ((State.checkOverlength_affects _ j).comp (State.judgeSplices_affects _ j))
  split
  · exact ((s.updateOpenEntry_affects _).comp (ds := [.rlg, .wnd]) (affects_wnd _ _)).comp (State.planWith_affects _ _ _ _ _)
  · exact ((s.updateOpenEntry_affects _).comp (ds := [.rlg, .wnd]) (affects_wnd _ _)).comp (State.replan_affects _ _ _)

theorem State.takeCut_affects (s : State) (j : Job) (c : CutPlan) (d : Count) (p : Option PointName) :
    Affects [.trk, .rlg, .bat, .shu, .lbc, .wnd, .lsc, .emb] s (s.takeCut j c d p) := by
  unfold State.takeCut
  split
  · exact (s.fireCut_affects j d p _).mono (by decide)
  · exact (s.refuseCut_affects j c d _).mono (by decide)

theorem State.tryWaiting_affects (s : State) (j : Job) :
    Affects [.trk, .rlg, .bat, .shu, .lbc, .wnd, .lsc] s (s.tryWaiting j) := by
  unfold State.tryWaiting
  split
  · exact affects_ite _ (s.fireCut_affects j _ _ _) (Affects.refl _ s)
  · exact Affects.refl _ s

theorem State.leadIn_affects (s : State) (j : Job) : Affects [.rlg, .wnd] s (s.leadIn j) :=
  ((((affects_wnd s _).comp (ds := [.rlg, .wnd]) (State.openSegment_affects _ _ _ _)).comp (ds := [.rlg, .wnd])
    (affects_wnd _ _)).comp (affects_wnd _ _))

theorem State.prepareTail_affects (s : State) : Affects [.wnd, .lsc] s s.prepareTail := by
  unfold State.prepareTail
  split
  · exact Affects.refl _ s
  · exact affects_ite _ ((affects_wnd s _).mono (by decide)) ((affects_wnd s _).comp (State.dropPermit_affects _))

/-! ### EventOps -/

theorem State.coverAtInsertion_affects (s : State) (j : Job) (n : Nat) :
    Affects [.trk, .emb] s (s.coverAtInsertion j n) := by
  unfold State.coverAtInsertion
  dsimp only
  have h : Affects [.trk, .emb] s (if ((s.trk.events[n]?).any fun e => s.coverBeginDue j e) = true then s.coverBegin j n
      else s) := affects_ite _ (s.coverBegin_affects j n) (Affects.refl _ s)
  exact affects_ite _ (h.trans (State.liftCheck_affects _ j n)) h

theorem State.enterEvent_affects (s : State) (j : Job) (e : WebEvent) :
    Affects [.trk, .emb, .wnd] s (s.enterEvent j e) :=
  ((affects_trk s _).comp (ds := [.trk, .emb]) (State.coverAtInsertion_affects _ j _)).comp
    (State.judgeSplices_affects _ j)

theorem State.arrive_affects (s : State) (j : Job) (e : WebEvent) :
    Affects [.trk, .emb, .wnd, .rlg, .lsc] s (s.arrive j e) :=
  affects_ite _ (s.fullArrival_affects.mono (by decide)) ((s.enterEvent_affects j e).mono (by decide))

theorem State.openingOccasion_affects (s : State) (j : Job) :
    Affects [.trk, .emb, .wnd, .rlg, .lsc] s (s.openingOccasion j) :=
  affects_ite _ (s.arrive_affects j _) (Affects.refl _ s)

theorem State.closeDefect_affects (s : State) (j : Job) (f : WebEvent → Nat) :
    Affects [.trk, .emb] s (s.closeDefect j f) := by
  unfold State.closeDefect
  split
  · exact Affects.refl _ s
  · dsimp only
    split
    · exact (s.modifyEvent_affects _ _).comp (State.coverClosed_affects _ j _)
    · exact (s.modifyEvent_affects _ _).mono (by decide)

/-! ### MarkOps -/

theorem State.appendRecord_affects (s : State) (j : Job) (r : RepeatRecord) :
    Affects [.trk, .shu, .emb, .wnd] s (s.appendRecord j r) :=
  (((affects_trk s _).comp (ds := [.trk, .shu]) (State.addStart_affects _ j r)).comp (ds := [.trk, .shu, .emb])
    (State.addWindow_affects _ j r)).comp (State.winderAppend_affects _ j r)

theorem State.fixOrigin_affects (s : State) (j : Job) (o : Count) (k : OriginKind) :
    Affects [.msc, .trk, .shu, .emb, .wnd] s (s.fixOrigin j o k) :=
  (affects_msc s _).comp (State.appendRecord_affects _ j _)

theorem State.setRef_affects (s : State) (x : RefState) (n : Nat) : Affects [.msc] s (s.setRef x n) := affects_msc s _

theorem State.refLost_affects (s : State) (n : Nat) : Affects [.msc, .lsc, .emb] s (s.refLost n) := by
  unfold State.refLost
  refine Affects.comp (bs := [.msc]) (cs := [.lsc, .emb]) ?_ (State.raiseCause_affects _ _)
  refine (s.setRef_affects .lost n).trans ?_
  split
  · exact (State.raiseNotice_affects _ _).mono (by decide)
  · exact Affects.refl _ _

theorem State.referenceExpiry_affects (s : State) (j : Job) :
    Affects [.msc, .trk, .shu, .emb, .wnd, .lsc] s (s.referenceExpiry j) := by
  unfold State.referenceExpiry
  split
  · exact Affects.refl _ s
  · refine Affects.comp (bs := [.msc, .lsc, .emb]) (cs := [.msc, .trk, .shu, .emb, .wnd]) ?_
      (State.fixOrigin_affects _ j _ _)
    exact affects_ite _ ((s.setRef_affects _ _).mono (by decide)) (s.refLost_affects _)

theorem State.reacquisitionExpiry_affects (s : State) (j : Job) :
    Affects [.msc, .trk, .shu, .emb, .wnd] s (s.reacquisitionExpiry j) := by
  unfold State.reacquisitionExpiry
  split
  · exact Affects.refl _ s
  · exact s.fixOrigin_affects j _ _

theorem State.takeExpiry_affects (s : State) (j : Job) :
    Affects [.msc, .trk, .shu, .emb, .wnd, .lsc] s (s.takeExpiry j) := by
  unfold State.takeExpiry
  refine affects_ite _ ?_ (Affects.refl _ s)
  split
  · exact s.referenceExpiry_affects j
  · exact s.referenceExpiry_affects j
  · exact (s.reacquisitionExpiry_affects j).mono (by decide)
  · exact Affects.refl _ s

theorem State.offerEdge_affects (s : State) (j : Job) (c : Capture) (x : Count) :
    Affects [.msc, .trk] s (s.offerEdge j c x) := by
  unfold State.offerEdge
  refine affects_ite _ ?_ (Affects.refl _ s)
  exact affects_ite _ ((affects_msc s _).mono (by decide)) ((s.updateRecord_affects _ _).comp (affects_msc _ _))

theorem State.otherEdge_affects (s : State) (j : Job) (x : Count) : Affects [.msc, .trk] s (s.otherEdge j x) := by
  unfold State.otherEdge
  split
  · exact affects_ite _ (s.offerEdge_affects j _ x) (Affects.refl _ s)
  · exact affects_ite _ ((affects_msc s _).mono (by decide)) (Affects.refl _ s)

theorem State.takeEdge_affects (s : State) (j : Job) (x : Count) :
    Affects [.msc, .trk, .shu, .emb, .wnd, .lsc] s (s.takeEdge j x) := by
  refine (s.takeExpiry_affects j).trans ?_
  exact affects_ite _ ((State.setRef_affects _ _ _).comp (State.fixOrigin_affects _ j _ _))
    ((State.otherEdge_affects _ j x).mono (by decide))

theorem State.popClosing_affects (s : State) : Affects [.msc] s s.popClosing := affects_msc s _

theorem State.closeCapture_affects (s : State) (j : Job) (c : Closing) :
    Affects [.msc, .trk, .rlp, .stg, .lsc, .emb] s (s.closeCapture j c) := by
  unfold State.closeCapture
  split
  · exact (s.popClosing_affects.trans (affects_msc _ _)).comp (State.outcomeTransfer_affects _ _ _ _)
  · exact s.popClosing_affects.mono (by decide)

theorem State.closeFlywheel_affects (s : State) (c : Closing) :
    Affects [.msc, .trk, .rlp, .stg, .lsc, .emb] s (s.closeFlywheel c) :=
  s.popClosing_affects.comp (State.outcomeTransfer_affects _ _ _ _)

theorem State.scannerStart_affects (s : State) : Affects [.msc] s s.scannerStart := affects_msc s _

/-! ### LineOps -/

theorem State.registerReturn_affects (s : State) : Affects [.rlp, .stg] s s.registerReturn :=
  s.abortStations_affects.comp (State.mapStations_affects _ _)

theorem State.embossReturn_affects (s : State) : Affects [.emb, .stg] s s.embossReturn :=
  s.abortEmboss_affects.comp (affects_emb _ _)

/-- The last steps of the return to READY. -/
theorem State.boundary_affects (a : State) :
    Affects [.emb, .msc, .wnd, .lsc] a ({ a with
      msc := a.msc.atBoundary, wnd := a.wnd.atReturn,
      lsc := { a.lsc with latched := {}, runPermit := false } } : State) :=
  ((affects_msc a a.msc.atBoundary).comp (ds := [.msc, .wnd]) (affects_wnd _ a.wnd.atReturn)).comp
    (affects_lsc _ { a.lsc with latched := {}, runPermit := false })

theorem State.returnToReady_affects (s : State) :
    Affects [.rlp, .stg, .emb, .shu, .trk, .msc, .wnd, .lsc] s s.returnToReady := by
  unfold State.returnToReady
  refine Affects.comp (bs := [.rlp, .stg, .emb, .shu, .trk, .msc, .wnd, .lsc]) (cs := [.lsc, .emb]) ?_
    (State.setLineState_affects _ _)
  refine Affects.comp (bs := [.rlp, .stg, .emb, .shu, .trk]) (cs := [.emb, .msc, .wnd, .lsc]) ?_
    (State.boundary_affects _)
  exact (s.registerReturn_affects.comp (ds := [.rlp, .stg, .emb]) (State.embossReturn_affects _)).comp
    (State.shadeReturn_affects _)

theorem State.endLast_affects (s : State) (j : Job) (a : Bool) : Affects [.rlg, .bat, .shu, .lbc, .wnd] s (s.endLast j a) := by
  unfold State.endLast
  split
  · exact Affects.refl _ s
  · exact affects_ite _
      (((s.endEntry_affects _ _ _).comp (ds := [.rlg, .bat, .shu, .lbc, .wnd]) (State.fillSpindle_affects _ _)).comp
        (State.pulseKnife_affects _))
      ((s.endEntry_affects _ _ _).mono (by decide))

theorem State.finishJob_affects (s : State) (j : Job) (a : Bool) :
    Affects [.trk, .msc, .rlp, .stg, .emb, .shu, .wnd, .rlg, .bat, .lbc, .lsc] s (s.finishJob j a) := by
  have h := (((s.endLast_affects j a).comp (ds := [.rlg, .bat, .shu, .lbc, .wnd])
    (State.foldRemaining_affects _ ((s.endLast j a).knifeAt j))).comp (ds := [.rlg, .bat, .shu, .lbc, .wnd, .trk])
      (State.emptyTrack_affects _)).comp (ds := [.rlg, .bat, .shu, .lbc, .wnd, .trk]) (State.examineLog_affects _ j)
  exact h.comp (State.returnToReady_affects _)

theorem State.tailCheck_affects (s : State) (j : Job) :
    Affects [.trk, .msc, .rlp, .stg, .emb, .shu, .wnd, .rlg, .bat, .lbc, .lsc] s (s.tailCheck j) :=
  affects_ite _ (s.finishJob_affects j _) (Affects.refl _ s)

theorem State.takeJob_affects (s : State) (j : Job) :
    Affects [.lsc, .rlp, .msc, .rlg, .emb, .wnd, .bat, .shu] s (s.takeJob j) := by
  have h := (((((affects_lsc s { s.lsc with job := some j, holdMask := some j.mask }).comp (ds := [.lsc, .rlp])
    (affects_rlp _ Rlp.reset)).comp (ds := [.lsc, .rlp, .msc]) (affects_msc _ { s.msc.atBoundary with gates := j.gates })).comp
    (ds := [.lsc, .rlp, .msc, .rlg]) (affects_rlg _ { s.rlg with nextRoll := j.firstRoll })).comp
    (ds := [.lsc, .rlp, .msc, .rlg, .emb]) (affects_emb _ (s.emb.atLoad j))).comp
    (ds := [.lsc, .rlp, .msc, .rlg, .emb, .wnd])
      (affects_wnd _ { s.wnd with pwm := s.wnd.pwm.configure j.torquePeriod j.torquePrescale })
  exact (h.comp (ds := [.lsc, .rlp, .msc, .rlg, .emb, .wnd, .bat, .shu]) (State.batchLoad_affects _ j)).comp
    (State.setLineState_affects _ _)

theorem State.startBlocks_affects (s : State) (j : Job) :
    Affects [.wpu, .msc, .rlp, .emb, .shu, .bat, .rlg, .wnd] s (s.startBlocks j) := by
  have h := (s.mapStations_affects Station.atStart).comp (ds := [.msc, .rlp]) (State.scannerStart_affects _)
  have h2 := ((((h.comp (ds := [.wpu, .msc, .rlp]) (affects_wpu _ { s.wpu with faultCount := 0 })).comp
    (ds := [.wpu, .msc, .rlp, .emb]) (affects_emb _ s.emb.atStart)).comp
    (ds := [.wpu, .msc, .rlp, .emb, .shu]) (affects_shu _ s.shu.atStart)).comp
    (ds := [.wpu, .msc, .rlp, .emb, .shu, .bat]) (affects_bat _ s.bat.atStart))
  exact h2.comp (State.leadIn_affects _ j)

theorem State.examine_affects (s : State) (c : HoldCause) : Affects [.lsc, .emb] s (s.examine c) :=
  affects_ite _ (s.raiseCause_affects c) (Affects.refl _ s)

theorem State.takeStart_affects (s : State) (j : Job) :
    Affects [.wpu, .trk, .msc, .rlp, .emb, .shu, .wnd, .rlg, .bat, .lsc] s (s.takeStart j) := by
  have h := (((s.startBlocks_affects j).comp (ds := [.wpu, .msc, .rlp, .emb, .shu, .bat, .rlg, .wnd, .lsc])
    (affects_lsc _ { (s.startBlocks j).lsc with runPermit := true })).comp
    (ds := [.wpu, .msc, .rlp, .emb, .shu, .bat, .rlg, .wnd, .lsc]) (State.setLineState_affects _ .run)).comp
    (ds := [.wpu, .trk, .msc, .rlp, .emb, .shu, .wnd, .rlg, .bat, .lsc]) (State.openingOccasion_affects _ j)
  exact (((h.comp (ds := [.wpu, .trk, .msc, .rlp, .emb, .shu, .wnd, .rlg, .bat, .lsc])
    (State.examine_affects _ .encoder)).comp (ds := [.wpu, .trk, .msc, .rlp, .emb, .shu, .wnd, .rlg, .bat, .lsc])
    (State.examine_affects _ .overspeed)).comp (ds := [.wpu, .trk, .msc, .rlp, .emb, .shu, .wnd, .rlg, .bat, .lsc])
    (State.examine_affects _ .headOffline)).comp (State.examine_affects _ .printerOffline)

theorem State.takeEnd_affects (s : State) (j : Job) :
    Affects [.trk, .msc, .rlp, .stg, .emb, .shu, .wnd, .rlg, .bat, .lbc, .lsc] s (s.takeEnd j) :=
  ((s.setLineState_affects .ending).comp (ds := [.wnd, .lsc, .emb]) (State.prepareTail_affects _)).comp
    (State.tailCheck_affects _ j)

theorem State.clearLatched_affects (s : State) : Affects [.lsc] s s.clearLatched := affects_lsc s _

theorem State.waitingTail_affects (s : State) (j : Job) :
    Affects [.trk, .msc, .rlp, .stg, .emb, .shu, .wnd, .rlg, .bat, .lbc, .lsc] s ((s.tryWaiting j).tailCheck j) :=
  (s.tryWaiting_affects j).comp (State.tailCheck_affects _ j)

theorem State.takeDoff_affects (s : State) (k : Spindle) :
    Affects [.trk, .msc, .rlp, .stg, .emb, .shu, .wnd, .rlg, .bat, .lbc, .lsc] s (s.takeDoff k) := by
  unfold State.takeDoff
  split
  · refine Affects.trans (Affects.comp (bs := [.wnd]) (cs := [.lbc, .rlg]) (s.putSpindle_affects k .empty) ?_)
      (affects_withJob _ _ fun j => State.waitingTail_affects _ j)
    split
    · exact State.doffEntry_affects _ _
    · exact Affects.refl _ _
  all_goals exact Affects.refl _ s

theorem State.takeRelease_affects (s : State) (n : BitVec 32) :
    Affects [.trk, .msc, .rlp, .stg, .emb, .shu, .wnd, .rlg, .bat, .lbc, .lsc] s (s.takeRelease n) :=
  affects_ite _ ((affects_rlg s _).mono (by decide))
    ((affects_rlg s _).comp (affects_withJob _ _ fun j => State.waitingTail_affects _ j))

end Sys2Proof.Machine
end

