-- ==== Sys2Proof/Laws/Links.lean ====
section
/-! SUPPORT. The arbiter and the links: what the end of an event does to each half, what raised notices and pushed replies
leave to send, and the frames of a request. -/

namespace Sys2Proof.Machine

-- one proof at a time: the joined package would else open a thread for each of them
set_option Elab.async false

/-! ### The arbiter, half by half -/

/-- What the arbiter makes of one half, when a notice's content would be as given. -/
def LinkHalf.advance (h : LinkHalf) (body : Notice → NoticeBody) : LinkHalf :=
  match h.tx with
  | some _ => h
  | none =>
    match Notice.pick (h.slots.filter Notice.isHigh) with
    | some n => { h with tx := some (.notice n (body n)), slots := h.slots.erase n }
    | none =>
      match h.replies with
      | r :: rs => { h with tx := some (.reply r), replies := rs }
      | [] =>
        match Notice.pick h.slots with
        | some n => { h with tx := some (.notice n (body n)), slots := h.slots.erase n }
        | none => h

theorem State.sendNext_line (s : State) :
    s.sendNext .line = { s with lnk := { s.lnk with line := s.lnk.line.advance s.noticeBody } } := by
  unfold State.sendNext LinkHalf.advance
  dsimp only [State.half]
  cases h1 : s.lnk.line.tx with
  | some f => rfl
  | none =>
    cases h2 : Notice.pick (s.lnk.line.slots.filter Notice.isHigh) with
    | some n => rfl
    | none =>
      cases h3 : s.lnk.line.replies with
      | cons r rs => rfl
      | nil => cases h4 : Notice.pick s.lnk.line.slots <;> rfl

theorem State.sendNext_service (s : State) :
    s.sendNext .service = { s with lnk := { s.lnk with service := s.lnk.service.advance s.noticeBody } } := by
  unfold State.sendNext LinkHalf.advance
  dsimp only [State.half]
  cases h1 : s.lnk.service.tx with
  | some f => rfl
  | none =>
    cases h2 : Notice.pick (s.lnk.service.slots.filter Notice.isHigh) with
    | some n => rfl
    | none =>
      cases h3 : s.lnk.service.replies with
      | cons r rs => rfl
      | nil => cases h4 : Notice.pick s.lnk.service.slots <;> rfl

/-- The end of an event lets both arbiters go on, and does nothing else. -/
theorem State.endOfEvent_eq (s : State) :
    s.endOfEvent = { s with lnk := { line := s.lnk.line.advance s.noticeBody,
                                     service := s.lnk.service.advance s.noticeBody } } := by
  have body : ∀ x : LinkHalf, (({ s with lnk := { s.lnk with line := x } } : State)).noticeBody = s.noticeBody := by
    intro x
    funext n
    cases n <;> rfl
  rw [State.endOfEvent, State.sendNext_line, State.sendNext_service]
  exact congrArg (fun f => ({ s with lnk := { line := s.lnk.line.advance s.noticeBody,
                                              service := s.lnk.service.advance f } } : State)) (body _)

theorem State.endOfEvent_sameBut (s : State) : SameBut [.lnk] s s.endOfEvent := by
  rw [State.endOfEvent_eq]
  intro b hb
  cases b <;> first | rfl | simp at hb

theorem State.half_endOfEvent (s : State) (k : LinkId) : s.endOfEvent.half k = (s.half k).advance s.noticeBody := by
  rw [State.endOfEvent_eq]
  cases k <;> rfl

/-! ### Picking a notice -/

theorem Notice.pick_mem {l : List Notice} {n : Notice} : Notice.pick l = some n → n ∈ l := by
  induction l generalizing n with
  | nil => simp [Notice.pick]
  | cons a as ih =>
    intro h
    simp only [Notice.pick] at h
    split at h
    · simp_all
    · rename_i m hm
      split at h
      · cases h
        exact List.mem_cons_of_mem _ (ih hm)
      · simp_all

theorem Notice.pick_none {l : List Notice} : Notice.pick l = none → l = [] := by
  cases l with
  | nil => simp
  | cons a as =>
    intro h
    simp only [Notice.pick] at h
    split at h
    · cases h
    · split at h <;> cases h

/-! ### What an advance keeps -/

theorem LinkHalf.advance_outgoing (h : LinkHalf) (b : Notice → NoticeBody) : (h.advance b).outgoing = h.outgoing := by
  unfold LinkHalf.advance
  split
  · rfl
  · rename_i h1
    split
    · simp [LinkHalf.outgoing, h1]
    · split
      · rename_i r rs hr
        simp [LinkHalf.outgoing, h1, hr]
      · rename_i hr
        split
        · simp [LinkHalf.outgoing, h1, hr]
        · rfl

theorem LinkHalf.advance_receiver (h : LinkHalf) (b : Notice → NoticeBody) : h.sameReceiver (h.advance b) := by
  unfold LinkHalf.advance
  split
  · simp [LinkHalf.sameReceiver]
  · split
    · simp [LinkHalf.sameReceiver]
    · split
      · simp [LinkHalf.sameReceiver]
      · split <;> simp [LinkHalf.sameReceiver]

/-- A notice taken to be sent is shown as before. -/
theorem LinkHalf.take_shows (h : LinkHalf) (n m : Notice) (body : NoticeBody) (h1 : h.tx = none) (h2 : n ∈ h.slots) :
    LinkHalf.Shows { h with tx := some (.notice n body), slots := h.slots.erase n } m ↔ h.Shows m := by
  unfold LinkHalf.Shows
  simp only [h1]
  constructor
  · rintro (h3 | ⟨x, h3⟩)
    · exact .inl (List.mem_of_mem_erase h3)
    · simp at h3
      exact .inl (h3.1 ▸ h2)
  · rintro (h3 | ⟨x, h3⟩)
    · by_cases e : m = n
      · exact .inr ⟨body, by rw [e]⟩
      · exact .inl ((List.mem_erase_of_ne e).mpr h3)
    · simp at h3

theorem LinkHalf.advance_shows (h : LinkHalf) (b : Notice → NoticeBody) (m : Notice) :
    (h.advance b).Shows m ↔ h.Shows m := by
  unfold LinkHalf.advance
  split
  · rfl
  · rename_i h1
    split
    · rename_i n hn
      exact h.take_shows n m _ h1 (List.mem_filter.mp (Notice.pick_mem hn)).1
    · split
      · simp [LinkHalf.Shows, h1]
      · split
        · rename_i n hn
          exact h.take_shows n m _ h1 (Notice.pick_mem hn)
        · rfl

/-- After the arbiter, an idle transmitter has nothing to send. -/
theorem LinkHalf.advance_quiet (h : LinkHalf) (b : Notice → NoticeBody) :
    (h.advance b).tx = none → (h.advance b).replies = [] ∧ (h.advance b).slots = [] := by
  unfold LinkHalf.advance
  split
  · rename_i h1
    simp [h1]
  · split
    · simp
    · split
      · simp
      · rename_i hr
        split
        · simp
        · rename_i hn
          exact fun _ => ⟨hr, Notice.pick_none hn⟩

/-! ### Raised notices -/

theorem LinkHalf.raise_outgoing (h : LinkHalf) (n : Notice) : (h.raise n).outgoing = h.outgoing := by
  unfold LinkHalf.raise
  split <;> rfl

theorem LinkHalf.raise_receiver (h : LinkHalf) (n : Notice) : h.sameReceiver (h.raise n) := by
  unfold LinkHalf.raise
  split <;> simp [LinkHalf.sameReceiver]

theorem LinkHalf.raise_shows (h : LinkHalf) (n m : Notice) :
    (h.raise n).Shows m ↔ h.Shows m ∨ (m = n ∧ h.mask.getLsbD n.kindIndex = true) := by
  unfold LinkHalf.raise LinkHalf.Shows
  split
  · rename_i c
    simp only [Bool.and_eq_true] at c
    simp only [List.mem_append, List.mem_singleton]
    constructor
    · rintro ((a | a) | a)
      · exact .inl (.inl a)
      · exact .inr ⟨a, c.1⟩
      · exact .inl (.inr a)
    · rintro ((a | a) | a)
      · exact .inl (.inl a)
      · exact .inr a
      · exact .inl (.inr a.1)
  · rename_i c
    simp only [Bool.and_eq_true, not_and, Bool.not_eq_true', Bool.not_eq_false] at c
    constructor
    · exact fun a => .inl a
    · rintro (a | ⟨rfl, a⟩)
      · exact a
      · have := c a
        exact .inl (by simpa using this)

theorem LinkHalf.raises (ns : List Notice) : ∀ h : LinkHalf,
    (ns.foldl LinkHalf.raise h).outgoing = h.outgoing ∧ h.sameReceiver (ns.foldl LinkHalf.raise h) ∧
      ∀ m, (ns.foldl LinkHalf.raise h).Shows m ↔ h.Shows m ∨ (m ∈ ns ∧ h.mask.getLsbD m.kindIndex = true) := by
  induction ns with
  | nil => intro h; simp [LinkHalf.sameReceiver]
  | cons n ns ih =>
    intro h
    have r := h.raise_receiver n
    obtain ⟨h1, h2, h3⟩ := ih (h.raise n)
    simp only [List.foldl_cons]
    refine ⟨h1.trans (h.raise_outgoing n), ?_, ?_⟩
    · unfold LinkHalf.sameReceiver at *
      obtain ⟨a1, a2, a3, a4, a5, a6, a7, a8, a9⟩ := r
      obtain ⟨b1, b2, b3, b4, b5, b6, b7, b8, b9⟩ := h2
      exact ⟨b1.trans a1, b2.trans a2, b3.trans a3, b4.trans a4, b5.trans a5, b6.trans a6, b7.trans a7, b8.trans a8,
        b9.trans a9⟩
    · intro m
      rw [h3, h.raise_shows, r.2.2.2.2.2.2.2.1, List.mem_cons]
      constructor
      · rintro ((a | ⟨rfl, a⟩) | ⟨a, b⟩)
        · exact .inl a
        · exact .inr ⟨.inl rfl, a⟩
        · exact .inr ⟨.inr a, b⟩
      · rintro (a | ⟨a | a, b⟩)
        · exact .inl (.inl a)
        · exact .inl (.inr ⟨a, a ▸ b⟩)
        · exact .inr ⟨a, b⟩

theorem State.half_raised (s t : State) (ns : List Notice) (h : t.lnk = s.lnk.raised ns) (k : LinkId) :
    t.half k = ns.foldl LinkHalf.raise (s.half k) := by
  cases k <;> simp [State.half, h, Lnk.raised]

theorem LinkHalf.sameReceiver_trans {a b c : LinkHalf} (h : a.sameReceiver b) (k : b.sameReceiver c) :
    a.sameReceiver c := by
  unfold LinkHalf.sameReceiver at *
  obtain ⟨a1, a2, a3, a4, a5, a6, a7, a8, a9⟩ := h
  obtain ⟨b1, b2, b3, b4, b5, b6, b7, b8, b9⟩ := k
  exact ⟨b1.trans a1, b2.trans a2, b3.trans a3, b4.trans a4, b5.trans a5, b6.trans a6, b7.trans a7, b8.trans a8,
    b9.trans a9⟩

/-- An event whose operation raises notices and touches no link otherwise. -/
theorem State.endOfEvent_silent (s u : State) (ns : List Notice) (h : u.lnk = s.lnk.raised ns) :
    Silent s u.endOfEvent ns := by
  have half : ∀ k, u.endOfEvent.half k = (ns.foldl LinkHalf.raise (s.half k)).advance u.noticeBody := fun k => by
    rw [State.half_endOfEvent, State.half_raised s u ns h]
  refine ⟨fun k => ?_, fun k n => ?_⟩
  · obtain ⟨h1, h2, _⟩ := LinkHalf.raises ns (s.half k)
    rw [half]
    exact ⟨(LinkHalf.advance_outgoing _ _).trans h1, LinkHalf.sameReceiver_trans h2 (LinkHalf.advance_receiver _ _)⟩
  · rw [half, LinkHalf.advance_shows]
    exact (LinkHalf.raises ns (s.half k)).2.2 n

/-! ### Replies -/

theorem State.half_putHalf (s : State) (l k : LinkId) (x : LinkHalf) :
    (s.putHalf l x).half k = if k = l then x else s.half k := by
  cases l <;> cases k <;> rfl

theorem State.putHalf_sameBut (s : State) (l : LinkId) (x : LinkHalf) : SameBut [.lnk] s (s.putHalf l x) := by
  cases l <;> (intro b hb; cases b <;> first | rfl | simp at hb)

theorem State.pushReply_sameBut (s : State) (l : LinkId) (kind tag : Byte) (st : Status) (b : ReplyBody) :
    SameBut [.lnk] s (s.pushReply l kind tag st b) := s.putHalf_sameBut l _

/-- An event that raises notices and then queues a reply on link l. -/
theorem State.endOfEvent_replied (s u : State) (ns : List Notice) (l : LinkId) (kind tag : Byte) (st : Status)
    (body : ReplyBody) (h : u.lnk = s.lnk.raised ns) :
    Replied s (u.pushReply l kind tag st body).endOfEvent l ⟨kind + 0x80, tag, st, body⟩ ns := by
  have half : ∀ k, ∃ b, (u.pushReply l kind tag st body).endOfEvent.half k =
      (if k = l then ({ (ns.foldl LinkHalf.raise (s.half k)) with
          replies := (ns.foldl LinkHalf.raise (s.half k)).replies ++ [⟨kind + 0x80, tag, st, body⟩] } : LinkHalf)
        else ns.foldl LinkHalf.raise (s.half k)).advance b := fun k => by
    refine ⟨(u.pushReply l kind tag st body).noticeBody, ?_⟩
    rw [State.half_endOfEvent, State.pushReply, State.half_putHalf, State.half_raised s u ns h,
      State.half_raised s u ns h]
    by_cases e : k = l
    · subst e
      simp
    · simp [e]
  have pushed : ∀ (x : LinkHalf) (r : Reply), LinkHalf.outgoing { x with replies := x.replies ++ [r] } = x.outgoing ++ [r] := by
    intro x r
    simp [LinkHalf.outgoing]
  refine ⟨fun k => ?_, fun k n => ?_⟩
  · obtain ⟨h1, h2, _⟩ := LinkHalf.raises ns (s.half k)
    obtain ⟨b, hb⟩ := half k
    rw [hb]
    by_cases e : k = l
    · simp only [e, if_true] at *
      exact ⟨by rw [LinkHalf.advance_outgoing, pushed, h1], LinkHalf.sameReceiver_trans h2
        (LinkHalf.sameReceiver_trans (by simp [LinkHalf.sameReceiver]) (LinkHalf.advance_receiver _ _))⟩
    · simp only [e, if_false] at *
      exact ⟨by rw [LinkHalf.advance_outgoing, h1]; simp, LinkHalf.sameReceiver_trans h2 (LinkHalf.advance_receiver _ _)⟩
  · obtain ⟨b, hb⟩ := half k
    rw [hb, LinkHalf.advance_shows]
    rw [← (LinkHalf.raises ns (s.half k)).2.2 n]
    by_cases e : k = l <;> simp [e, LinkHalf.Shows]

end Sys2Proof.Machine
end

