-- ==== Sys2Proof/Laws/Requests.lean ====
section
/-! SUPPORT. What serving a request may change: one Affects lemma for each service that leaves the links to the reply, and
the frame of serving it on a link. -/

namespace Sys2Proof.Machine

-- one proof at a time: the joined package would else open a thread for each of them
set_option Elab.async false

@[simp] theorem done_fst (s : State) (b : ReplyBody) : (done s b).1 = s := rfl
@[simp] theorem done_status (s : State) (b : ReplyBody) : (done s b).2.1 = .done := rfl
@[simp] theorem done_body (s : State) (b : ReplyBody) : (done s b).2.2 = b := rfl
@[simp] theorem refuse_fst (s : State) (x : Status) : (refuse s x).1 = s := rfl
@[simp] theorem badField_fst (s : State) (n : Nat) : (badField s n).1 = s := rfl

/-- An answer whose state affects some blocks. -/
def Service.Acts (x : Service) (bs : List Block) : Prop := ∀ s, Affects bs s (x.act s).1

theorem State.answer_affects (s : State) (l : LinkId) (x : Service) (bs : List Block) (h : x.Acts bs) :
    Affects bs s (s.answer l x).1 := by
  unfold State.answer
  split
  · split
    · exact h s
    · exact Affects.refl _ s
  · exact Affects.refl _ s

theorem State.serve_sameBut (s : State) (l : LinkId) (tag : Byte) (x : Service) (bs : List Block) (h : x.Acts bs) :
    SameBut (.lnk :: bs) s (s.serve l tag x) := by
  exact (s.answer_affects l x bs h).1.trans ((State.pushReply_sameBut _ _ _ _ _ _).mono (by simp))

theorem State.request_sameBut (s : State) (l : LinkId) (tag : Byte) (x : Service) (bs : List Block) (h : x.Acts bs) :
    SameBut (.lnk :: bs) s (s.request l tag x) := by
  unfold State.request
  split
  · exact s.serve_sameBut l tag x bs h
  · exact (s.putHalf_sameBut l _).mono (by simp)

/-- A request that fits and is permitted is answered by its owner. -/
theorem State.serve_of (s : State) (l : LinkId) (tag : Byte) (x : Service) (fits : x.fits = true)
    (allowed : s.permits l x.cls x.lineOnly = true) :
    s.serve l tag x = (x.act s).1.pushReply l x.kind tag (x.act s).2.1 (x.act s).2.2 := by
  simp [State.serve, State.answer, fits, allowed]

/-- A request that arrives where the link may take it is served at once. -/
theorem State.request_of (s : State) (l : LinkId) (tag : Byte) (x : Service) (take : s.mayTake l = true) :
    s.request l tag x = s.serve l tag x := by
  simp [State.request, take]

/-- A request that arrives where the link may not take it is offered to the request queue. -/
theorem State.request_waits (s : State) (l : LinkId) (tag : Byte) (x : Service) (wait : s.mayTake l = false) :
    s.request l tag x = s.putHalf l ((s.half l).enqueue ⟨x.kind, tag, x.payload⟩) := by
  simp [State.request, wait]

/-- A command that serves a request answers what its owner answers, on a link that may take it and permits it. -/
theorem answers_of {c : Instr} {s : State} {l : LinkId} {tag : Byte} (x : Service) (ns : List Notice)
    (h : exec c s = .next (s.request l tag x).endOfEvent) (take : s.mayTake l = true) (fits : x.fits = true)
    (allowed : s.permits l x.cls x.lineOnly = true) (raised : (x.act s).1.lnk = s.lnk.raised ns) :
    Answers c s l ⟨x.kind + 0x80, tag, (x.act s).2.1, (x.act s).2.2⟩ ns (x.act s).1 := by
  refine ⟨_, h, ?_, ?_⟩
  · rw [s.request_of l tag x take, s.serve_of l tag x fits allowed]
    exact (State.pushReply_sameBut _ _ _ _ _ _).trans (State.endOfEvent_sameBut _)
  · rw [s.request_of l tag x take, s.serve_of l tag x fits allowed]
    exact State.endOfEvent_replied s _ ns l _ tag _ _ raised

theorem State.answerWithJob_affects (s : State) (bs : List Block) (f : Job → Answer) (h : ∀ j, Affects bs s (f j).1) :
    Affects bs s (s.answerWithJob f).1 := by
  unfold State.answerWithJob
  split
  · exact Affects.refl _ s
  · exact h _

theorem identifyService_acts (l : LinkId) : (identifyService l).Acts [] := fun s => Affects.refl _ s
theorem lineStatusService_acts : lineStatusService.Acts [.lsc] := fun s => affects_lsc s _
theorem probeService_acts (d : Count) : (probeService d).Acts [] := fun s => Affects.refl _ s

theorem stationStatusService_acts (b : Byte) : (stationStatusService b).Acts [.rlp] := by
  intro s
  simp only [stationStatusService]
  split
  · exact Affects.refl _ s
  · exact s.putStation_affects _ _

theorem embossStatusService_acts : embossStatusService.Acts [.emb] := fun s => affects_emb s _
theorem shadeStatusService_acts : shadeStatusService.Acts [.shu] := fun s => affects_shu s _
theorem winderStatusService_acts : winderStatusService.Acts [] := fun s => Affects.refl _ s

theorem rollReadService_acts (n : BitVec 32) : (rollReadService n).Acts [] := by
  intro s
  simp only [rollReadService]
  split <;> exact Affects.refl _ s

theorem batchReportService_acts : batchReportService.Acts [.bat] := fun s => affects_bat s _

theorem batchReadService_acts (b : Byte) : (batchReadService b).Acts [] := by
  intro s
  simp only [batchReadService]
  split <;> exact Affects.refl _ s

theorem labelStatusService_acts : labelStatusService.Acts [] := fun s => Affects.refl _ s

theorem startService_acts : startService.Acts [.wpu, .trk, .msc, .rlp, .emb, .shu, .wnd, .rlg, .bat, .lsc] := by
  intro s
  simp only [startService]
  split
  · refine s.answerWithJob_affects _ _ fun j => ?_
    split
    · exact Affects.refl _ s
    · split
      · exact Affects.refl _ s
      · exact s.takeStart_affects j
  · exact Affects.refl _ s

theorem holdService_acts : holdService.Acts [.lsc, .emb] := by
  intro s
  simp only [holdService]
  split
  · exact s.raiseCause_affects _
  · exact Affects.refl _ s

theorem resumeService_acts : resumeService.Acts [.lsc, .emb] := by
  intro s
  simp only [resumeService]
  split
  · split
    · exact (s.clearLatched_affects.trans (affects_lsc _ _)).comp (State.setLineState_affects _ _)
    · exact s.clearLatched_affects.mono (by decide)
  · exact Affects.refl _ s

theorem endJobService_acts :
    endJobService.Acts [.trk, .msc, .rlp, .stg, .emb, .shu, .wnd, .rlg, .bat, .lbc, .lsc] := by
  intro s
  simp only [endJobService]
  split
  · refine s.answerWithJob_affects _ _ fun j => ?_
    rw [done_fst]
    exact s.takeEnd_affects j
  · exact Affects.refl _ s

theorem abortJobService_acts :
    abortJobService.Acts [.trk, .msc, .rlp, .stg, .emb, .shu, .wnd, .rlg, .bat, .lbc, .lsc] := by
  intro s
  simp only [abortJobService]
  split
  · refine s.answerWithJob_affects _ _ fun j => ?_
    rw [done_fst]
    exact s.finishJob_affects j true
  · exact Affects.refl _ s

theorem State.onStation_affects (s : State) (b : Byte) (f : StationId → State) (bs : List Block)
    (h : ∀ i, Affects bs s (f i)) : Affects bs s (s.onStation b f).1 := by
  unfold State.onStation
  split
  · exact Affects.refl _ s
  · split
    · exact Affects.refl _ s
    · split
      · exact h _
      · exact Affects.refl _ s

theorem stationEngageService_acts (b : Byte) : (stationEngageService b).Acts [.rlp] := by
  intro s
  refine s.onStation_affects b _ _ fun i => ?_
  exact affects_ite _ (Affects.refl _ s) (s.engage_affects i)

theorem stationDisengageService_acts (b : Byte) : (stationDisengageService b).Acts [.rlp, .stg, .lsc, .emb] := by
  intro s
  refine s.onStation_affects b _ _ fun i => ?_
  exact affects_ite _ (s.disengage_affects i) (Affects.refl _ s)

theorem tuneStationService_acts (b : Byte) (g d : BitVec 16) (a : Byte) (t : BitVec 16) :
    (tuneStationService b g d a t).Acts [.rlp] := by
  intro s
  simp only [tuneStationService]
  split
  · exact Affects.refl _ s
  · split
    · exact Affects.refl _ s
    · split
      · split
        · exact Affects.refl _ s
        · exact s.putStation_affects _ _
      · exact Affects.refl _ s

theorem embossLiftService_acts : embossLiftService.Acts [.emb] := by
  intro s
  simp only [embossLiftService]
  split
  · exact (affects_emb s _).trans (State.evaluateNip_affects _)
  · exact Affects.refl _ s

theorem embossCloseService_acts : embossCloseService.Acts [.emb] := by
  intro s
  simp only [embossCloseService]
  split
  · exact (affects_emb s _).trans (State.evaluateNip_affects _)
  · exact Affects.refl _ s

theorem markEventService_acts : markEventService.Acts [.trk, .emb, .wnd, .rlg, .lsc] := by
  intro s
  simp only [markEventService]
  split
  · exact s.answerWithJob_affects _ _ fun j => s.arrive_affects j _
  · exact Affects.refl _ s

theorem releaseService_acts (n : BitVec 32) :
    (releaseService n).Acts [.trk, .msc, .rlp, .stg, .emb, .shu, .wnd, .rlg, .bat, .lbc, .lsc] :=
  fun s => by
    simp only [releaseService, done_fst]
    exact s.takeRelease_affects n

theorem reprintService_acts (n : BitVec 32) (p : Byte) : (reprintService n p).Acts [.lbc, .rlg] := by
  intro s
  simp only [reprintService]
  split
  · exact Affects.refl _ s
  · split
    · exact Affects.refl _ s
    · split
      · exact s.answerWithJob_affects _ _ fun j => (s.enqueueLabel_affects j _ _).trans (State.labelWork_affects _)
      · exact Affects.refl _ s

theorem closeBatchService_acts (c : BitVec 16) : (closeBatchService c).Acts [.bat, .shu] := by
  intro s
  simp only [closeBatchService]
  split
  · split
    · exact Affects.refl _ s
    · exact s.closeBatchAt_affects _
  · exact Affects.refl _ s

theorem headResetService_acts : headResetService.Acts [.shu] := fun s => affects_shu s _

theorem printerResetService_acts (p : Byte) : (printerResetService p).Acts [.lbc, .rlg] := by
  intro s
  simp only [printerResetService]
  split
  · exact Affects.refl _ s
  · exact s.resetPrinter_affects _

theorem loadJobService_acts (p : List Byte) :
    (loadJobService p).Acts [.lsc, .rlp, .msc, .rlg, .emb, .wnd, .bat, .shu] := by
  intro s
  simp only [loadJobService]
  split
  · split
    · exact Affects.refl _ s
    · exact s.takeJob_affects _
  · exact Affects.refl _ s

theorem setStationService_acts (p : List Byte) : (setStationService p).Acts [.rlp] := by
  intro s
  simp only [setStationService]
  split
  · refine s.answerWithJob_affects _ _ fun j => ?_
    split
    · exact Affects.refl _ s
    · exact s.putStation_affects _ _
  · exact Affects.refl _ s

theorem pinBatchService_acts (c l a b : BitVec 16) : (pinBatchService c l a b).Acts [.bat, .shu] := by
  intro s
  simp only [pinBatchService]
  split
  · exact Affects.refl _ s
  · split
    · exact Affects.refl _ s
    · exact s.pinAt_affects _ _ _

theorem purgeBatchesService_acts (f l i : Byte) : (purgeBatchesService f l i).Acts [.bat] := by
  intro s
  simp only [purgeBatchesService]
  split
  · exact Affects.refl _ s
  · exact affects_bat s _

theorem setBatchCodeService_acts (c : BitVec 16) : (setBatchCodeService c).Acts [.bat] := by
  intro s
  simp only [setBatchCodeService]
  split
  · split
    · exact affects_bat s _
    · exact Affects.refl _ s
  · exact Affects.refl _ s

theorem grantService_acts : grantService.Acts [.lsc] := fun s => affects_lsc s _
theorem revokeService_acts : revokeService.Acts [.lsc] := fun s => affects_lsc s _

end Sys2Proof.Machine
end

