-- ==== Sys2Proof/Laws/State.lean ====
section
/-! SUPPORT. Reading after writing: one lemma for each field and each update of the indexed parts of the state, and what
the end of an event, a line state and an evaluation of the nip leave in each field. -/

namespace Sys2Proof.Machine

-- one proof at a time: the joined package would else open a thread for each of them
set_option Elab.async false

/-! ### Stations, channels, halves, printers, spindles -/

theorem State.station_putStation (s : State) (i k : StationId) (x : Station) :
    (s.putStation i x).station k = if k = i then x else s.station k := by
  simp only [State.station, State.putStation, Fin.getElem_fin, Vector.getElem_set]
  by_cases e : k = i
  · subst e; simp
  · have : i.val ≠ k.val := fun h => e (Fin.ext h.symm)
    simp [e, this]

@[simp] theorem State.station_putStation_self (s : State) (i : StationId) (x : Station) :
    (s.putStation i x).station i = x := by simp [State.station_putStation]

theorem State.chan_putChan (s : State) (c k : ChannelId) (x : Channel) :
    (s.putChan c x).chan k = if k = c then x else s.chan k := by
  simp only [State.chan, State.putChan, Fin.getElem_fin, Vector.getElem_set]
  by_cases e : k = c
  · subst e; simp
  · have : c.val ≠ k.val := fun h => e (Fin.ext h.symm)
    simp [e, this]

@[simp] theorem State.chan_putChan_self (s : State) (c : ChannelId) (x : Channel) : (s.putChan c x).chan c = x := by
  simp [State.chan_putChan]

@[simp] theorem State.chan_putStation (s : State) (i : StationId) (x : Station) (c : ChannelId) :
    (s.putStation i x).chan c = s.chan c := rfl

@[simp] theorem State.station_putChan (s : State) (c : ChannelId) (x : Channel) (i : StationId) :
    (s.putChan c x).station i = s.station i := rfl

theorem State.printer_putPrinter (s : State) (p q : Printer) (x : PrinterState) :
    (s.putPrinter p x).printer q = if q = p then x else s.printer q := by
  cases p <;> cases q <;> rfl

theorem State.spindle_putSpindle (s : State) (k l : Spindle) (x : SpindleState) :
    (s.putSpindle k x).spindle l = if l = k then x else s.spindle l := by
  cases k <;> cases l <;> rfl

/-! ### The end of an event changes the links alone -/

@[simp] theorem State.endOfEvent_pins (s : State) : s.endOfEvent.pins = s.pins := s.endOfEvent_sameBut.pins (by decide)
@[simp] theorem State.endOfEvent_wpu (s : State) : s.endOfEvent.wpu = s.wpu := s.endOfEvent_sameBut.wpu (by decide)
@[simp] theorem State.endOfEvent_trk (s : State) : s.endOfEvent.trk = s.trk := s.endOfEvent_sameBut.trk (by decide)
@[simp] theorem State.endOfEvent_msc (s : State) : s.endOfEvent.msc = s.msc := s.endOfEvent_sameBut.msc (by decide)
@[simp] theorem State.endOfEvent_rlp (s : State) : s.endOfEvent.rlp = s.rlp := s.endOfEvent_sameBut.rlp (by decide)
@[simp] theorem State.endOfEvent_stg (s : State) : s.endOfEvent.stg = s.stg := s.endOfEvent_sameBut.stg (by decide)
@[simp] theorem State.endOfEvent_emb (s : State) : s.endOfEvent.emb = s.emb := s.endOfEvent_sameBut.emb (by decide)
@[simp] theorem State.endOfEvent_shu (s : State) : s.endOfEvent.shu = s.shu := s.endOfEvent_sameBut.shu (by decide)
@[simp] theorem State.endOfEvent_wnd (s : State) : s.endOfEvent.wnd = s.wnd := s.endOfEvent_sameBut.wnd (by decide)
@[simp] theorem State.endOfEvent_rlg (s : State) : s.endOfEvent.rlg = s.rlg := s.endOfEvent_sameBut.rlg (by decide)
@[simp] theorem State.endOfEvent_bat (s : State) : s.endOfEvent.bat = s.bat := s.endOfEvent_sameBut.bat (by decide)
@[simp] theorem State.endOfEvent_lbc (s : State) : s.endOfEvent.lbc = s.lbc := s.endOfEvent_sameBut.lbc (by decide)
@[simp] theorem State.endOfEvent_lsc (s : State) : s.endOfEvent.lsc = s.lsc := s.endOfEvent_sameBut.lsc (by decide)
@[simp] theorem State.endOfEvent_pending (s : State) : s.endOfEvent.pending = s.pending :=
  s.endOfEvent_sameBut.pending (by decide)
@[simp] theorem State.endOfEvent_station (s : State) (i : StationId) : s.endOfEvent.station i = s.station i := by
  simp [State.station]
@[simp] theorem State.endOfEvent_chan (s : State) (c : ChannelId) : s.endOfEvent.chan c = s.chan c := by
  simp [State.chan]
@[simp] theorem State.endOfEvent_printer (s : State) (p : Printer) : s.endOfEvent.printer p = s.printer p := by
  cases p <;> simp [State.printer]
@[simp] theorem State.endOfEvent_spindle (s : State) (k : Spindle) : s.endOfEvent.spindle k = s.spindle k := by
  cases k <;> simp [State.spindle]

/-- The end of an event after an operation of known frame. -/
theorem Affects.endOfEvent {bs cs : List Block} {s u : State} (h : Affects bs s u)
    (sub : ∀ b ∈ .lnk :: bs, b ∈ cs := by decide) : SameBut cs s u.endOfEvent :=
  (h.1.mono sub).trans (u.endOfEvent_sameBut.mono fun b hb => by
    have : b = .lnk := by simpa using hb
    exact this ▸ sub _ (by simp))

/-- The end of an event that has touched no link is silent. -/
theorem State.endOfEvent_silent_of_eq (s u : State) (h : u.lnk = s.lnk) : Silent s u.endOfEvent [] :=
  State.endOfEvent_silent s u [] (by rw [h]; rfl)

/-! ### A job in force -/

theorem State.withJob_none {s : State} (f : Job → State) (h : s.lsc.job = none) : s.withJob f = s := by
  simp [State.withJob, h]

theorem State.withJob_some {s : State} {j : Job} (f : Job → State) (h : s.lsc.job = some j) : s.withJob f = f j := by
  simp [State.withJob, h]

/-! ### The close conditions and the nip -/

theorem State.mayClose_iff (s : State) :
    s.mayClose = true ↔ s.lsc.lineState = .run ∧ s.lsc.job.any Job.embossOn = true ∧ s.emb.hostLift = false ∧
      s.emb.zoneActive = false ∧ s.trk.eventLost = false ∧
        (s.lsc.job.any fun j => decide (s.wpu.v < j.vMinEmboss)) = false := by
  simp only [State.mayClose, State.closeFails, Bool.and_eq_true, Bool.not_eq_true', bne_eq_false_iff_eq,
    Bool.not_eq_false']
  constructor
  · rintro ⟨⟨⟨⟨⟨a, b⟩, c⟩, d⟩, e⟩, f⟩
    exact ⟨a, b, c, d, e, f⟩
  · rintro ⟨a, b, c, d, e, f⟩
    exact ⟨⟨⟨⟨⟨a, b⟩, c⟩, d⟩, e⟩, f⟩

theorem State.mayClose_congr {s u : State} (h1 : u.lsc.lineState = s.lsc.lineState) (h2 : u.lsc.job = s.lsc.job)
    (h3 : u.emb.hostLift = s.emb.hostLift) (h4 : u.emb.zoneActive = s.emb.zoneActive)
    (h5 : u.trk.eventLost = s.trk.eventLost) (h6 : u.wpu.v = s.wpu.v) : u.mayClose = s.mayClose := by
  rw [Bool.eq_iff_iff, State.mayClose_iff, State.mayClose_iff, h1, h2, h3, h4, h5, h6]

theorem State.evaluateNip_inputs (s : State) :
    s.evaluateNip.emb.hostLift = s.emb.hostLift ∧ s.evaluateNip.emb.zoneActive = s.emb.zoneActive := by
  unfold State.evaluateNip State.withJob
  repeat' split
  all_goals exact ⟨rfl, rfl⟩

theorem State.evaluateNip_mayClose (s : State) : s.evaluateNip.mayClose = s.mayClose :=
  State.mayClose_congr (congrArg _ (s.evaluateNip_affects.1.lsc (by decide)))
    (congrArg _ (s.evaluateNip_affects.1.lsc (by decide))) s.evaluateNip_inputs.1 s.evaluateNip_inputs.2
    (congrArg _ (s.evaluateNip_affects.1.trk (by decide))) (congrArg _ (s.evaluateNip_affects.1.wpu (by decide)))

/-- Where an evaluation leaves the nip (R77, R78). -/
theorem State.evaluateNip_nip (s : State) :
    s.evaluateNip.emb.nip =
      match s.emb.nip with
      | .lifted => if s.mayClose ∧ s.lsc.job.isSome then .engaging else .lifted
      | .engaging => if s.mayClose then .engaging else .lifting
      | .closed => if s.mayClose then .closed else .lifting
      | .lifting => .lifting := by
  unfold State.evaluateNip
  cases n : s.emb.nip <;> cases m : s.mayClose <;> simp [n]
  · cases jb : s.lsc.job <;> simp [State.withJob, jb, n, State.nipEngage]
  · rfl
  · rfl

/-! ### The line state and hold causes -/

theorem State.setLineState_lsc (s : State) (x : LineState) : (s.setLineState x).lsc = { s.lsc with lineState := x } := by
  unfold State.setLineState
  split
  · rename_i h
    subst h
    rfl
  · rw [(State.evaluateNip_affects _).1.lsc (by decide)]
    rfl

theorem State.raiseCause_inputs (s : State) (c : HoldCause) :
    (s.raiseCause c).emb.hostLift = s.emb.hostLift ∧ (s.raiseCause c).emb.zoneActive = s.emb.zoneActive := by
  unfold State.raiseCause State.setLineState
  repeat' split
  all_goals first
    | exact ⟨rfl, rfl⟩
    | exact State.evaluateNip_inputs _

/-! ### The tail is checked only once the web has stopped -/

theorem State.tailCheck_moving {s : State} (j : Job) (h : s.wpu.stopped = false) : s.tailCheck j = s := by
  simp [State.tailCheck, h]

theorem State.tailCheck_line {s : State} (j : Job) (h : s.lsc.lineState ≠ .ending) : s.tailCheck j = s := by
  simp [State.tailCheck, h]

/-! ### The return to READY (R187) -/

theorem State.abortStation_chan (s : State) (i : StationId) (c : ChannelId) :
    ((s.abortStation i).chan c).inFlight = ((s.chan c).inFlight && !(c == channelOf i)) := by
  unfold State.abortStation
  dsimp only
  by_cases h : (s.chan (channelOf i)).inFlight = true
  · rw [if_pos h]
    have : ((s.stopTrain (channelOf i)).chan c).inFlight = ((s.chan c).inFlight && !(c == channelOf i)) := by
      by_cases e : c = channelOf i
      · subst e
        simp [State.stopTrain]
      · simp [State.stopTrain, State.chan_putChan, e]
    split
    · exact this
    · exact this
  · rw [if_neg h]
    by_cases e : c = channelOf i
    · subst e
      simpa using h
    · simp [e]

theorem State.abortStations_chan (s : State) (c : ChannelId) :
    (s.abortStations.chan c).inFlight = ((s.chan c).inFlight && !decide (c.val < 8)) := by
  have fold : ∀ (l : List StationId) (s : State),
      ((l.foldl State.abortStation s).chan c).inFlight = ((s.chan c).inFlight && !(l.any fun i => c == channelOf i)) := by
    intro l
    induction l with
    | nil => simp
    | cons i l ih =>
      intro s
      rw [List.foldl_cons, ih, State.abortStation_chan]
      simp [Bool.and_assoc]
  rw [State.abortStations, fold]
  have : ∀ c : ChannelId, ((List.finRange 8).any fun i => c == channelOf i) = decide (c.val < 8) := by decide
  rw [this]

theorem State.abortEmboss_chan (s : State) (c : ChannelId) :
    (s.abortEmboss.chan c).inFlight = ((s.chan c).inFlight && !(c == embossChannel)) := by
  unfold State.abortEmboss
  dsimp only
  by_cases h : (s.chan embossChannel).inFlight = true
  · rw [if_pos h]
    have : ((s.stopTrain embossChannel).chan c).inFlight = ((s.chan c).inFlight && !(c == embossChannel)) := by
      by_cases e : c = embossChannel
      · subst e
        simp [State.stopTrain]
      · simp [State.stopTrain, State.chan_putChan, e]
    split
    · exact this
    · exact this
  · rw [if_neg h]
    by_cases e : c = embossChannel
    · subst e
      simpa using h
    · simp [e]

theorem State.shadeReturn_trk (x : State) : x.shadeReturn.trk = x.abandonMeasurement.trk := rfl
theorem State.shadeReturn_starts (x : State) : x.shadeReturn.shu.starts = [] := rfl
theorem State.shadeReturn_meas (x : State) : x.shadeReturn.shu.meas = none := by
  show x.abandonMeasurement.shu.meas = none
  unfold State.abandonMeasurement
  split
  · assumption
  · rfl
theorem State.embossReturn_emb (x : State) : x.embossReturn.emb = x.abortEmboss.emb.atReturn := rfl
theorem State.embossReturn_stg (x : State) : x.embossReturn.stg = x.abortEmboss.stg := rfl
theorem State.mapStations_chan (x : State) (f : Station → Station) (c : ChannelId) :
    (x.mapStations f).chan c = x.chan c := rfl
theorem State.registerReturn_chan (x : State) (c : ChannelId) : x.registerReturn.chan c = x.abortStations.chan c := by
  rw [State.registerReturn, State.mapStations_chan]

/-- The last steps of the return to READY, from the state r that the blocks have left. -/
theorem State.leave_spec (r : State) :
    ∀ a, a = (({ r with
        msc := r.msc.atBoundary, wnd := r.wnd.atReturn,
        lsc := { r.lsc with latched := {}, runPermit := false } } : State)).setLineState .ready →
      a.lsc = { r.lsc with latched := {}, runPermit := false, lineState := .ready } ∧ a.msc = r.msc.atBoundary ∧
        a.wnd = r.wnd.atReturn ∧ a.stg = r.stg ∧ a.shu = r.shu ∧ a.trk = r.trk ∧ a.emb.windows = r.emb.windows ∧
        a.emb.phase = r.emb.phase ∧ a.emb.zoneActive = r.emb.zoneActive := by
  intro a ha
  have keep : ∀ x : State, x.evaluateNip.emb.windows = x.emb.windows ∧ x.evaluateNip.emb.phase = x.emb.phase ∧
      x.evaluateNip.emb.zoneActive = x.emb.zoneActive := by
    intro x
    unfold State.evaluateNip State.withJob
    repeat' split
    all_goals exact ⟨rfl, rfl, rfl⟩
  have line : ∀ x : State, (x.setLineState .ready).emb.windows = x.emb.windows ∧
      (x.setLineState .ready).emb.phase = x.emb.phase ∧ (x.setLineState .ready).emb.zoneActive = x.emb.zoneActive := by
    intro x
    unfold State.setLineState
    split
    · exact ⟨rfl, rfl, rfl⟩
    · exact keep _
  have frame := State.setLineState_affects
    { r with
      msc := r.msc.atBoundary, wnd := r.wnd.atReturn, lsc := { r.lsc with latched := {}, runPermit := false } } .ready
  rw [← ha] at frame
  have line' := line
    { r with
      msc := r.msc.atBoundary, wnd := r.wnd.atReturn, lsc := { r.lsc with latched := {}, runPermit := false } }
  rw [← ha] at line'
  exact ⟨by rw [ha, State.setLineState_lsc], frame.1.msc (by decide), frame.1.wnd (by decide), frame.1.stg (by decide),
    frame.1.shu (by decide), frame.1.trk (by decide), line'.1, line'.2.1, line'.2.2⟩

theorem State.abandonMeasurement_trk (x : State) :
    x.abandonMeasurement.trk.events = x.trk.events ∧ x.abandonMeasurement.trk.eventLost = x.trk.eventLost ∧
      (x.trk.records = [] → x.abandonMeasurement.trk.records = []) := by
  unfold State.abandonMeasurement
  split
  · exact ⟨rfl, rfl, id⟩
  · exact ⟨rfl, rfl, fun h => by simp [State.headIdle, State.updateRecord, h]⟩

/-- What the return to READY leaves (R14, R26, R73, R96, R112, R114, R178, R187). -/
theorem State.returnToReady_spec (s : State) :
    s.returnToReady.lsc = { s.lsc with latched := {}, runPermit := false, lineState := .ready } ∧
      s.returnToReady.msc = s.msc.atBoundary ∧ s.returnToReady.wnd = s.wnd.atReturn ∧
      (∀ c : ChannelId, (s.returnToReady.chan c).inFlight = false) ∧ s.returnToReady.shu.meas = none ∧
      s.returnToReady.shu.starts = [] ∧ s.returnToReady.emb.windows = [] ∧ s.returnToReady.emb.phase = .idle ∧
      s.returnToReady.emb.zoneActive = false ∧ s.returnToReady.trk.events = s.trk.events ∧
      s.returnToReady.trk.eventLost = s.trk.eventLost ∧ (s.trk.records = [] → s.returnToReady.trk.records = []) := by
  have reg := s.registerReturn_affects
  have emb := s.registerReturn.embossReturn_affects
  have ret := s.registerReturn.embossReturn.shadeReturn_affects
  have all := (reg.comp (ds := [.rlp, .stg, .emb]) emb).comp (ds := [.rlp, .stg, .emb, .shu, .trk]) ret
  obtain ⟨h1, h2, h3, h4, h5, h6, h7, h8, h9⟩ :=
    State.leave_spec s.registerReturn.embossReturn.shadeReturn s.returnToReady (by simp only [State.returnToReady])
  have trk : s.registerReturn.embossReturn.trk = s.trk := (emb.1.trk (by decide)).trans (reg.1.trk (by decide))
  obtain ⟨k1, k2, k3⟩ := s.registerReturn.embossReturn.abandonMeasurement_trk
  rw [State.shadeReturn_trk] at h6
  refine ⟨?_, ?_, ?_, ?_, ?_, ?_, ?_, ?_, ?_, ?_, ?_, ?_⟩
  · rw [h1, all.1.lsc (by decide)]
  · rw [h2, all.1.msc (by decide)]
  · rw [h3, all.1.wnd (by decide)]
  · intro c
    have chan : s.returnToReady.chan c = s.registerReturn.abortEmboss.chan c := by
      unfold State.chan
      rw [h4, ret.1.stg (by decide), State.embossReturn_stg]
    rw [chan, State.abortEmboss_chan, State.registerReturn_chan, State.abortStations_chan]
    have two : ∀ c : ChannelId, c.val < 8 ∨ c = embossChannel := by decide
    rcases two c with h | h <;> simp [h]
  · rw [h5]
    exact State.shadeReturn_meas _
  · rw [h5]
    exact State.shadeReturn_starts _
  · rw [h7, ret.1.emb (by decide), State.embossReturn_emb, Emb.atReturn]
  · rw [h8, ret.1.emb (by decide), State.embossReturn_emb, Emb.atReturn]
  · rw [h9, ret.1.emb (by decide), State.embossReturn_emb, Emb.atReturn]
  · rw [h6, k1, trk]
  · rw [h6, k2, trk]
  · intro h
    rw [h6]
    exact k3 (by rw [trk]; exact h)

/-- What the end of a job leaves, whatever ended it (R131, R132, R187). -/
theorem State.finishJob_spec (s : State) (j : Job) (aborted : Bool) :
    (s.finishJob j aborted).lsc = { s.lsc with latched := {}, runPermit := false, lineState := .ready } ∧
      (s.finishJob j aborted).msc = s.msc.atBoundary ∧
      (s.finishJob j aborted).wnd.active = none ∧ (s.finishJob j aborted).wnd.planned = none ∧
      (s.finishJob j aborted).wnd.plan = none ∧ (s.finishJob j aborted).wnd.divert = true ∧
      (∀ c : ChannelId, ((s.finishJob j aborted).chan c).inFlight = false) ∧
      (s.finishJob j aborted).shu.meas = none ∧ (s.finishJob j aborted).shu.starts = [] ∧
      (s.finishJob j aborted).emb.windows = [] ∧ (s.finishJob j aborted).emb.phase = .idle ∧
      (s.finishJob j aborted).emb.zoneActive = false ∧ (s.finishJob j aborted).trk.records = [] ∧
      (s.finishJob j aborted).trk.events = [] ∧ (s.finishJob j aborted).trk.eventLost = false := by
  have h0 : Affects [.rlg, .bat, .shu, .lbc, .wnd, .trk] s
      (((s.endLast j aborted).foldRemaining ((s.endLast j aborted).knifeAt j)).emptyTrack) :=
    ((s.endLast_affects j aborted).comp (ds := [.rlg, .bat, .shu, .lbc, .wnd])
      (State.foldRemaining_affects _ _)).comp (State.emptyTrack_affects _)
  have hx := State.examineLog_affects
    (((s.endLast j aborted).foldRemaining ((s.endLast j aborted).knifeAt j)).emptyTrack) j
  generalize hu : (((s.endLast j aborted).foldRemaining ((s.endLast j aborted).knifeAt j)).emptyTrack) = u at h0 hx
  have empty : u.trk = { records := [], events := [], eventLost := false } := by
    rw [← hu]
    rfl
  have eq : s.finishJob j aborted = (u.examineLog j).returnToReady := by
    rw [← hu]
    rfl
  obtain ⟨r1, r2, r3, r4, r5, r6, r7, r8, r9, r10, r11, r12⟩ := (u.examineLog j).returnToReady_spec
  have trk : (u.examineLog j).trk = { records := [], events := [], eventLost := false } :=
    (hx.1.trk (by decide)).trans empty
  rw [eq]
  refine ⟨?_, ?_, ?_, ?_, ?_, ?_, r4, r5, r6, r7, r8, r9, r12 (by rw [trk]), ?_, ?_⟩
  · rw [r1, hx.1.lsc (by decide), h0.1.lsc (by decide)]
  · rw [r2, hx.1.msc (by decide), h0.1.msc (by decide)]
  · rw [r3]
    rfl
  · rw [r3]
    rfl
  · rw [r3]
    rfl
  · rw [r3]
    rfl
  · rw [r10, trk]
  · rw [r11, trk]

end Sys2Proof.Machine
end

