-- ==== Sys2Proof/Laws/Winder.lean ====
section
/-! SUPPORT. What the winder reads: states that agree in it plan their cuts alike (R117 to R122, R130). A scanner's or a
track's change before an appended record thus leaves the winder's part of it as it is. -/

namespace Sys2Proof.Machine

-- one proof at a time: the joined package would else open a thread for each of them
set_option Elab.async false

/-- Two states in which the winder reads the same: the web, its own block, the events, and whether the line is in RUN or
HOLD. -/
structure Sees (s u : State) : Prop where
  wpu : u.wpu = s.wpu
  wnd : u.wnd = s.wnd
  events : u.trk.events = s.trk.events
  line : (u.lsc.lineState == .run || u.lsc.lineState == .hold) = (s.lsc.lineState == .run || s.lsc.lineState == .hold)

theorem Sees.withWnd {s u : State} (h : Sees s u) {w w' : Wnd} (e : w' = w) :
    Sees { s with wnd := w } { u with wnd := w' } :=
  ⟨h.wpu, e, h.events, h.line⟩

theorem Sees.first {s u : State} (h : Sees s u) (j : Job) (y : Count) : u.firstPoint j y = s.firstPoint j y := by
  unfold State.firstPoint; rw [h.wnd]

theorem Sees.floor {s u : State} (h : Sees s u) : u.floorDatum = s.floorDatum := by
  unfold State.floorDatum; rw [h.wnd]

theorem Sees.fire {s u : State} (h : Sees s u) (j d) : u.firingReached j d = s.firingReached j d := by
  unfold State.firingReached State.at; rw [h.wpu]

theorem Sees.notBefore {s u : State} (h : Sees s u) (j y) : u.notBefore j y = s.notBefore j y := by
  unfold State.notBefore; simp only [h.floor, h.first]

theorem Sees.settle {s u : State} (h : Sees s u) (j y) : u.settleTarget j y = s.settleTarget j y := by
  unfold State.settleTarget; simp only [h.wnd, h.notBefore, h.first]

theorem Sees.range {s u : State} (h : Sees s u) (j y) : u.cut1Range j y = s.cut1Range j y := by
  unfold State.cut1Range; simp only [h.wnd, h.floor, h.fire]

theorem Sees.beyond {s u : State} (h : Sees s u) (y) : u.beyondKnown y = s.beyondKnown y := by
  unfold State.beyondKnown; simp only [h.wnd]

theorem Sees.classify {s u : State} (h : Sees s u) (j y) : u.classifyCut1 j y = s.classifyCut1 j y := by
  unfold State.classifyCut1; simp only [h.floor, h.fire, h.range, h.beyond]

theorem Sees.cut2 {s u : State} (h : Sees s u) (j y) : u.cut2Floor j y = s.cut2Floor j y := by
  unfold State.cut2Floor; simp only [h.floor]

theorem Sees.after {s u : State} (h : Sees s u) (j y z) : u.afterSplice j y z = s.afterSplice j y z := by
  unfold State.afterSplice; simp only [h.first]

theorem Sees.setPlan {s u : State} (h : Sees s u) (p) : Sees (s.setPlan p) (u.setPlan p) := by
  unfold State.setPlan; rw [h.wnd]; exact h.withWnd rfl

theorem Sees.planWith {s u : State} (h : Sees s u) (j l x c) : Sees (s.planWith j l x c) (u.planWith j l x c) := by
  unfold State.planWith; rw [h.after, h.cut2]; exact h.setPlan _

theorem Sees.reexamine {s u : State} (h : Sees s u) (j p) : Sees (s.reexamine j p) (u.reexamine j p) := by
  unfold State.reexamine
  split
  · rw [h.classify]; exact h.planWith _ _ _ _
  · rw [h.classify]; exact h.planWith _ _ _ _
  · split
    · rw [h.settle]; exact h.setPlan _
    · rw [h.settle]; exact h.setPlan _
    all_goals exact h
  · split
    · rw [h.settle]; exact h.setPlan _
    · rw [h.settle]; exact h.setPlan _
    all_goals exact h

theorem Sees.planTail {s u : State} (h : Sees s u) (t c) : Sees (s.planTail t c) (u.planTail t c) := by
  unfold State.planTail; rw [h.wnd]; exact h.withWnd rfl

theorem Sees.searchOn {s u : State} (h : Sees s u) (j l) : Sees (s.searchOn j l) (u.searchOn j l) := by
  unfold State.searchOn; rw [h.classify, h.first, h.floor]
  split <;> exact h.planTail _ _

theorem Sees.settlePlanned {s u : State} (h : Sees s u) (j) : Sees (s.settlePlanned j) (u.settlePlanned j) := by
  unfold State.settlePlanned; rw [h.wnd]
  split
  · exact h
  · rw [h.settle]; exact h.withWnd rfl

theorem Sees.extendPlan {s u : State} (h : Sees s u) (j p x) : Sees (s.extendPlan j p x) (u.extendPlan j p x) := by
  unfold State.extendPlan; rw [h.after, h.cut2]
  dsimp only
  split
  all_goals first | exact h.setPlan _ | (split; exact h.setPlan _; (rw [h.wnd]; exact h.withWnd rfl))

theorem Sees.extendPlanned {s u : State} (h : Sees s u) (j x) : Sees (s.extendPlanned j x) (u.extendPlanned j x) := by
  unfold State.extendPlanned; rw [h.wnd]
  split
  · split
    · rw [h.after, h.floor]; dsimp only; split
      · exact h.withWnd rfl
      · exact h
    · exact h
  · exact h

theorem Sees.judge {s u : State} (h : Sees s u) (j x) : Sees (s.judge j x) (u.judge j x) := by
  unfold State.judge; rw [h.wnd]
  split
  · exact h
  · split
    · split
      · unfold State.startPlan; dsimp only; rw [h.classify]; exact h.planWith _ _ _ _
      · exact h.extendPlan _ _ _
    · exact h.extendPlanned _ _
    · exact h.extendPlanned _ _
    · exact h

theorem Sees.modify {s u : State} (h : Sees s u) (n f) : Sees (s.modifyEvent n f) (u.modifyEvent n f) := by
  refine ⟨h.wpu, h.wnd, ?_, h.line⟩
  simp only [State.modifyEvent]; rw [h.events]

theorem Sees.judgeAt {s u : State} (h : Sees s u) (j n) : Sees (s.judgeAt j n) (u.judgeAt j n) := by
  unfold State.judgeAt; rw [h.events]
  split
  · exact h
  · have : ∀ e, u.judgeable j e = s.judgeable j e := by intro e; unfold State.judgeable; rw [h.line, h.wnd]
    rw [this]; split
    · exact (h.modify _ _).judge _ _
    · exact h

theorem Sees.judges {s u : State} (h : Sees s u) (j) : Sees (s.judgeSplices j) (u.judgeSplices j) := by
  unfold State.judgeSplices; rw [h.events]
  generalize List.range _ = l
  induction l generalizing s u with
  | nil => exact h
  | cons n l ih => exact ih (h.judgeAt j n)

theorem Sees.append {s u : State} (h : Sees s u) (j r) : Sees (s.winderAppend j r) (u.winderAppend j r) := by
  have h1 : Sees (s.addPoints j r) (u.addPoints j r) := by
    unfold State.addPoints; rw [h.wnd, h.wpu]; exact ⟨rfl, rfl, h.events, h.line⟩
  unfold State.winderAppend
  dsimp only
  rw [h1.wnd]
  apply Sees.judges
  split
  · exact h1.reexamine _ _
  · exact h1.searchOn _ _
  · exact h1.settlePlanned _

end Sys2Proof.Machine
end

