-- ==== Sys2Proof/Tests/Setup.lean ====
section
/-! SUPPORT. What the tests and the witnesses start from: one job record with its bytes, and small states built from the
state after reset. -/

namespace Sys2Proof.Tests

open Sys2Proof.Machine

/-- The state that a command leaves. -/
def after (c : Instr) (s : State) : State :=
  match exec c s with
  | .next t => t
  | _ => s

/-- The state that several commands leave, one after another. -/
def afterAll (cs : List Instr) (s : State) : State := cs.foldl (fun t c => after c t) s

/-- A LOAD_JOB payload written out from the widths of 12.8, every field in range (R180). -/
def exPayload : List Byte :=
  [0x57, 0x4A, 0x2D, 0x30, 0x30, 0x30, 0x30, 0x31, 0x42, 0x4C, 0x55, 0x45, 0x4C, 0x4F, 0x54, 0x30, 0x30, 0x30, 0x30, 0x30] ++
  [0x30, 0x30, 0x34, 0x32, 0x00, 0x0F, 0x42, 0x41, 0xCF, 0x08, 0x00, 0x00, 0x04, 0x93, 0xE0, 0x00, 0xFD, 0x00, 0xC8, 0x00] ++
  [0x96, 0x02, 0x01, 0xA0, 0x0F, 0x00, 0x01, 0x40, 0x3F, 0x01, 0x00, 0x11, 0x22, 0x02, 0x00, 0x00, 0x00, 0x00, 0x00, 0x0D] ++
  [0xBB, 0xA0, 0x00, 0x13, 0xD6, 0x20, 0x00, 0x18, 0x6A, 0x00, 0x00, 0x03, 0xD0, 0x90, 0x00, 0x02, 0xBF, 0x20, 0x01, 0x02] ++
  [0x01, 0x00, 0x01, 0x11, 0x70, 0x0F, 0xA0, 0x01, 0xF4, 0x04, 0x10, 0x00, 0x00, 0x05, 0x07, 0xD0, 0x4E, 0x20, 0x02, 0x00] ++
  [0x13, 0x88, 0x03, 0x01, 0x2C, 0x01, 0x90, 0x00, 0x02, 0x49, 0xF0, 0x00, 0x01, 0x86, 0xA0, 0x01, 0x00, 0x00, 0xC3, 0x50] ++
  [0x02, 0x58, 0xF9, 0x04, 0x04, 0x27, 0x10, 0x13, 0x88, 0x14, 0x17, 0x70, 0x00, 0x32, 0x50, 0x01, 0xF4, 0x00, 0x0E, 0xF4] ++
  [0x20, 0x00, 0x04, 0xD2, 0x00, 0x07, 0xA1, 0x20, 0x05, 0xDC, 0x00, 0x06, 0x1A, 0x80, 0x00, 0x00, 0x00, 0xEA, 0x60, 0x03] ++
  [0x20, 0x19, 0xF8, 0x10, 0x00, 0x03, 0x00, 0x01, 0x00, 0x05, 0x00, 0x02, 0x01]

/-- The job record that those bytes stand for, by the field numbers of R180. -/
def exJob : Job :=
  { design := [0x57, 0x4A, 0x2D, 0x30, 0x30, 0x30, 0x30, 0x31], colourway := [0x42, 0x4C, 0x55, 0x45],
    lotText := [0x4C, 0x4F, 0x54, 0x30, 0x30, 0x30, 0x30, 0x30, 0x30, 0x30, 0x34, 0x32], firstRoll := 1000001, L := 53000,
    matchType := .straight, vMax := 300000,
    mask := { encoder := true, refLost := true, stationLost := true, overlength := true, eventLost := true,
              headOffline := true, printerOffline := true, host := true },
    wRef := 200, wMark := 150, refMissLimit := 2,
    gates := #v[⟨true, 0xA0, 0x0F, .ref⟩, ⟨true, 0x40, 0x3F, .marks⟩, ⟨false, 0x11, 0x22, .both⟩, ⟨false, 0, 0, .ref⟩],
    dSh := 900000, dEm := 1300000, dCut := 1600000, uSpl := 250000, uDef := 180000, embossOn := true, k := 2,
    phaseSelect := 1, oEm := 70000, wEm := 4000, tolEm := 500,
    emboss := { averaging := 4, gain := 4096, deadband := 5, stepLimit := 2000, trimLimit := 20000, ratio := 512,
                rate := 5000 },
    embossMissLimit := 3, engageMs := 300, liftMs := 400, lead := 150000, trail := 100000, liftOnDefect := true,
    vMinEmboss := 50000, pressure := 600, pressurePeriod := 249, pressurePrescale := 4, sampleInterval := 4, oSh := 10000,
    acquisitionUs := 5000, headTimeoutMs := 20, spanLimit := 6000, tolB := 50, warn := 80, rollsPerBatch := 500,
    lt := 980000, cutMode := .length, cutOffset := 1234, minRoll := 500000, transferMs := 1500, maxOver := 400000,
    splicePolicy := .mark, clearance := 60000, d0 := 800, taper := 25, torquePeriod := 248, torquePrescale := 16,
    rejReg := 3, bReg := 1, bUnknown := 5, rejEmb := 2, rejectOnSplice := true }

/-- The state after reset with a job in force and the line in a state. -/
def lineWith (j : Job) (x : LineState) : State :=
  { State.reset with lsc := { Lsc.reset with
      job := some j, holdMask := some j.mask, lineState := x, runPermit := x == .run } }

/-- The example job, in a line state. -/
def line (x : LineState) : State := lineWith exJob x

/-- The web at a count, forward. -/
def webAt (s : State) (h : Count) : State := { s with wpu := { s.wpu with w := h, h := h, stopped := false } }

/-- A repeat record with nothing final yet. -/
def exRecord (index : BitVec 32) (origin : Count) : RepeatRecord :=
  { index := index, origin := origin, kind := .marked, outcomes := Vector.replicate 8 .notUsed, cls := .pending,
    worst := none, shadeState := .pending, shade := none, emboss := .notReached, overflow := false, liftLate := false,
    points := [] }

/-- An event of the list. -/
def exEvent (kind : EventKind) (datum : Count) : WebEvent :=
  { kind := kind, datum := datum, length := 0, isOpen := false, attributed := false, liftLate := false, joined := false,
    checked := false, judged := false }

/-- An entry of the roll log, OPEN. -/
def exEntry (seq : BitVec 32) (role : Role) (start : Count) : Entry := Entry.fresh seq start role none false

/-- The tuning of Case 1 (03, 3.6). -/
def exTuning : Tuning :=
  { averaging := 4, gain := 2458, deadband := 5, stepLimit := 30, trimLimit := 500, ratio := 512, rate := 2000 }

/-- A RESIDENT station with that tuning, in a state. -/
def exResident (x : StationState) : Station :=
  { Station.reset with desc := .resident ⟨9000, 400000, exTuning, 3, 50⟩, st := x }

end Sys2Proof.Tests
end

