-- ==== Sys2Proof/Tests/Slice0.lean ====
section
/-! SUPPORT. Tests: the checks on ill-formed commands, and single steps with results taken from the spec's worked examples
and rules. -/

namespace Sys2Proof.Tests

-- one proof at a time: the joined package would else open a thread for each of them
set_option Elab.async false

open Sys2Proof.Machine

/-! ### Ill-formed commands -/

theorem test_loadJob_of_172_bytes_is_ill_formed : (Instr.loadJob .line 0 (exPayload.drop 1)).wellFormed = false := by decide +kernel
theorem test_loadJob_of_173_bytes_is_well_formed : (Instr.loadJob .line 0 exPayload).wellFormed = true := by decide +kernel
theorem test_setStation_of_26_bytes_is_ill_formed :
    (Instr.setStation .line 0 (List.replicate 26 0)).wellFormed = false := by decide
theorem test_ill_formed_loadJob_is_answered_LENGTH :
    (after (.loadJob .line 3 (exPayload.drop 1)) State.reset).lnk.line.tx =
      some (.reply ⟨0xC0, 3, .length, .empty⟩) := by decide +kernel
theorem test_words_spell_no_command : decodeTableWord 8 5 = none ∧ State.reset.withFetchWord 8 5 = State.reset := by
  exact ⟨rfl, rfl⟩

/-! ### The job record, byte by byte (12.8) -/

theorem test_job_fields_decode : jobOf exPayload = exJob := by decide +kernel
theorem test_job_fields_pass : jobFails exPayload = none := by decide +kernel

/-! ### Links (12) -/

/-- R191: the CRC over the nine bytes 0x31 to 0x39 is 0x29B1. -/
theorem test_crc_of_the_nine_bytes :
    crc16 [0x31, 0x32, 0x33, 0x34, 0x35, 0x36, 0x37, 0x38, 0x39] = 0x29B1 := by decide +kernel

/-- The frame of IDENTIFY with tag 7, its CRC computed by hand from R191, joins the request queue at its last byte. -/
theorem test_frame_of_identify_is_received :
    ((afterAll ([0xC3, 0x02, 0x01, 0x07, 0xE1, 0x2A].map fun b => .byteReceived .line b false) State.reset).lnk.line.requests,
      (afterAll ([0xC3, 0x02, 0x01, 0x07, 0xE1, 0x2B].map fun b => .byteReceived .line b false)
        State.reset).lnk.line.crcFail) = ([⟨1, 7, []⟩], 1) := by decide +kernel

theorem test_gap_timeout_abandons :
    ((after (.gapTimeout .service) (after (.byteReceived .service 0xC3 false) State.reset)).lnk.service.rx,
      (after (.gapTimeout .service) (after (.byteReceived .service 0xC3 false) State.reset)).lnk.service.abandoned) =
      (.hunt, 1) := by decide +kernel

theorem test_request_take_answers :
    let s := { State.reset with lnk := { State.reset.lnk with
      line := { State.reset.lnk.line with requests := [⟨0x44, 5, [0, 1]⟩, ⟨0x99, 6, []⟩] } } }
    ((after (.requestTake .line) s).lnk.line.tx, (after (.requestTake .line) s).lnk.line.requests.length,
      (afterAll [.requestTake .line, .requestTake .line] s).lnk.line.replies) =
      (some (.reply ⟨0xC4, 5, .state, .empty⟩), 1, [⟨0x19, 6, .illegal, .empty⟩]) := by decide +kernel

/-- R195: of a pending LABEL_FAULT, a reply and a pending ROLLS_CLOSED, the transmitter takes them in that order. -/
theorem test_arbiter_order :
    let h := { State.reset.lnk.line with
      tx := some (.reply ⟨0x81, 0, .done, .empty⟩), slots := [.rollsClosed, .labelFault .b],
      replies := [⟨0xA1, 1, .state, .empty⟩] }
    let s := { State.reset with lnk := { State.reset.lnk with line := h } }
    let a := after (.frameSent .line) s
    let b := after (.frameSent .line) a
    ((a.lnk.line.slots, a.lnk.line.replies.length), b.lnk.line.tx, (after (.frameSent .line) b).lnk.line.slots) =
      (([.rollsClosed], 1), some (.reply ⟨0xA1, 1, .state, .empty⟩), []) := by decide +kernel

/-! ### Web position (01) -/

theorem test_forward_transition :
    (let t := after (.encoderTransition .a) State.reset; (t.wpu.w, t.wpu.h, t.wpu.stopped, t.pins.encA)) =
      (1, 1, false, true) := by decide +kernel

theorem test_reverse_transition :
    (let t := after (.encoderTransition .b) State.reset; (t.wpu.w, t.wpu.h, t.wpu.direction, t.wpu.reversed)) =
      (0xFFFFFFFF, 0, .reverse, true) := by decide +kernel

theorem test_encoder_fault :
    (let t := after .encoderFault (line .run); (t.wpu.w, t.wpu.faultCount, t.wpu.encoderCond, t.lsc.lineState, t.lsc.runPermit)) =
      (0, 1, true, .hold, false) := by decide +kernel

/-- R5: 2,000 counts in a window are 200,000 counts/s. -/
theorem test_speed_window :
    (after .speedWindowEnd (webAt (line .run) 2000)).wpu.v = 200000 := by decide +kernel

/-- R6: above 330,000 counts/s the second window raises OVERSPEED, which this job's mask leaves out. -/
theorem test_second_window_is_overspeed :
    let s := webAt (line .run) 3301
    let s := { s with wpu := { s.wpu with overCount := 1 } }
    (let t := after .speedWindowEnd s; (t.wpu.overspeedCond, t.lsc.reported.overspeed, t.lsc.lineState)) =
      (true, true, .run) := by decide +kernel

theorem test_stopped_flag_ends_a_tail :
    (let t := after .stoppedFlagSet (webAt (line .ending) 5); (t.wpu.stopped, t.lsc.lineState)) = (true, .ready) := by
  decide +kernel

theorem test_part_reset :
    (let t := after (.partReset State.reset.pins) (webAt (line .run) 900); (t.lsc.lineState, t.wpu.h, t.wnd.divert)) =
      (.unconfigured, 0, true) := by decide +kernel

/-! ### Mark scanner (02), by the worked examples of 2.3 -/

/-- The gate table of the example. -/
def exGates : Vector Gate 4 :=
  #v[⟨true, 206, 1, .ref⟩, ⟨true, 38, 1, .ref⟩, ⟨true, 0, 255, .marks⟩, ⟨true, 37, 0, .ref⟩]

/-- The job of the example. -/
def scanJob : Job := { exJob with wMark := 200 }

/-- The scanner of the example, running, with the web at a count. -/
def scanAt (m : Msc) (h : Count) : State :=
  webAt { lineWith scanJob .run with msc := { m with gates := exGates } } h

theorem test_position_bytes :
    (positionByte 1012500 1004000, positionByte 1031000 1021000, positionByte 2170000 2106000,
      positionByte 2212180 2159000) = (33, 39, 250, 207) := by decide +kernel

theorem test_first_lock :
    let a := after .markEdge (scanAt { Msc.reset with prevEdge := some 1021000 } 1031000)
    let b := after .markEdge (scanAt { Msc.reset with prevEdge := some 1004000 } 1012500)
    ((a.msc.refState, a.msc.origin, a.trk.records.map RepeatRecord.origin), b.msc.refState, b.msc.prevEdge) =
      ((.locked, some ⟨1031000, .marked⟩, [1031000]), .seeking, some 1012500) := by decide +kernel

theorem test_windows_of_the_capture :
    let edges : List Count := [1040037, 1048480, 1051000, 1057000, 1057150, 1074060]
    ([9000, 17500, 26000, 34500, 43000].map fun o => formOutcome scanJob 1031000 o edges none) =
      [.sample 37, .sample (-20), .ambiguous, .missing, .sample 60] := by decide +kernel

theorem test_window_expiries :
    let m := { Msc.reset with refState := .locked, origin := some ⟨2000000, .marked⟩, nextIndex := 41 }
    let a := after .referenceWindowExpiry (scanAt m 2053201)
    let b := after .referenceWindowExpiry (webAt a 2106201)
    ((a.msc.refState, a.msc.missCount, a.msc.origin), (b.msc.refState, b.msc.missCount, b.msc.origin), b.lsc.lineState) =
      ((.flywheel, 1, some ⟨2053000, .flywheel⟩), (.lost, 2, some ⟨2106000, .flywheel⟩), .hold) := by decide +kernel

theorem test_reacquisition :
    let m := { Msc.reset with refState := .lost, missCount := 2, origin := some ⟨2106000, .flywheel⟩, nextIndex := 43 }
    let a := after .reacquisitionWindowExpiry (scanAt m 2185500)
    let b := after .markEdge (webAt a 2212180)
    ((after .markEdge (scanAt m 2170000)).msc.origin, (a.msc.refState, a.msc.origin),
      (b.msc.refState, b.msc.missCount, b.msc.origin)) =
      (some ⟨2106000, .flywheel⟩, (.lost, some ⟨2159000, .flywheel⟩), (.locked, 0, some ⟨2212180, .marked⟩)) := by
  decide +kernel

/-- The example scanner with station 5 RESIDENT and a pending closing of record 0. -/
def closing (kind : OriginKind) : State :=
  let m := { Msc.reset with
    closings := [⟨0, 1031000, kind⟩], oMax := 43000, offsets := (Vector.replicate 8 none).set 5 (some 43000)
    capture := some ⟨0, 1031000, [1074060], none⟩ }
  let s := scanAt m 1074200
  { s with trk := { s.trk with records := [exRecord 0 1031000] }
           rlp := { stations := s.rlp.stations.set 5 (exResident .seeking) } }

theorem test_capture_close_is_OUT :
    let t := after .captureClose (closing .marked)
    (t.trk.records.map fun r => (r.cls, r.worst, r.outcomes[5])) = [(.outside, some 60, .sample 60)] ∧
      (t.station 5).st = .tracking ∧ t.msc.capture = none := by decide +kernel

theorem test_flywheel_closing_is_UNKNOWN :
    let t := after .flywheelClosing (closing .flywheel)
    (t.trk.records.map fun r => (r.cls, r.worst, r.outcomes[5])) = [(.unknown, none, .missing)] ∧
      (t.station 5).st = .seeking ∧ t.msc.closings = [] := by decide +kernel

/-! ### Correction arithmetic (03, 3.6) -/

theorem test_case_1_meets_the_trim_limit :
    cauFull [37, 41, 35, 40] (-480) exTuning = ⟨some (40, -20), { atLimit := true }⟩ := by decide +kernel
theorem test_case_2_means : (cauMean [-4, 2, -3], cauMean [-1, -2, -1, -2]) = (-2, -2) := by decide +kernel
theorem test_case_3_saturates :
    cauFull (List.replicate 8 16000) 0 ⟨8, 8191, 0, 4000, 30000, 4096, 50000⟩ =
      ⟨some (64000, -4000), { saturated := true }⟩ := by decide +kernel
theorem test_cases_4_and_5 :
    (cauFinish 7 500 30 500 512, cauFinish 15 0 30 500 8, cauFinish 16 0 30 500 8) =
      (⟨none, { atLimit := true }⟩, ⟨none, { belowStep := true }⟩, ⟨some (1, 16), {}⟩) := by decide +kernel
theorem test_case_6_follower : cauFinish (-20) 10 15 2000 300 = ⟨some (18, -15), { saturated := true }⟩ := by decide +kernel
theorem test_case_7_aborts : (prorate ⟨-480, -20⟩ 27 40, prorate ⟨10, -15⟩ 12 18) = (-493, 0) := by decide +kernel

/-! ### Stations and channels (04) -/

/-- Station 3 of Case 1 in CORRECTING, one step of its train to go, the web at a count. -/
def correcting : State :=
  ((webAt (line .run) 1000).putStation 3 { exResident .correcting with trim := -500, train := some ⟨-480, -20⟩ }).putChan 3
    { Channel.reset with inFlight := true, remaining := 1, emitted := 39, period := 20000 }

theorem test_last_step_begins_settling :
    let t := after (.stepPulse 3) correcting
    ((t.chan 3).inFlight, (t.chan 3).stepHigh, (t.chan 3).emitted, (t.station 3).st, (t.station 3).settleEnd) =
      (false, true, 40, .settling, some (1000 + 400000 + 53000)) := by decide +kernel

theorem test_step_pulse_falls : ((after (.stepPulseEnd 3) (after (.stepPulse 3) correcting)).chan 3).stepHigh = false := by
  decide +kernel

theorem test_settle_end :
    let t := after (.settleEnd 3) (webAt (after (.stepPulse 3) correcting) 454000)
    ((t.station 3).st, (after (.settleEnd 3) (webAt (after (.stepPulse 3) correcting) 453999)).station 3 |>.st) =
      (.tracking, .settling) := by decide +kernel

theorem test_disengage_prorates :
    let t := after (.stationDisengage .line 1 3)
      (correcting.putChan 3 { Channel.reset with inFlight := true, remaining := 13, emitted := 27 })
    ((t.station 3).trim, (t.station 3).st, (t.station 3).engaged, (t.chan 3).inFlight) =
      (-493, .disengaged, false, false) := by decide +kernel

theorem test_engage :
    ((after (.stationEngage .line 1 3)
      ((line .run).putStation 3 { exResident .disengaged with engaged := false })).station 3).st = .seeking := by
  decide +kernel

theorem test_tune_station :
    ((after (.tuneStation .line 1 3 100 7 2 40) correcting).station 3).desc =
      .resident ⟨9000, 400000, { exTuning with gain := 100, deadband := 7, averaging := 2 }, 3, 40⟩ := by decide +kernel

theorem test_set_station :
    let p : List Byte := [4, 2, 3, 0, 0, 0, 0, 0, 0, 0, 0, 0, 0, 0, 0, 15, 0x07, 0xD0, 0x01, 0x2C, 0x03, 0xE8, 0, 0, 0]
    ((after (.setStation .line 1 p) (line .ready)).station 4).desc = .indirect ⟨3, 15, 2000, 300, 1000⟩ := by decide +kernel

theorem test_station_status_clears_flags :
    ((after (.stationStatus .line 1 3)
      ((line .run).putStation 3 { exResident .tracking with flags := { atLimit := true } })).station 3).flags = {} := by
  decide +kernel

/-! ### Events and records of the track (01, the example of 1.6) -/

/-- An event as the example's table gives it. -/
def face (e : WebEvent) : EventKind × Count × Nat × Bool := (e.kind, e.datum, e.length, e.isOpen)

/-- The state of the example up to the operator's button. -/
def sensed : State :=
  let s := after .splicePulse (webAt (line .run) 2100000)
  let s := after .defectLineRise (webAt s 2200000)
  let s := after .defectLineFall (webAt s 2212500)
  after .operatorButton (webAt s 2300000)

theorem test_events_from_sensor_to_list :
    (sensed.trk.events.map face, (after .defectLineRise (webAt (line .run) 2200000)).trk.events.map face) =
      ([(.operator, 2300000, 0, false), (.splice, 2350000, 0, false), (.defect, 2380000, 12500, false)],
        [(.defect, 2380000, 0, true)]) := by decide +kernel

theorem test_events_from_list_to_knife :
    let a := afterAll [.eventAttribution, .eventRemoval] (webAt sensed 3900000)
    let b := afterAll [.eventAttribution, .eventRemoval, .eventAttribution, .eventRemoval] (webAt a 3980000)
    a.trk.events.map face = [(.splice, 2350000, 0, false), (.defect, 2380000, 12500, false)] ∧
      b.trk.events.map face = [(.defect, 2380000, 12500, false)] ∧ b.trk.events.all WebEvent.attributed = true ∧
      (after .eventRemoval (webAt b 3992500)).trk.events = [] := by decide +kernel

theorem test_defect_at_its_limit :
    let t := after .defectLengthLimit (webAt (after .defectLineRise (webAt (line .run) 2200000)) 2400000)
    t.trk.events.map face = [(.defect, 2380000, 200000, false), (.defect, 2580000, 0, true)] := by decide +kernel

theorem test_mark_event_in_a_full_list_is_lost :
    let s := webAt { line .run with trk := { Trk.reset with events := List.replicate 16 (exEvent .operator 5) } } 9
    let t := after (.markEvent .service 1) { s with lsc := { s.lsc with serviceGrant := true } }
    (t.trk.events.length, t.trk.eventLost, t.lsc.lineState) = (16, true, .hold) := by decide +kernel

/-- The example of 1.5: record 120 folds at H = 8,013,000 into the entry that began at its origin. -/
theorem test_record_folds :
    let s := { line .run with
      trk := { Trk.reset with records := [{ exRecord 120 6360000 with cls := .inside, emboss := .inRegister
                                                                      worst := some 37 }, exRecord 121 6413000] }
      rlg := { Rlg.reset with log := [exEntry 5 .roll 6000000, exEntry 6 .roll 6360000] } }
    let t := after .recordFold (webAt s 8013000)
    t.trk.records.map RepeatRecord.index = [121] ∧
      (t.rlg.log.map fun e => (e.repeats, e.inCount, e.embIn, e.worst)) = [(0, 0, 0, none), (1, 1, 1, some 37)] ∧
      (after .recordFold (webAt s 8012999)).trk.records.length = 2 := by decide +kernel

/-! ### Emboss (05) -/

/-- A running line with its nip in a state, above the minimum emboss speed. -/
def nipIs (x : NipState) : State :=
  let s := line .run
  { s with wpu := { s.wpu with v := 60000, w := 1000, h := 1000 }
           emb := { s.emb with nip := x, nipTime := some 0, closedSince := if x = .closed then some 900 else none } }

theorem test_engage_timer :
    (let t := after .engageTimerExpiry (nipIs .engaging); (t.emb.nip, t.emb.closedSince, t.emb.nipTime)) =
      (.closed, some 1000, none) := by decide +kernel

/-- R78: a LIFTED nip whose conditions hold engages at once: 300 ms of 40,000 cycles, duty 600 from the next period. -/
theorem test_lift_timer :
    (let t := after .liftTimerExpiry (nipIs .lifting)
     (t.emb.nip, t.emb.nipTime, t.emb.pwm.setDuty, t.emb.pwm.duty, (after (.pwmPeriodStart .nip) t).emb.pwm.duty)) =
      (.engaging, some 12000000, 600, 0, 600) := by decide +kernel

/-- The pressure example of 5.3: 4,000 cycles, 2,400 of them high. -/
theorem test_pressure_output :
    let p : Pwm := { Pwm.reset with period := 249, prescale := 4, duty := 600 }
    (p.length, { p with cycle := 2399 }.output, { p with cycle := 2400 }.output) = (4000, true, false) := by decide +kernel

/-- A closed nip with a splice whose zone of 150,000 before and 100,000 after meets it at 1,250,000 + 1,300,000. -/
def spliceAt (h : Count) : State :=
  webAt { nipIs .closed with trk := { Trk.reset with events := [exEvent .splice 1400000] } } h

theorem test_coverage_begins :
    (let t := after .liftCoverageBegin (spliceAt 2550000); (t.emb.nip, t.emb.zoneActive, t.emb.release)) =
      (.lifting, true, some 2800001) ∧ (after .liftCoverageBegin (spliceAt 2549999)).emb.nip = .closed := by decide +kernel

theorem test_coverage_ends :
    let t := after .liftCoverageBegin (spliceAt 2550000)
    ((after .liftCoverageEnd (webAt t 2800001)).emb.zoneActive, (after .liftCoverageEnd (webAt t 2800000)).emb.zoneActive,
      (after .liftCheck (webAt t 2700000)).emb.lateCount) = (false, true, 1) := by decide +kernel

/-- A locked emboss loop with one sample missing from a full accumulator, and a window expected at 5,000. -/
def phasing : State :=
  let s := nipIs .lifted
  { s with emb := { s.emb with reg := .inRegister, acc := [100, 100, 100], windows := [⟨7, .marked, 5000, none⟩] } }

/-- Gain 1 and ratio 2: a mean of 100 is corrected by −100 in 200 steps. -/
theorem test_index_edge_fills_the_accumulator :
    let t := after .indexEdge (webAt phasing 5100)
    ((t.emb.trim, t.emb.phase, t.emb.acc, t.emb.lastSample), ((t.chan 8).remaining, (t.chan 8).retard, (t.chan 8).period)) =
      ((-100, .inFlight, [], some (100, 7)), (200, false, 8000)) := by decide +kernel

theorem test_window_expiry_loses_register :
    let s := { phasing with emb := { phasing.emb with missCount := 2 } }
    ((after .embossWindowExpiry (webAt s 9001)).emb.reg, (after .embossWindowExpiry (webAt s 9000)).emb.reg) =
      (.lost, .inRegister) := by decide +kernel

theorem test_emboss_status_is_written :
    let s := { nipIs .closed with trk := { Trk.reset with records := [exRecord 1 10000, exRecord 2 63000] } }
    ((after .embossStatusWrite (webAt s 1363000)).trk.records.map RepeatRecord.emboss,
      (after .embossStatusWrite (webAt s 1362999)).trk.records.map RepeatRecord.emboss) =
      ([.unknown, .notReached], [.notReached, .notReached]) := by decide +kernel

theorem test_host_lift_and_close :
    let t := after (.embossLift .line 1) (nipIs .closed)
    ((t.emb.nip, t.emb.hostLift), (after (.embossClose .line 2) t).emb.nip,
      (after (.embossClose .line 2) (after (.embossLift .line 1) (nipIs .lifted))).emb.nip) =
      ((.lifting, true), .lifting, .engaging) := by decide +kernel

/-! ### Shade (06, the examples of 6.9) -/

/-- Record 500's start point, then 501's, then the head's answer. -/
def measuring : State :=
  let s := webAt (line .run) 4000000
  { s with shu := { s.shu with starts := [(500, 4000000), (501, 4006000)] }
           trk := { s.trk with records := [exRecord 500 3000000, exRecord 501 3006000] } }

theorem test_head_starts_and_skips :
    let a := after .shadeStartPoint measuring
    let b := after .shadeStartPoint (webAt a 4006000)
    ((a.shu.head, a.shu.trigger, (after .triggerPulseEnd a).shu.trigger), b.trk.records.map RepeatRecord.shadeState) =
      ((.acquiring, true, false), [.pending, .skipped]) := by decide +kernel

theorem test_smeared_and_present_reads :
    let a := after .shadeStartPoint measuring
    let b := after (.readComplete 0x14 0x74 0x01 0x2C 0xFB 0xF8) (after .dataReady (webAt a 4006120))
    let c := after (.readComplete 0x14 0x74 0x01 0x2C 0xFB 0xF8) (after .dataReady (webAt a 4004620))
    ((b.shu.head, b.shu.counts.smeared, c.shu.drift), b.trk.records.map RepeatRecord.shadeState,
      c.trk.records.map RepeatRecord.shade) =
      ((.idle, 1, [⟨5236, 300, -1032⟩]), [.smeared, .pending], [some ⟨5236, 300, -1032⟩, none]) := by decide +kernel

theorem test_third_timeout_is_offline :
    let s := after .shadeStartPoint { measuring with shu := { measuring.shu with faultCount := 2 } }
    (let t := after .headTimeout s; (t.shu.head, t.lsc.latched.headOffline, t.trk.records.map RepeatRecord.shadeState)) =
      (.offline, true, [.absent, .pending]) ∧
    (after (.headReset .line 1) (after .headTimeout s)).shu.head = .idle := by decide +kernel

/-- The comparisons of the second example: the mean, d² and verdict of the three windows. -/
theorem test_drift_verdicts :
    let r1 : List Shade := [⟨5240, 300, -1028⟩, ⟨5238, 300, -1030⟩, ⟨5242, 300, -1030⟩, ⟨5236, 300, -1032⟩,
      ⟨5240, 300, -1028⟩, ⟨5238, 300, -1030⟩, ⟨5242, 300, -1030⟩, ⟨5270, 292, -1010⟩]
    let r2 := r1.drop 1 ++ [⟨5290, 286, -990⟩]
    let r3 := r2.drop 1 ++ [⟨5300, 280, -980⟩]
    let b : LineBatch := ⟨17, ⟨5210, 312, -1045⟩⟩
    ([r1, r2, r3].map fun r => driftCompare exJob r b) =
      [⟨⟨5243, 299, -1027⟩, 1582, .inside⟩, ⟨⟨5250, 297, -1023⟩, 2309, .warning⟩, ⟨⟨5257, 295, -1016⟩, 3339, .drift⟩] := by
  decide +kernel

/-! ### Winder (07) -/

/-- The roll of the example of 7.6 that outgrows its spindle: D_tr is 450,000 in this job too. -/
def outgrown (h : Count) : State :=
  let s := webAt (line .run) h
  { s with
    wnd := { s.wnd with
      spindleA := .full 4, spindleB := .winding 5, lastWinding := some .b, active := some ⟨5, 20000000, .roll, none⟩
      planned := some ⟨.known 20980000 none, .roll, false⟩, eMin := some 20450000, divert := false }
    rlg := { s.rlg with nextSeq := 6, log := [exEntry 4 .roll 19000000 |> fun e => e.endAt 20000000 false,
      { exEntry 5 .roll 20000000 with spindle := some .b }] }
    trk := { s.trk with records := [exRecord 9 19990000] } }

theorem test_cut_refused_then_fired :
    let a := after .cutDue (outgrown 22580000)
    let b := after (.doff .a) (webAt a 23000000)
    let c := after .cutDue (webAt b 23030000)
    ((a.wnd.planned, a.wnd.refusals, a.wnd.lastRefusal), b.wnd.spindleA, (c.wnd.spindleA, c.wnd.spindleB, c.wnd.overlength),
      c.rlg.log.map Entry.length) =
      ((some ⟨.known 21430000 none, .roll, true⟩, 1, some .spindleNotReady), .empty, (.winding 6, .full 5, false),
        [some 1000000, some 1430000, none]) := by decide +kernel

theorem test_overlength_condition :
    let a := after .cutDue (outgrown 22580000)
    ((after .overlengthCondition (webAt a 22980001)).lsc.lineState,
      (after .overlengthCondition (webAt a 22980000)).lsc.lineState) = (.hold, .run) := by decide +kernel

/-- Refused again, the cut waits, and fires at the doff at the datum at the knife. -/
theorem test_waiting_cut_fires_at_the_doff :
    let a := after .cutDue (webAt (after .cutDue (outgrown 22580000)) 23030000)
    let b := after (.doff .a) (webAt a 23100000)
    (a.wnd.planned.map CutPlan.target, b.wnd.active.map Segment.start, b.wnd.spindleA) =
      (some .waiting, some 21500000, .winding 6) := by decide +kernel

theorem test_pulses_end :
    let s := after .cutDue (webAt (after (.doff .a) (outgrown 22000000)) 22580000)
    ((s.wnd.knife, s.wnd.turret, s.wnd.transfer), (after .knifePulseEnd s).wnd.knife, (after .turretPulseEnd s).wnd.turret,
      (after .transferTimerExpiry s).wnd.transfer) = ((some 400000, some 400000, some 60000000), none, none, none) := by
  decide +kernel

/-- The example of 7.8, and its first value set by TORQUE_UPDATE. -/
theorem test_taper :
    let j := { exJob with lt := 1000000 }
    let s := { webAt (lineWith j .run) 21723000 with wnd := { Wnd.reset with active := some ⟨5, 20000000, .roll, none⟩ } }
    ([0, 123000, 500000, 1000000, 1200000].map (taperDuty j), (after .torqueUpdate s).wnd.pwm.setDuty) =
      ([800, 775, 700, 600, 600], 775) := by decide +kernel

/-- The planning example of 7.4. -/
theorem test_points_planned :
    let straight := { exJob with cutMode := CutMode.matched }
    let drop := { straight with matchType := .drop }
    (rollPoint straight ⟨300, 0⟩, rollPoint drop ⟨300, 0⟩, rollPoint drop ⟨300, 1⟩) = (⟨319, 0⟩, ⟨318, 1⟩, ⟨319, 0⟩) := by
  decide +kernel

/-! ### Roll log and batches (08, 09) -/

/-- Entry 212 of the example of 8.3 at its close. -/
def entry212 : Entry :=
  { exEntry 212 .roll 15900000 with
    state := .cut, stop := some 16907000, length := some 1007000, spindle := some .b, repeats := 19, inCount := 16
    outCount := 1, unknownCount := 2, worst := some 63, embIn := 17, embLifted := 2, defects := 1, readings := 4
    sum := ⟨20970, 1208, -4106⟩, low := some ⟨5236, 298, -1032⟩, high := some ⟨5250, 306, -1020⟩ }

/-- The job of that example. -/
def gradeJob : Job := { exJob with bReg := 0, bUnknown := 4, rejectOnSplice := false, rollsPerBatch := 3 }

/-- Its batch table: code 17 at index 0, code 18 at index 1. -/
def twoBatches : Bat :=
  { Bat.reset with
    entries := (Bat.reset.entries.set 0 ⟨some ⟨true, 17, ⟨5210, 312, -1045⟩, 1, false⟩, false, false⟩).set 1
      ⟨some ⟨true, 18, ⟨5260, 300, -1010⟩, 2, false⟩, false, false⟩
    nextCode := 19, lineBatch := some 1 }

theorem test_entry_closes :
    let s := { lineWith gradeJob .run with rlg := { Rlg.reset with log := [entry212], nextRoll := 40118 }, bat := twoBatches }
    let t := s.closeEntry gradeJob entry212
    (t.rlg.log.map fun e => (e.kind, e.roll, e.mean, e.spread2)) =
      [(some .roll, some 40118, some ⟨5243, 302, -1027⟩, some 101)] ∧
      (t.rlg.log.map fun e => (e.batch, e.grade, e.label)) = [(some 17, some .b, .due)] ∧ t.rlg.nextRoll = 40119 := by
  decide +kernel

/-- The assignments of the example of 9.5. -/
theorem test_rolls_through_the_table :
    let s := { lineWith gradeJob .run with bat := twoBatches }
    let a := (s.assignBatch gradeJob 40118 ⟨5243, 302, -1027⟩).1
    let b := (a.assignBatch gradeJob 40119 ⟨5262, 298, -1012⟩).1
    let c := (b.assignBatch gradeJob 40120 ⟨5300, 280, -980⟩).1
    [a.bat.lineBatch, b.bat.lineBatch, c.bat.lineBatch] = [some 0, none, some 2] ∧
      (([0, 1, 2] : List (Fin 32)).map fun i => c.bat.entries[i]) =
        [⟨some ⟨true, 17, ⟨5210, 312, -1045⟩, 2, false⟩, true, false⟩,
          ⟨some ⟨false, 18, ⟨5260, 300, -1010⟩, 3, false⟩, true, true⟩,
          ⟨some ⟨true, 19, ⟨5300, 280, -980⟩, 1, false⟩, true, true⟩] ∧
      c.bat.nextCode = 20 ∧ c.bat.lastAssign = some ⟨40120, 19, .opened⟩ := by decide +kernel

/-- The example of the wrap: from 9,998 past 9,999, 1 and 2 to 3. -/
theorem test_codes_wrap :
    let x := fun (open' : Bool) (code : Nat) => (⟨some ⟨open', code, ⟨0, 0, 0⟩, 1, false⟩, false, false⟩ : BatchEntry)
    let b := { Bat.reset with
      nextCode := 9998, entries := ((Bat.reset.entries.set 5 (x true 9999)).set 6 (x false 1)).set 7 (x true 2) }
    let t := b.openWith 3 40122 ⟨0, 0, 0⟩
    (t.entries[3].batch.map Batch.code, t.nextCode) = (some 9998, 3) := by decide +kernel

theorem test_batch_requests :
    let s := { line .ready with bat := twoBatches }
    let closed := after (.closeBatch .line 1 18) s
    ((closed.bat.lineBatch, closed.lnk.line.tx), (after (.purgeBatches .line 2 0 31 0) closed).bat.freeCount,
      (after (.pinBatch .line 3 18 5000 1 2) closed).bat.entries[1].batch, (after (.setBatchCode .line 4 9999) s).bat.nextCode) =
      ((none, some (.reply ⟨0xAD, 1, .done, .batchClosed 1 false⟩)), 31, some ⟨true, 18, ⟨5000, 1, 2⟩, 0, true⟩, 9999) := by
  decide +kernel

theorem test_batch_report_and_read :
    let s := { line .ready with bat := { twoBatches with
      entries := twoBatches.entries.set 1 { twoBatches.entries[1] with used := true } } }
    let t := after (.batchReport .line 1) s
    (t.bat.entries[1].used, s.bat.report.entries.map Prod.fst, (after (.batchRead .line 1 32) s).lnk.line.tx) =
      (false, [1], some (.reply ⟨0x8A, 1, .param, .field 1⟩)) := by decide +kernel

/-- Layouts of 12.8: an entry is 135 bytes, a repeat record 55, a label record 48, the report of sixteen batch entries 239 with its status. -/
theorem test_layout_lengths :
    (entry212.bytes.length, (exRecord 1 2).bytes.length, (labelRecord exJob entry212).length,
      BatchReportReply.bytes ⟨(List.range 16).map fun i => (i, twoBatches.entries[0]), 0, 1, none, none, 0⟩ |>.length) =
      (135, 55, 48, 238) := by decide +kernel

/-- R199: one presence bit for each field that may be absent (of LINE_STATUS the seven of the job, the origin and its
kind), set when it is present, and an absent field occupies its bytes. -/
theorem test_absent_fields_occupy_their_bytes :
    let none := (State.reset.lineStatus).bytes
    let job := ((line .ready).lineStatus).bytes
    (none.take 2, job.take 2, none.length == job.length) = ([0x00, 0x00], [0x00, 0x7F], true) := by decide +kernel

/-! ### Labels (10) -/

/-- A label for an entry on printer A being sent, another behind it. -/
def sending (rejects : Nat) : State :=
  let x : Label := ⟨212, .a, 40118, [], 1⟩
  let s := line .run
  { s with
    lbc := { s.lbc with
      queue := [x, ⟨213, .a, 40119, [], 0⟩], channel := some ⟨x, false, 0⟩
      printerA := { s.lbc.printerA with rejects := rejects } }
    rlg := { s.rlg with log := [{ entry212 with label := .queued, state := .closed, kind := some .roll, roll := some 40118 }] }
    pins := { s.pins with readyA := true } }

theorem test_label_accepted :
    let t := after (.labelTransferEnd 0x06) (sending 2)
    ((t.lbc.printerA.sent, t.lbc.printerA.rejects, t.lbc.accepted), t.rlg.log.map Entry.label,
      t.lbc.channel.map fun c => c.label.seq) = (([some 212], 0, 1), [.sent], some 213) ∧
      (after (.applied .a) t).rlg.log.map Entry.label = [.applied] := by decide +kernel

theorem test_third_rejection_drops_and_jam_stops :
    let t := after (.labelTransferEnd 0x15) (sending 2)
    let u := after (.labelTransferEnd 0x1A) (sending 0)
    (t.lbc.dropped, t.rlg.log.map Entry.label, (after (.labelTransferEnd 0x15) (sending 1)).lbc.printerA.rejects,
      (u.lbc.printerA.online, u.lsc.latched.printerOffline)) = (1, [.missing], 2, (false, true)) := by decide +kernel

theorem test_printer_timer :
    let s := after (.labelTransferEnd 0x15) (after (.printerReadyChange .a false) (sending 0))
    (s.lbc.printerA.timer, (after (.printerReadyChange .a true) s).lbc.printerA.timer,
      (after (.printerTimeout .a) s).lbc.printerA.lastFault,
      (after (.printerReset .line 1 0) (after (.printerTimeout .a) s)).lbc.printerA.online) =
      (some 0, none, some .timeout, true) := by decide +kernel

theorem test_release_and_reprint :
    let s := { line .ready with rlg := { Rlg.reset with log :=
      [{ entry212 with state := .closed, kind := some .roll, roll := some 40118, label := .missing }, exEntry 213 .tail 0] } }
    ((after (.releaseEntries .line 1 212) s).rlg.log.map Entry.seq, (after (.reprint .line 1 212 1) s).rlg.log.map Entry.label,
      (after (.reprint .line 1 212 1) s).lbc.queue.map Label.printer) = ([213], [.queued, .none], [.b]) := by decide +kernel

/-! ### Jobs and line states (11) -/

theorem test_load_job :
    let t := after (.loadJob .line 1 exPayload) State.reset
    t.lsc.job = some exJob ∧ t.lsc.lineState = .ready ∧ t.rlg.nextRoll = 1000001 ∧ t.msc.gates = exJob.gates := by
  decide +kernel

/-- A table with station 0 REFERENCE and station 1 RESIDENT at 9,000. -/
def tabled : State := webAt (((line .ready).putStation 0 { Station.reset with desc := .reference }).putStation 1
  (exResident .seeking)) 5000000

theorem test_start :
    let t := after (.start .line 1) tabled
    ((t.lsc.lineState, t.lsc.runPermit), t.wnd.active, t.wnd.planned, t.rlg.log.map Entry.role) =
      ((.run, true), some ⟨0, 3400000, .leadIn, none⟩, some ⟨.known 3850000 none, .roll, false⟩, [.leadIn]) ∧
      (after (.start .line 1) (line .ready)).lnk.line.tx = some (.reply ⟨0xA0, 1, .param, .check 1 255⟩) := by decide +kernel

theorem test_hold_and_resume :
    let t := after (.hold .line 1) (line .run)
    ((t.lsc.lineState, t.lsc.latched.host, t.lsc.runPermit), (after (.resume .line 2) t).lsc.lineState) =
      ((.hold, true, false), .run) := by decide +kernel

theorem test_end_and_abort :
    let run := after (.start .line 1) tabled
    let ended := after (.endJob .line 2) run
    let aborted := after (.abortJob .line 2) run
    ((ended.lsc.lineState, ended.lsc.runPermit, ended.wnd.active.map Segment.role), aborted.lsc.lineState,
      aborted.rlg.log.map fun e => (e.state, e.kind, e.flags.aborted)) =
      ((.ending, false, some .tail), .ready, [(.closed, some .waste, true)]) := by decide +kernel

/-! ### Other requests (12) -/

theorem test_grant_opens_the_service_link :
    let s := after (.grantService .line 1) (line .run)
    ((after (.hold .service 2) (line .run)).lnk.service.tx, (after (.hold .service 2) s).lsc.lineState,
      (after (.hold .service 2) (after (.revokeService .line 3) s)).lsc.lineState, (after (.reset .service 4) s).lnk.service.tx) =
      (some (.reply ⟨0xA1, 2, .denied, .empty⟩), .hold, .run, some (.reply ⟨0xC7, 4, .denied, .empty⟩)) := by decide +kernel

theorem test_reset_at_its_reply :
    let s := after (.reset .line 1) (line .run)
    (s.lsc.lineState, s.lnk.line.resetWait, (after (.frameSent .line) s).lsc.lineState) = (.run, true, .unconfigured) := by
  decide +kernel

theorem test_notice_mask :
    let s := after (.noticeMask .service 1 0x0001) (line .run)
    (s.lnk.service.mask, (after (.hold .line 2) s).lnk.service.slots) = (1, [.lineState]) := by decide +kernel

/-- The tail record covers its origin to its origin + L; web before it is in the entry, web ahead of it not resident. -/
theorem test_probe_and_roll_read :
    let s := { line .run with trk := { Trk.reset with records := [exRecord 7 1000] }
                              rlg := { Rlg.reset with log := [exEntry 3 .leadIn 0] } }
    ([53999, 54000, 999].map fun d => (after (.probe .line 1 d) s).lnk.line.tx, (after (.rollRead .line 1 4) s).lnk.line.tx) =
      ([some (.reply ⟨0x83, 1, .done, .probeRecord (exRecord 7 1000)⟩), some (.reply ⟨0x83, 1, .done, .probeNone⟩),
        some (.reply ⟨0x83, 1, .done, .probeEntry 3 none⟩)], some (.reply ⟨0x88, 1, .notFound, .empty⟩)) := by decide +kernel

/-- With a request queued, a HOLD that arrives waits behind it (R192). -/
theorem test_request_waits_in_its_queue :
    let s := line .run
    let s := { s with lnk := { s.lnk with line := { s.lnk.line with requests := [⟨0x01, 7, []⟩] } } }
    let t := after (.hold .line 2) s
    let u := after (.requestTake .line) (after (.requestTake .line) t)
    (t.lnk.line.requests, t.lsc.lineState, u.lsc.lineState) = ([⟨0x01, 7, []⟩, ⟨0x21, 2, []⟩], .run, .hold) := by decide +kernel

/-- The frame of LABEL_FAULT for printer B (R172, R196): kind 0x65, tag 0, subject 1. -/
theorem test_notice_frame :
    let f := Frame.notice (.labelFault .b) (State.reset.noticeBody (.labelFault .b))
    (f.kind, f.tag, f.payload.take 2) = (0x65, 0, [1, 0]) := by decide +kernel

/-- The duties of R83's example: 600 of 1,000 is 2,400 of 4,000 cycles; 1,000 is high without a gap. -/
theorem test_pwm_output :
    let p : Pwm := { Pwm.reset with period := 249, prescale := 4, duty := 600 }
    let q := { p with duty := 1000 }
    ([2399, 2400].map fun n => ({ p with cycle := n }).output, [0, 3999, 4000].map fun n => ({ q with cycle := n }).output) =
      ([true, false], [true, true, true]) := by decide +kernel

theorem test_status_requests_clear :
    let s := { line .run with lsc := { (line .run).lsc with reported := { overspeed := true } }
                              emb := { Emb.reset with flags := { saturated := true } }
                              shu := { Shu.reset with clampL := true } }
    ((after (.lineStatus .line 1) s).lsc.reported, (after (.embossStatus .line 1) s).emb.flags,
      (after (.shadeStatus .line 1) s).shu.clampL) = ({}, {}, false) := by decide +kernel

theorem test_other_status_requests_answer :
    ([.identify .line 1, .winderStatus .line 1, .labelStatus .line 1].map fun c =>
      match (after c State.reset).lnk.line.tx with
      | some (.reply r) => (r.kind, r.status)
      | _ => (0, .illegal)) = [(0x81, .done), (0x87, .done), (0x8B, .done)] := by rfl

/-! ### The step -/

theorem test_step_takes_the_front :
    step { State.reset with pending := [.encoderFault, .markEdge] } =
      exec .encoderFault { State.reset with pending := [.markEdge] } := by rfl

theorem test_idle_step_is_a_cycle :
    (match step State.reset with
      | .next t => t.wpu.windowTime
      | _ => 0) = 1 := by decide +kernel

end Sys2Proof.Tests
end

