-- ==== Sys2Proof/Tests/Witnesses.lean ====
section
/-! SUPPORT. Witnesses: for the statements that have hypotheses, states and operands that meet the hypotheses of each
clause together, at the boundary values of their ranges. -/

namespace Sys2Proof.Tests

-- one proof at a time: the joined package would else open a thread for each of them
set_option Elab.async false

open Sys2Proof.Machine

/-! ### The step and the laws -/

theorem witness_StepRunsFrontCommand :
    ({ State.reset with pending := [.encoderFault] } : State).pending = .encoderFault :: [] := rfl

/-- The state after reset with the speed window at a count of cycles. -/
def windowAt (n : Nat) : State := { State.reset with wpu := { State.reset.wpu with windowTime := n } }

/-- A position and a timer that have fallen due, and the timer one cycle before. -/
theorem witness_IdleStepRunsDueStepOrClock :
    ((measuring.pending = [] ∧ measuring.nextDue = some .shadeStartPoint) ∧
      (State.reset.pending = [] ∧ State.reset.nextDue = none) ∧
      (windowAt 400000).nextDue = some .speedWindowEnd ∧ (windowAt 399999).nextDue = none) ∧
    FallenDue measuring .shadeStartPoint ∧ FallenDue (windowAt 400000) .speedWindowEnd ∧
    ¬FallenDue (windowAt 399999) .speedWindowEnd := by
  refine ⟨by decide +kernel, .inl ⟨exJob, rfl, _, _, rfl, by decide +kernel⟩, .inr (Nat.le_refl 400000), ?_⟩
  rintro (⟨j, h, -⟩ | h)
  · cases h
  · exact absurd (show 400000 ≤ 399999 from h) (by decide)

/-- A hold just requested, its reply and its notice on the way. -/
def held : State := { after (.hold .line 1) (line .run) with pending := [.engageTimerExpiry] }

theorem witness_EveryStepKeepsLinkLaw :
    LinkLaw held ∧ (∃ t, step held = .next t) ∧ held.lnk.line.replies ≠ [] ∧ held.lnk.line.tx ≠ none := by
  refine ⟨?_, ⟨_, rfl⟩, ?_⟩
  · unfold LinkLaw LinkHalf.Law; decide +kernel
  · decide +kernel

theorem witness_EveryStepKeepsNipLaw : NipLaw (nipIs .closed) ∧ ∃ t, step (nipIs .closed) = .next t := by
  refine ⟨?_, ⟨_, rfl⟩⟩
  unfold NipLaw; decide +kernel

theorem witness_EveryStepKeepsLineLaw : LineLaw held ∧ held.lsc.lineState = .hold ∧ ∃ t, step held = .next t := by
  refine ⟨?_, ?_, ⟨_, rfl⟩⟩
  · unfold LineLaw; decide +kernel
  · decide +kernel

/-- A line with a full event list and no capture, a station with an averaging of eight and seven samples. -/
def crowded : State :=
  State.putStation { line .run with trk := { Trk.reset with events := List.replicate 16 (exEvent .operator 5) } } 3
    { exResident .tracking with
      desc := .resident ⟨9000, 400000, { exTuning with averaging := 8 }, 3, 50⟩, acc := List.replicate 7 1 }

theorem witness_EveryStepKeepsCapacities :
    CapacityLaw crowded ∧ crowded.trk.events.length = 16 ∧ (crowded.station 3).acc.length = 7 := by
  refine ⟨⟨by decide +kernel, by decide +kernel, by decide +kernel, by decide +kernel, by decide +kernel, fun c hc => ?_,
    by decide +kernel, by decide +kernel, fun i => ⟨?_, fun d hd => ?_⟩, by decide +kernel, fun j hj => ?_⟩,
    by decide +kernel, by decide +kernel⟩
  · have : crowded.msc.capture = none := rfl
    rw [this] at hc
    cases hc
  · exact (by decide +kernel : ∀ i : StationId, (crowded.station i).acc.length ≤ Config.accumulatorCap) i
  · have h := (by decide +kernel : ∀ i : StationId, (match (crowded.station i).desc with
      | .resident d => decide (d.tuning.averaging ≤ Config.accumulatorCap)
      | _ => true) = true) i
    rw [hd] at h
    exact of_decide_eq_true h
  · cases hj
    decide

/-- A running line with two batches in the table. -/
def batched : State := { lineWith gradeJob .run with bat := twoBatches }

theorem batched_codes_apart : ∀ i k : Fin 32, (batched.bat.entries[i].batch.all fun x =>
    batched.bat.entries[k].batch.all fun y => x.code != y.code || i == k) = true := by decide +kernel

theorem witness_EveryStepKeepsBatchLaw : BatchLaw batched ∧ ∃ t, step batched = .next t := by
  refine ⟨⟨by decide +kernel, ?_, ?_, by decide +kernel⟩, ⟨_, rfl⟩⟩
  · intro i x hx
    have h := (by decide +kernel : ∀ i : Fin 32,
      (batched.bat.entries[i].batch.all fun x => decide (1 ≤ x.code ∧ x.code ≤ 9999)) = true) i
    rw [hx] at h
    simpa using h
  · intro i k x y hx hy hxy
    have h := batched_codes_apart i k
    rw [hx, hy] at h
    simp only [Option.all_some, Bool.or_eq_true, bne_iff_ne, ne_eq, beq_iff_eq] at h
    exact h.resolve_left fun g => g hxy

theorem witness_EveryStepKeepsRestLaw :
    RestLaw tabled ∧ tabled.running = false ∧ RestLaw correcting ∧ correcting.running = true := by
  refine ⟨fun _ => ?_, by decide +kernel, fun h => absurd h (by decide +kernel), by decide +kernel⟩
  refine ⟨rfl, rfl, rfl, rfl, rfl, rfl, rfl, by decide +kernel, rfl, rfl, rfl, rfl, rfl, rfl, rfl, rfl, rfl⟩

/-- A measurement in ACQUIRING. -/
def acquiring : State := after .shadeStartPoint measuring

theorem witness_EveryStepKeepsHeadLaw : RestLaw acquiring ∧ HeadLaw acquiring ∧ acquiring.shu.head = .acquiring := by
  refine ⟨fun h => absurd h (by decide +kernel), ?_, by decide +kernel⟩
  unfold HeadLaw; decide +kernel

theorem witness_EveryStepKeepsTrainLaw : RestLaw correcting ∧ TrainLaw correcting ∧
    (correcting.chan 3).inFlight = true ∧ (correcting.station 3).st = .correcting := by
  refine ⟨fun h => absurd h (by decide +kernel), ?_, by decide +kernel⟩
  unfold TrainLaw; decide +kernel

theorem witness_EveryStepKeepsTrimLaw :
    RestLaw correcting ∧ TrainLaw correcting ∧ TrimLaw correcting ∧ (correcting.station 3).trim = -500 := by
  refine ⟨witness_EveryStepKeepsTrainLaw.1, witness_EveryStepKeepsTrainLaw.2.1, ⟨?_, ?_⟩, by decide +kernel⟩
  · intro i limit h
    have g := (by decide +kernel : ∀ i : Fin 8, ((correcting.station i).trimLimit?.all fun limit =>
      decide ((correcting.station i).trim.natAbs ≤ limit) && (correcting.station i).train.all fun n =>
        decide (n.before.natAbs ≤ limit) && decide ((n.before + n.c).natAbs ≤ limit)) = true) i
    rw [h] at g
    simp only [Option.all_some, Bool.and_eq_true, decide_eq_true_eq] at g
    refine ⟨g.1, fun n hn => ?_⟩
    have := g.2
    rw [hn] at this
    simpa using this
  · intro j _
    have trim : correcting.emb.trim = 0 := rfl
    have train : correcting.emb.train = none := rfl
    rw [trim, train]
    exact ⟨Nat.zero_le _, fun n hn => by cases hn⟩

/-! ### Web and scanner -/

theorem witness_EncoderTransitionMovesTheWeb :
    ahead (-1) State.reset.wpu.h ≤ 0 ∧ State.reset.lsc.job = none ∧
      (0 < ahead 1 (line .run).wpu.h ∧ (line .run).lsc.job ≠ none ∧ (line .run).wpu.reversed = false ∧
        ((line .run).wnd.planned.any fun c => c.target == .waiting) = false) := by decide +kernel

/-- The roll that outgrew its spindle and was cut when A came free, its successor waiting again: A is FULL, or EMPTY. -/
def waitingCut (a : SpindleState) : State :=
  let s := webAt (after .cutDue (webAt (after .cutDue (outgrown 22580000)) 23030000)) 23030000
  { s with wnd := { s.wnd with spindleA := a } }

/-- An advance with a waiting cut: with A FULL it waits on, with A EMPTY it fires at the knife. -/
theorem witness_EncoderTransitionFiresAWaitingCut :
    (∀ a ∈ ([.full 4, .empty] : List SpindleState), 0 < ahead 23030001 (waitingCut a).wpu.h ∧ (waitingCut a).lsc.job = some exJob ∧
      (waitingCut a).wnd.planned = some ⟨.waiting, .roll, true⟩ ∧ (waitingCut a).rlg.log.length < 32 ∧
      (waitingCut a).wpu.reversed = false) ∧
    (∀ k, ¬Chosen (waitingCut (.full 4)) k) ∧ (∃ k, Chosen (waitingCut .empty) k) ∧
    (after (.encoderTransition .a) (waitingCut (.full 4))).wnd.lastCut = (waitingCut (.full 4)).wnd.lastCut ∧
    (after (.encoderTransition .a) (waitingCut .empty)).wnd.lastCut = some 21430001 ∧
    (let s := { webAt (line .run) 5 with pins := { (line .run).pins with defectLine := true } }
     let r : State := { s with wpu := { s.wpu with reversed := true } }
     r.running = true ∧ r.reverse = false ∧ r.trk.events.length < 16 ∧
       (after (.encoderTransition .a) r).trk.events.map WebEvent.datum = [fwd 6 exJob.uDef] ∧
       (after (.encoderTransition .a) s).trk.events = []) := by
  refine ⟨by decide +kernel, fun k h => ?_, ⟨.a, by decide +kernel, fun last h => ?_, fun h _ => by cases h⟩,
    by decide +kernel, by decide +kernel, by decide +kernel⟩
  · cases k
    · exact absurd h.1 (by decide +kernel)
    · exact absurd h.1 (by decide +kernel)
  · have : (waitingCut .empty).wnd.lastWinding = some .b := by decide +kernel
    rw [this] at h
    cases h
    decide

theorem witness_SpeedWindowEndMeasuresAndJudges :
    ((nipIs .closed).emb.nip = .closed ∧ ((nipIs .closed).lsc.job.any fun j => decide (49900 < j.vMinEmboss)) = true ∧
        ((nipIs .closed).lsc.job.any fun j => decide (50000 < j.vMinEmboss)) = false) ∧
      (let s := webAt (line .run) 500
       s.emb.nip = .lifted ∧ (after .speedWindowEnd s).mayClose = true ∧ (after .speedWindowEnd s).lsc.job.isSome = true) := by
  decide +kernel

theorem witness_StoppedFlagIsSetAndEndsATail :
    (let s := webAt (line .ending) 5; s.wpu.stopped = false ∧ s.lsc.lineState = .ending ∧ s.lsc.job ≠ none) ∧
      (let s := webAt (line .run) 5; s.wpu.stopped = false ∧ s.lsc.lineState ≠ .ending) := by decide +kernel

theorem witness_NothingElseMovesTheWebCounts :
    (∃ t, exec .markEdge (line .run) = .next t) ∧ ∃ t, exec (.encoderTransition .a) (line .run) = .next t :=
  ⟨⟨_, rfl⟩, ⟨_, rfl⟩⟩

/-- A LOCKED scanner at a count, its origin 1,031,000, with edges captured since: MARKS windows up to 1,074,150. -/
def capturing (n : Nat) (h : Count) : State :=
  webAt { lineWith exJob .run with msc := { Msc.reset with
    refState := .locked, origin := some ⟨1031000, .marked⟩, oMax := 43000
    capture := some ⟨0, 1031000, List.replicate n 1031001, none⟩ } } h

/-- Outside the 200 counts on either side of the expected origin 1,084,000 an edge fixes nothing. -/
theorem off_window (n : Nat) (h : Count) (far : ¬(-(200 : Int) ≤ ahead h 1084000 ∧ ahead h 1084000 ≤ 200)) :
    ¬EdgeFixes (capturing n h).msc exJob h := by
  rintro ⟨-, h' | ⟨o, ho, h'⟩⟩
  · cases h'
  · cases ho
    rcases h' with ⟨-, h1, h2⟩ | ⟨h', -⟩
    · exact far ⟨h1, h2⟩
    · cases h'

theorem capturing_window (n : Nat) (x h : Count) :
    WindowExpired (capturing n x).msc exJob ⟨1031000, .marked⟩ h ↔ 0 ≤ ahead h 1084201 :=
  ⟨fun h => h.elim (fun h => h.2) (fun h => by cases h.1), fun h => .inl ⟨.inl rfl, h⟩⟩

theorem witness_MarkEdgeFixesAnOriginOrIsCaptured :
    ((capturing 15 1084200).lsc.job = some exJob ∧ (capturing 15 1084200).running = true ∧
      (capturing 15 1084200).reverse = false ∧ (line .ready).running = false) ∧
    (∀ h ∈ ([1083800, 1084200] : List Count), EdgeFixes (capturing 15 h).msc exJob h ∧
      ¬WindowExpired (capturing 15 h).msc exJob ⟨1031000, .marked⟩ h) ∧
    (∀ h ∈ ([1031000, 1031001, 1074150, 1074151, 1083799] : List Count), ∀ n, ¬EdgeFixes (capturing n h).msc exJob h) ∧
    (∀ n h, EdgeAdmitted (capturing n h).msc .marks h) ∧
    ([1031001, 1074150].all fun h => decide (0 < ahead h 1031000) && reached (fwd 1031000 (43000 + exJob.wMark)) h) = true ∧
    (¬0 < ahead 1031000 1031000 ∧ reached (fwd 1031000 (43000 + exJob.wMark)) 1074151 = false) ∧
    (((capturing 15 0).msc.capture.map fun c => c.edges.length) = some 15 ∧
      ((capturing 16 0).msc.capture.map fun c => c.edges.length) = some 16 ∧ (line .run).msc.capture = none) ∧
    WindowExpired (capturing 15 1084201).msc exJob ⟨1031000, .marked⟩ 1084201 ∧
    EdgeFixes (line .run).msc exJob 5 := by
  have free : ∀ k : Fin 4, Msc.reset.gates[k].enabled = false := by decide +kernel
  have admitted : ∀ n h role, EdgeAdmitted (capturing n h).msc role h := fun _ _ _ => .inl free
  have fixes : ∀ h, -(200 : Int) ≤ ahead h 1084000 ∧ ahead h 1084000 ≤ 200 → EdgeFixes (capturing 15 h).msc exJob h :=
    fun h x => ⟨admitted _ _ _, .inr ⟨_, rfl, .inl ⟨.inl rfl, x.1, x.2⟩⟩⟩
  refine ⟨by decide +kernel, fun h hh => ?_, fun h hh n => off_window n h ?_, fun n h => admitted n h _, by decide +kernel,
    by decide +kernel, by decide +kernel, (capturing_window _ _ _).mpr (by decide), .inl free, .inl rfl⟩
  · rw [capturing_window]
    simp only [List.mem_cons, List.not_mem_nil, or_false] at hh
    rcases hh with rfl | rfl <;> exact ⟨fixes _ (by decide), by decide⟩
  · simp only [List.mem_cons, List.not_mem_nil, or_false] at hh
    rcases hh with rfl | rfl | rfl | rfl | rfl <;> decide

/-- The gates of the example: position bytes 38 and 39 match the second, from 9,728 to 10,239 counts on. -/
theorem witness_gates_match :
    EdgeAdmitted { Msc.reset with gates := exGates, prevEdge := some 1021000 } .ref 1031239 ∧
      GateMatches exGates[1] 1030728 1021000 ∧ ¬GateMatches exGates[1] 1031240 1021000 := by
  have agree : ∀ x : Count, (∀ i : Fin 8, (1 : Byte).getLsbD i = false → (x - 1021000).getLsbD (8 + i) = (38 : Byte).getLsbD i) →
      GateMatches exGates[1] x 1021000 := fun x g => ⟨rfl, fun i hi h => g ⟨i, hi⟩ h⟩
  refine ⟨.inr ⟨1, 1021000, .inl rfl, agree _ (by decide), .inr ⟨rfl, rfl⟩⟩, agree _ (by decide), fun h => ?_⟩
  have := h.2 3 (by decide) (by decide : (1 : Byte).getLsbD 3 = false)
  exact absurd (show (1031240 - 1021000 : Count).getLsbD 11 = (38 : Byte).getLsbD 3 from this) (by decide)

theorem witness_WindowExpiryFixesAProjectedOrigin :
    (let s := scanAt { Msc.reset with refState := .flywheel, missCount := 1, origin := some ⟨2000000, .marked⟩ }
     WindowExpired (s 2053201).msc scanJob ⟨2000000, .marked⟩ 2053201 ∧
       ¬WindowExpired (s 2053200).msc scanJob ⟨2000000, .marked⟩ 2053200 ∧ scanJob.refMissLimit ≤ (s 0).msc.missCount + 1 ∧
       0 + 1 < scanJob.refMissLimit ∧ (s 0).lsc.job = some scanJob) ∧
    (let s := scanAt { Msc.reset with refState := .lost, origin := some ⟨2106000, .flywheel⟩ }
     WindowExpired (s 2185500).msc scanJob ⟨2106000, .flywheel⟩ 2185500 ∧
       ¬WindowExpired (s 2185499).msc scanJob ⟨2106000, .flywheel⟩ 2185499 ∧
       (s 0).msc.origin = some ⟨2106000, .flywheel⟩ ∧ (s 0).lsc.job = some scanJob) := by
  refine ⟨⟨.inl ⟨.inr rfl, by decide⟩, fun h => ?_, by decide, by decide, rfl⟩, .inr ⟨rfl, by decide⟩, fun h => ?_, rfl, rfl⟩
  · rcases h with ⟨-, h⟩ | ⟨h, -⟩
    · exact absurd h (by decide)
    · cases h
  · rcases h with ⟨h | h, -⟩ | ⟨-, h⟩
    · cases h
    · cases h
    · exact absurd h (by decide)

theorem witness_ClosingsHandTheOutcomes :
    (let s := closing .marked
     s.lsc.job = some scanJob ∧ s.msc.closings = [⟨0, 1031000, .marked⟩] ∧ s.msc.capture = some ⟨0, 1031000, [1074060], none⟩ ∧
       reached s.wpu.h (fwd 1031000 (s.msc.oMax + scanJob.wMark)) = true ∧ reached 1074199 (fwd 1031000 (43000 + scanJob.wMark)) = false ∧
       ((s.station 5).isResident = true ∧ (s.station 5).engaged = true ∧ s.msc.offsets[5] = some 43000 ∧ s.station 4 = Station.reset)) ∧
    (let s := closing .flywheel
     s.lsc.job = some scanJob ∧ s.msc.closings = [⟨0, 1031000, .flywheel⟩] ∧ OriginKind.flywheel ≠ .marked ∧
       reached s.wpu.h (fwd 1031000 (s.msc.oMax + scanJob.wMark)) = true) ∧
    (let inside := fun (e : Count) (edges : List Count) =>
       edges.filter fun x => decide (-(150 : Int) ≤ ahead x e ∧ ahead x e ≤ 150)
     inside 9000 [8849, 9151] = [] ∧ inside 9000 [8850] = [8850] ∧ inside 9000 [9150] = [9150] ∧
       2 ≤ (inside 9000 [8850, 9150]).length ∧ reached (fwd 9000 150) 9150 = true ∧ reached (fwd 9000 150) 9151 = false) := by
  decide +kernel

/-! ### Reports -/

/-- A log of two entries, one record in the track. -/
def reporting : State :=
  { line .run with trk := { Trk.reset with records := [exRecord 7 1000] }
                   rlg := { Rlg.reset with log := [exEntry 2 .leadIn 0, exEntry 3 .roll 500] } }

theorem witness_ReadsReportOneEntryWhole :
    reporting.mayTake .service = true ∧
      (reporting.rlg.log = [exEntry 2 .leadIn 0] ++ exEntry 3 .roll 500 :: [] ∧ (exEntry 3 .roll 500).seq = 3 ∧
        ∀ x ∈ [exEntry 2 .leadIn 0], x.seq ≠ 3) ∧
      (∀ e ∈ reporting.rlg.log, e.seq ≠ 4) ∧ (31 : Fin 32).val = 31 ∧ 31 < (32 : Byte).toNat := by decide +kernel

theorem witness_ProbeFindsRecordThenEntry :
    (CoversAt 53000 reporting.trk.records 1000 0 ∧ CoversAt 53000 reporting.trk.records 53999 0) ∧
      ((∀ k, ¬CoversAt 53000 reporting.trk.records 54000 k) ∧ reporting.trk.records = [] ++ [exRecord 7 1000] ∧
        reached 54000 (fwd (exRecord 7 1000).origin 53000) = true) ∧
      ([500, 999].all fun d => !reached d (fwd 1000 53000) && (exEntry 3 .roll 500).contains d) = true ∧
      (∀ k, ¬CoversAt 53000 reporting.trk.records 500 k) ∧ (∀ k, ¬CoversAt 53000 reporting.trk.records 999 k) ∧
      ((∀ k, ¬CoversAt 53000 reporting.trk.records 499 k) ∧ (exEntry 2 .leadIn 0).contains 499 = true ∧
        ∀ x ∈ [exEntry 3 .roll 500], x.contains 499 = false) ∧
      ((∀ k, ¬CoversAt 53000 reporting.trk.records (-1) k) ∧ reached (-1) (fwd 1000 53000) = false ∧
        ∀ e ∈ reporting.rlg.log, e.contains (-1) = false) := by
  have none (d : Count) (h : (reached d 1000 && !reached d 54000) = false) (k : Nat) :
      ¬CoversAt 53000 reporting.trk.records d k := by
    rintro ⟨r, hr, h1, h2⟩
    match k, hr with
    | 0, hr =>
      have hr : some (exRecord 7 1000) = some r := hr
      cases hr
      have h1 : reached d 1000 = true := h1
      have h2 : reached d 54000 = false := h2
      rw [h1, h2] at h
      exact absurd h (by decide)
    | k + 1, hr => exact absurd hr (by simp [reporting])
  have covers (d : Count) (h1 : reached d 1000 = true) (h2 : reached d 54000 = false) :
      CoversAt 53000 reporting.trk.records d 0 := ⟨_, rfl, h1, h2⟩
  exact ⟨⟨covers _ (by decide +kernel) (by decide +kernel), covers _ (by decide +kernel) (by decide +kernel)⟩,
    ⟨none _ (by decide +kernel), rfl, by decide +kernel⟩, by decide +kernel, none _ (by decide +kernel),
    none _ (by decide +kernel), ⟨none _ (by decide +kernel), by decide +kernel, by decide +kernel⟩,
    none _ (by decide +kernel), by decide +kernel, by decide +kernel⟩

theorem witness_StatusRequestsReportAndClear :
    reporting.mayTake .line = true ∧ reporting.mayTake .service = true ∧ 7 < (8 : Byte).toNat ∧
      reporting.lsc.job = some exJob ∧ reporting.lsc.holdMask = some exJob.mask := by decide +kernel

/-! ### Links -/

/-- A link with four replies queued. -/
def fullLink : State :=
  let r : Reply := ⟨0x81, 0, .done, .empty⟩
  { line .run with lnk := { (line .run).lnk with
      line := { (line .run).lnk.line with tx := some (.reply r), replies := [r, r, r, r] } } }

/-- The line link with requests queued. -/
def askedAll (queue : List RawRequest) : State :=
  { line .run with lnk := { (line .run).lnk with line := { (line .run).lnk.line with requests := queue } } }

theorem witness_RequestsAreTestedForLengthThenClass :
    (requestInfo (.setStation .line 1 []) = some ⟨.line, 1, 0x41, .configure, false⟩ ∧ (line .run).mayTake .line = true ∧
      (Instr.setStation .line 1 (List.replicate 24 0)).wellFormed = false) ∧
    (requestInfo (.hold .service 1) = some ⟨.service, 1, 0x21, .operate, false⟩ ∧ (line .run).mayTake .service = true ∧
      (Instr.hold .service 1).wellFormed = true ∧ (line .run).lsc.serviceGrant = false) ∧
    (requestInfo (.reset .service 1) = some ⟨.service, 1, 0x47, .configure, true⟩ ∧ (Instr.reset .service 1).wellFormed = true) ∧
    (fullLink.mayTake .line = false ∧ (fullLink.half .line).requests.length < 4) ∧
    ([1, 3].all fun n => let s := askedAll (List.replicate n ⟨1, 0, []⟩)
      !s.mayTake .line && decide ((s.half .line).requests.length < 4)) = true ∧
    (let s := askedAll (List.replicate 4 ⟨1, 0, []⟩)
     s.mayTake .line = false ∧ 4 ≤ (s.half .line).requests.length) := by decide +kernel

theorem witness_LinkRequestsChangeTheirItems :
    (line .run).mayTake .line = true ∧ (line .run).mayTake .service = true := by decide +kernel

theorem witness_TakenRequestIsItsCommand :
    ((line .run).half .line).requests = [] ∧ 4 ≤ (fullLink.half .line).replies.length ∧
      ((after (.reset .line 1) (line .run)).half .line).resetWait = true ∧
      (let r : RawRequest := ⟨0x44, 5, [1, 2]⟩
       ((askedAll [r, r]).half .line).requests = r :: [r] ∧ ((askedAll [r]).half .line).requests = r :: [] ∧
         ((askedAll [r]).half .line).replies.length < 4 ∧ ((askedAll [r]).half .line).resetWait = false ∧
         commandOf .line r = some (.setBatchCode .line 5 0x0102) ∧
         (({ askedAll [] with lsc := Lsc.reset } : State).mayTake .line) = true) ∧
      ([0x00, 0x0D, 0x1F, 0x30, 0x3F, 0x48, 0xFF].all fun k => !isRequestKind k) = true ∧
      (isRequestKind 0x44 = true ∧ commandOf .line ⟨0x44, 5, [1]⟩ = none) := by decide +kernel

theorem witness_BytesMoveTheAssembler :
    (line .run).lnk.line.rx = .hunt ∧ (afterAll [.byteReceived .line 0xC3 false] (line .run)).lnk.line.rx = .count ∧
      (afterAll [.byteReceived .line 0xC3 false, .byteReceived .line 2 false] (line .run)).lnk.line.rx = .body 2 [] ∧
      (afterAll [.byteReceived .line 0xC3 false, .byteReceived .line 252 false] (line .run)).lnk.line.rx = .body 252 [] ∧
      ([1, 253].map fun b => (afterAll [.byteReceived .line 0xC3 false, .byteReceived .line b false] (line .run)).lnk.line.rx) =
        [.hunt, .hunt] ∧
      crc16 [2, 1, 7] = (0xE1 : Byte) ++ (0x2A : Byte) ∧ crc16 [2, 1, 7] ≠ (0xE1 : Byte) ++ (0x2B : Byte) ∧
      ((line .run).lnk.line.requests.length < 4 ∧ 4 ≤ (List.replicate 4 (⟨1, 0, []⟩ : RawRequest)).length) := by decide +kernel

theorem witness_FrameReceivedIsTheRequestSent :
    (line .run).lnk.line.rx = .hunt ∧ (List.replicate 250 (0 : Byte)).length ≤ 250 ∧
      (line .run).lnk.line.requests.length < 4 := by decide +kernel

/-- The reply to a BATCH_REPORT of sixteen entries. -/
def longReply : Frame :=
  .reply ⟨0x89, 1, .done, .batchReport
    { entries := List.replicate 16 (0, ⟨some ⟨true, 17, ⟨0, 0, 0⟩, 1, false⟩, true, true⟩), stillMarked := 0, nextCode := 1
      lineBatch := none, lastAssign := none, overflows := 0 }⟩

theorem witness_FrameSentLetsTheArbiterChoose :
    (line .run).lnk.line.tx = none ∧
      (let s := after (.reset .line 1) (line .run)
       s.lnk.line.tx = some (.reply ⟨0xC7, 1, .done, .empty⟩) ∧ s.lnk.line.resetWait = true) ∧
      (held.lnk.line.tx ≠ none ∧ held.lnk.line.resetWait = false) ∧
      (let h := { fullLink.lnk.line with slots := [.logSpace, .headFault] }
       h.slots.any (fun n => decide (n.kindIndex ≤ 6)) = true ∧ ([Notice.shadeWarning].all fun n => decide (6 < n.kindIndex))) ∧
      ((Frame.reply ⟨0x81, 1, .done, .empty⟩).payload.length ≤ 250 ∧ longReply.payload.length ≤ 250 ∧
        250 < (Frame.reply ⟨0x8B, 1, .done, .labelStatus
          { labels := [], sending := none
            printerA := ⟨true, true, 0, none, List.replicate 32 (some 1), none⟩
            printerB := ⟨true, true, 0, none, List.replicate 32 (some 1), none⟩
            offlineCond := false, dueCount := 0, oldestDue := none, accepted := 0, rejections := 0, dropped := 0, jams := 0
            timeouts := 0, unattached := 0 }⟩).payload.length) := by
  decide +kernel

/-! ### Stations, channels, arithmetic -/

/-- Station 3 in CORRECTING with a bad count, and its INDIRECT follower 4 with steps left. -/
def following (bad : Nat) (left : Bool) : State :=
  ((correcting.putStation 3 { correcting.station 3 with bad := bad }).putStation 4
    { Station.reset with desc := .indirect ⟨3, 15, 2000, 300, 1000⟩, trim := -5, train := some ⟨10, -15⟩ }).putChan 4
      { Channel.reset with inFlight := left, remaining := 6, emitted := 12 }

/-- The same with the leader TRACKING, as no run has it: the follower's train completes beside it. -/
def unled : State :=
  let s := following 2 true
  (s.putStation 3 { s.station 3 with st := .tracking }).putChan 4 { s.chan 4 with remaining := 1 }

theorem witness_StepPulseEndsATrainUnled : (unled.chan 4).inFlight = true ∧ (unled.chan 4).remaining ≤ 1 ∧
    ∀ leader d, BelongsTo unled leader 4 → (unled.station leader).desc = .resident d →
      (unled.station leader).st ≠ .correcting := by
  have states : ∀ i : StationId, (unled.station i).st ≠ .correcting := by decide +kernel
  exact ⟨by decide +kernel, by decide +kernel, fun leader _ _ _ => states leader⟩

theorem others_idle : ∀ k : StationId, k ≠ 3 → ((following 2 false).chan (channelOf k)).inFlight = false ∧
    ((following 3 false).chan (channelOf k)).inFlight = false := by decide +kernel

theorem witness_StepPulseEmitsAndEndsATrain :
    ((line .run).chan 8).inFlight = false ∧ ((following 0 true).chan 4).inFlight = true ∧
      1 < ((following 0 true).chan 4).remaining ∧ ((following 2 false).chan 3).remaining ≤ 1 ∧
      ((following 2 false).station 3).desc = .resident ⟨9000, 400000, exTuning, 3, 50⟩ ∧
      ((following 2 false).station 3).st = .correcting ∧ (following 2 false).lsc.job = some exJob ∧
      BelongsTo (following 2 true) 3 4 ∧
      (∃ k, k ≠ 3 ∧ BelongsTo (following 2 true) 3 k ∧ ((following 2 true).chan (channelOf k)).inFlight = true) ∧
      (∀ k, k ≠ 3 → BelongsTo (following 2 false) 3 k → ((following 2 false).chan (channelOf k)).inFlight = false) ∧
      ((following 2 false).station 3).bad < 3 ∧ 3 ≤ ((following 3 false).station 3).bad ∧
      (∀ k, k ≠ 3 → BelongsTo (following 3 false) 3 k → ((following 3 false).chan (channelOf k)).inFlight = false) := by
  have belongs : BelongsTo (following 2 true) 3 4 := .inr ⟨_, rfl, rfl⟩
  refine ⟨by decide +kernel, by decide +kernel, by decide +kernel, by decide +kernel, rfl, by decide +kernel, rfl,
    belongs, ⟨4, by decide, belongs, by decide +kernel⟩, fun k h _ => (others_idle k h).1, by decide +kernel,
    by decide +kernel, fun k h _ => (others_idle k h).2⟩

/-- Station 3 in a state with a bad count and some samples. -/
def offered (x : StationState) (bad : Nat) (acc : List Int) : State :=
  (line .run).putStation 3 { exResident x with bad := bad, acc := acc }

theorem witness_OfferedOutcomesMoveTheStation :
    ((line .run).station 3).isResident = false ∧
      (([.seeking, .tracking, .correcting, .settling, .lost] : List StationState).all fun x =>
        ((offered x 1 []).station 3).st == x && ((offered x 1 []).station 3).engaged) = true ∧
      ((offered .tracking 0 [1, 2]).station 3).acc.length + 1 < 4 ∧ 4 ≤ ((offered .tracking 0 [1, 2, 3]).station 3).acc.length + 1 ∧
      ((offered .tracking 1 []).station 3).bad + 1 < 3 ∧ 3 ≤ ((offered .tracking 2 []).station 3).bad + 1 := by decide +kernel

/-- Station 3 with three samples of Case 1, and its followers: 4 of Case 6, 5 at its trim limit, 6 disengaged. -/
def led : State :=
  let follower := fun (trim : Int) (engaged : Bool) =>
    { Station.reset with desc := .indirect ⟨3, 15, 2000, 300, 1000⟩, trim := trim, engaged := engaged }
  (((offered .tracking 0 [37, 41, 35]).putStation 4 (follower 10 true)).putStation 5 (follower (-2000) true)).putStation 6
    (follower 0 false)

theorem witness_FullAccumulatorCorrects :
    ((led.station 3).desc = .resident ⟨9000, 400000, exTuning, 3, 50⟩ ∧ (led.station 3).engaged = true ∧
      (led.station 3).st = .tracking ∧ exTuning.averaging ≤ (led.station 3).acc.length + 1 ∧
      (cauFull [37, 41, 35, 40] (led.station 3).trim exTuning).train = some (46, -23)) ∧
    ((led.station 4).desc = .indirect ⟨3, 15, 2000, 300, 1000⟩ ∧ (led.station 4).engaged = true ∧
      (cauFinish (-23) (led.station 4).trim 15 2000 300).train = some (18, -15)) ∧
    ((led.station 5).desc = .indirect ⟨3, 15, 2000, 300, 1000⟩ ∧ (led.station 5).engaged = true ∧
      (cauFinish (-23) (led.station 5).trim 15 2000 300).train = none ∧
      (cauFinish (-23) (led.station 5).trim 15 2000 300).flags.atLimit = true) ∧
    ((led.station 6).engaged = false ∧ (led.station 7).isIndirect = false) ∧
    (cauFull [1, 1, 1, 1] 0 exTuning).train = none := by decide +kernel

theorem witness_CorrectionArithmeticHasItsBounds :
    ([37, 41, 35, 40] : List Int) ≠ [] ∧ ((-480 : Int).natAbs ≤ 500 ∧ (500 : Int).natAbs ≤ 500) ∧ (27 ≤ 40 ∧ 0 < 40) := by
  decide

/-! ### Events and records -/

/-- A running line with a number of events, and the defect line at a level. -/
def eventful (n : Nat) (level : Bool) : State :=
  { webAt (line .run) 1000 with trk := { Trk.reset with events := List.replicate n (exEvent .operator 5) }
                                pins := { State.reset.pins with defectLine := level } }

theorem witness_EventsArrive :
    (eventful 15 false).lsc.job = some exJob ∧ (eventful 15 false).running = true ∧ (eventful 15 false).reverse = false ∧
      (eventful 15 false).trk.events.length < 16 ∧ 16 ≤ (eventful 16 false).trk.events.length ∧
      ((line .ready).running = false ∧ State.reset.running = false ∧ State.reset.mayTake .line = true ∧
        State.reset.permits .line .operate false = true) ∧
      (let s := eventful 15 false
       ({ s with wpu := { s.wpu with w := 999 } } : State).reverse = true) ∧
      (eventful 15 false).mayTake .line = true ∧ (eventful 15 false).permits .line .operate false = true := by decide +kernel

/-- A splice whose zone reaches to the nip at its arrival, and no further; one at the nip itself; an operator's event. -/
theorem witness_EventsArriveAtTheNip :
    let at' := fun (lead : Nat) => coverBegins (eventful 15 false) { exJob with lead := lead }
      (WebEvent.fresh .splice (fwd (1000 : Count) exJob.uSpl) false)
    at' 1550000 = true ∧ at' 1549999 = false ∧
      (lifts exJob .splice && reached (1000 : Count) (fwd (fwd 1000 0) 0)) = true ∧ lifts exJob .operator = false := by
  decide +kernel

/-- The list with an open defect whose reported length is at its limit, after a number of other events. -/
def opened (n : Nat) (h : Count) : State :=
  { webAt (eventful n true) h with trk := { Trk.reset with
      events := List.replicate n (exEvent .operator 5) ++ [{ exEvent .defect 2380000 with isOpen := true }] } }

theorem witness_DefectLineOpensAndClosesEvents :
    (let s := eventful 15 false
     s.pins.defectLine = false ∧ (s.running && !s.reverse && !(s.trk.events.any WebEvent.isOpen)) = true ∧
       s.trk.events.length < 16 ∧ 16 ≤ (eventful 16 false).trk.events.length) ∧
    ((opened 2 2400000).trk.events = List.replicate 2 (exEvent .operator 5) ++ { exEvent .defect 2380000 with isOpen := true } :: [] ∧
      (∀ x ∈ List.replicate 2 (exEvent .operator 5) ++ [], x.isOpen = false) ∧
      200000 ≤ (ahead (fwd (opened 2 2400000).wpu.h 180000) 2380000).toNat ∧
      (ahead (fwd (opened 2 2399999).wpu.h 180000) 2380000).toNat < 200000 ∧
      ((opened 2 2400000).pins.defectLine && (opened 2 2400000).running && !(opened 2 2400000).reverse) = true ∧
      16 ≤ (opened 15 2400000).trk.events.length) ∧
    (let joined := { exEvent .defect 2380000 with isOpen := true, joined := true }
     let s : State := { opened 0 2400000 with
       pins := (eventful 0 false).pins, trk := { Trk.reset with events := [joined] }
       emb := { (nipIs .lifted).emb with zoneActive := true, heldOpen := true, release := some 5 } }
     let t := after .defectLengthLimit s
     (joined.joined && s.emb.zoneActive) = true ∧ (s.pins.defectLine && s.running && !s.reverse) = false ∧
       (t.emb.release, t.emb.heldOpen) = (some (2380000 + 200000 + 100000 + 1300000 + 1), false)) := by decide +kernel

theorem witness_EventsAreAttributedAndRemoved :
    (let s := webAt sensed 3900000
     s.lsc.job = some exJob ∧ (∃ e after, s.trk.events = [] ++ e :: after ∧ s.attributionDue exJob e = true ∧
       s.removalDue exJob e = true ∧ e.datum = 2300000) ∧ (∀ x ∈ ([] : List WebEvent), s.attributionDue exJob x = false)) ∧
    (∀ e ∈ (webAt sensed 3899999).trk.events, (webAt sensed 3899999).attributionDue exJob e = false) := by
  refine ⟨⟨rfl, ⟨_, _, rfl, by decide +kernel, by decide +kernel, by decide +kernel⟩, by decide +kernel⟩, by decide +kernel⟩

/-- The state of the fold example. -/
def folding (h : Count) : State :=
  webAt { line .run with
    trk := { Trk.reset with records := [exRecord 120 6360000, exRecord 121 6413000] }
    rlg := { Rlg.reset with log := [exEntry 5 .roll 6360000] } } h

/-- The same with entry 4 CUT at a datum before it. -/
def foldingCut (stop : Count) : State :=
  let s := folding 8013000
  { s with rlg := { s.rlg with log := (exEntry 4 .roll 5000000).endAt stop false :: s.rlg.log } }

theorem witness_HeadRecordFoldsIntoItsEntry :
    (folding 8013000).lsc.job = some exJob ∧
      (folding 8013000).trk.records = exRecord 120 6360000 :: exRecord 121 6413000 :: [] ∧
      reached (folding 8013000).wpu.h (fwd 6413000 1600000) = true ∧
      reached (folding 8012999).wpu.h (fwd 6413000 1600000) = false ∧
      (∀ e ∈ (folding 8013000).rlg.log, e.state ≠ .cut) ∧
      ([6360001, 6413000].all fun stop => (foldingCut stop).rlg.log.any fun e =>
        e.state == .cut && e.stop.any fun x => reached 6413000 x) = true ∧
      ((foldingCut 6413001).rlg.log.all fun e => !(e.state == .cut && e.stop.any fun x => reached 6413000 x)) = true := by
  decide +kernel

/-- A table without a FREE entry, all CLOSED. -/
def fullTable : State :=
  { batched with bat := { Bat.reset with
      entries := Vector.ofFn fun i : Fin 32 => ⟨some ⟨false, i.val + 1, ⟨5210, 312, -1045⟩, 1, false⟩, false, false⟩ } }

theorem witness_ARollIsGivenABatch :
    let d2 := fun (x y : Shade) => (x.l - y.l) ^ 2 + (x.a - y.a) ^ 2 + (x.b - y.b) ^ 2
    let open17 : Batch := ⟨true, 17, ⟨5210, 312, -1045⟩, 1, false⟩
    let open18 : Batch := ⟨true, 18, ⟨5260, 300, -1010⟩, 2, false⟩
    (batched.bat.entries[0].batch = some open17 ∧ d2 ⟨5260, 312, -1045⟩ open17.ref = gradeJob.tolB ^ 2 ∧
      ¬gradeJob.rollsPerBatch ≤ open17.count + 1) ∧
    (batched.bat.entries[1].batch = some open18 ∧ d2 ⟨5310, 300, -1010⟩ open18.ref ≤ gradeJob.tolB ^ 2 ∧
      ¬d2 ⟨5310, 300, -1010⟩ open17.ref ≤ gradeJob.tolB ^ 2 ∧ gradeJob.rollsPerBatch ≤ open18.count + 1) ∧
    (¬d2 ⟨5311, 300, -1010⟩ open17.ref ≤ gradeJob.tolB ^ 2 ∧ ¬d2 ⟨5311, 300, -1010⟩ open18.ref ≤ gradeJob.tolB ^ 2 ∧
      batched.bat.entries[2].batch = none) ∧
    (∀ k : Fin 32, fullTable.bat.entries[k].batch ≠ none ∧
      (fullTable.bat.entries[k].batch.all fun x => !x.isOpen) = true) := by decide +kernel

theorem witness_ClosingGradesAnEntry :
    (let s : State := { lineWith gradeJob .run with rlg := { Rlg.reset with log := [entry212] } }
     s.lsc.job = some gradeJob ∧ entry212 ∈ s.rlg.log ∧ entry212.role = .roll ∧ ¬entry212.length.getD 0 < gradeJob.minRoll ∧
       0 < entry212.readings ∧ entry212.low = some ⟨5236, 298, -1032⟩ ∧ entry212.high = some ⟨5250, 306, -1020⟩) ∧
    ((exEntry 1 .roll 0).readings = 0 ∧ (exEntry 1 .leadIn 0).role ≠ .roll ∧
      ({ entry212 with length := some 499999 }.length.getD 0 < gradeJob.minRoll) ∧
      ¬({ entry212 with length := some 500000 }.length.getD 0 < gradeJob.minRoll)) := by decide +kernel

/-! ### Emboss -/

theorem witness_NipMovesByTimersAndHold :
    (nipIs .engaging).lsc.job = some exJob ∧ (nipIs .engaging).mayTake .line = true ∧
      (nipIs .engaging).permits .line .operate false = true ∧ (nipIs .engaging).running = true ∧
      ((nipIs .lifting).emb.nip = .lifting ∧ (nipIs .lifting).lsc.job = some exJob ∧
        ClosePermitted (nipIs .lifting) exJob (nipIs .lifting).emb = true ∧
        (let s := nipIs .lifting; ({ s with lsc := Lsc.reset } : State).lsc.job = none)) ∧
      ((line .ready).running = false ∧ State.reset.running = false ∧ State.reset.mayTake .line = true) := by decide +kernel

theorem witness_LiftZonesCoverTheNip :
    (let s := spliceAt 2550000
     s.lsc.job = some exJob ∧ s.trk.events = [] ++ exEvent .splice 1400000 :: [] ∧
       s.coverBeginDue exJob (exEvent .splice 1400000) = true ∧
       (spliceAt 2549999).coverBeginDue exJob (exEvent .splice 1400000) = false) ∧
    (let t := webAt (after .liftCoverageBegin (spliceAt 2550000)) 2800001
     t.emb.zoneActive = true ∧ t.emb.heldOpen = false ∧ t.emb.release = some 2800001 ∧ reached t.wpu.h 2800001 = true ∧
       ∀ e ∈ t.trk.events, t.coverBeginDue exJob e = false) ∧
    (let t := webAt (after .liftCoverageBegin (spliceAt 2550000)) 2700000
     (∀ e ∈ t.trk.events, e.kind = .splice ∧ e.checked = false ∧ reached t.wpu.h (fwd e.datum 1300000) = true ∧
       t.coverBeginDue exJob e = false) ∧ t.emb.nip = .lifting) := by decide +kernel

theorem witness_IndexEdgesWindowsAndStatus :
    ([1000, 9000].all fun h =>
      let s := webAt phasing h
      s.running = true ∧ s.reverse = false ∧ s.emb.windows = [] ++ ⟨7, .marked, 5000, none⟩ :: [] ∧
        (ahead s.wpu.h 5000).natAbs ≤ 4000 ∧ s.emb.phase = .idle ∧ s.emb.reg = .inRegister ∧
        4 ≤ s.emb.acc.length + 1) = true ∧
    ([999, 9001].all fun h => decide (4000 < (ahead (webAt phasing h).wpu.h 5000).natAbs)) = true ∧
    (reached (webAt phasing 9001).wpu.h (fwd 5000 4001) = true ∧ reached (webAt phasing 9000).wpu.h (fwd 5000 4001) = false ∧
      exJob.embossMissLimit ≤ 2 + 1 ∧ 1 + 1 < exJob.embossMissLimit) ∧
    (let s : State := webAt { nipIs .closed with trk := { Trk.reset with records := [exRecord 1 10000, exRecord 2 63000] } } 1363000
     s.trk.records = [] ++ exRecord 1 10000 :: exRecord 2 63000 :: [] ∧ (exRecord 1 10000).emboss = .notReached ∧
       reached s.wpu.h (fwd 63000 exJob.dEm) = true ∧ s.emb.nip = .closed ∧ s.emb.closedSince = some 900 ∧
       0 < ahead (1310001 : Count) (fwd 10000 exJob.dEm) ∧ ahead (1310000 : Count) (fwd 10000 exJob.dEm) ≤ 0) := by
  decide +kernel

theorem witness_PulsesPeriodsAndTapers :
    (let s := webAt (after (.stepPulse 3) correcting) 454000
     (s.station 3).st = .settling ∧ (s.station 3).settleEnd = some 454000 ∧ reached s.wpu.h 454000 = true ∧
       reached (453999 : Count) 454000 = false) ∧
    (let s : State := { webAt (line .run) 21601000 with wnd := { Wnd.reset with active := some ⟨5, 20000000, .roll, none⟩ } }
     s.lsc.job = some exJob ∧ s.wnd.active = some ⟨5, 20000000, .roll, none⟩ ∧
       s.wnd.torqueMark < (ahead (back s.wpu.h 1600000) 20000000).toNat / 1000 ∧
       (ahead (back (21600999 : Count) 1600000) 20000000).toNat / 1000 ≤ s.wnd.torqueMark) := by decide +kernel

/-! ### Shade -/

theorem witness_HeadStartsAnswersAndTimesOut :
    measuring.lsc.job = some exJob ∧ measuring.shu.starts = (500, 4000000) :: [(501, 4006000)] ∧
      reached measuring.wpu.h 4000000 = true ∧ reached (webAt measuring 3999999).wpu.h 4000000 = false ∧
      measuring.shu.head = .idle ∧ acquiring.shu.head = .acquiring ∧ acquiring.shu.meas.isSome = true ∧
      (after .dataReady acquiring).shu.head = .reading ∧
      (let s := { acquiring with shu := { acquiring.shu with faultCount := 2 } }
       3 ≤ s.shu.faultCount + 1 ∧ acquiring.shu.faultCount + 1 < 3 ∧ (after .headTimeout s).shu.head = .offline ∧
         s.mayTake .line = true ∧ s.permits .line .operate false = true) := by decide +kernel

/-- A read within the span, with a drift window of seven and a line batch. -/
def reading (smeared : Bool) : State :=
  let s := after .dataReady acquiring
  { s with shu := { s.shu with
      meas := s.shu.meas.map fun m => { m with smeared := smeared }, drift := List.replicate 7 ⟨5210, 312, -1045⟩
      lineBatch := some ⟨17, ⟨5210, 312, -1045⟩⟩ } }

theorem witness_ReadCompleteWritesTheReading :
    (reading false).lsc.job = some exJob ∧ (reading false).shu.select = true ∧ (reading false).shu.head = .reading ∧
      ((reading false).shu.meas.map Measurement.smeared, (reading true).shu.meas.map Measurement.smeared) =
        (some false, some true) ∧
      (∃ r ∈ (reading false).trk.records, r.index = 500 ∧ r.shadeState = .pending) ∧ measuring.shu.select = false ∧
      ((reading false).shu.drift ++ [(⟨5236, 300, -1032⟩ : Shade)]).length = 8 ∧ (reading false).shu.lineBatch.isSome = true := by
  decide +kernel

/-! ### The winder -/

/-- The REMOVE job, and that job in MATCH mode. -/
def removeJob : Job := { exJob with splicePolicy := .remove }

/-- That job in MATCH mode. -/
def matchJob : Job := { removeJob with cutMode := .matched }

/-- A running line under a job, with an active segment of a role from 20,000,000, a cut planned at a target, a splice plan and
events. -/
def planning (j : Job) (role : Role) (target : CutTarget) (plan : Option SplicePlan) (events : List WebEvent) : State :=
  let s := webAt (lineWith j .run) 20100000
  { s with
    wnd := { s.wnd with
      active := some ⟨5, 20000000, role, none⟩, planned := some ⟨target, .roll, false⟩, eMin := some 20450000, plan := plan }
    trk := { s.trk with events := events } }

/-- A REMOVE plan of a splice at 20,700,000. -/
def spliced (cut1 : Cut1) (cut2 : CutTarget) : Option SplicePlan := some ⟨20640000, 20700000, cut1, cut2⟩

theorem witness_SplicesAreJudgedUnderRemove :
    (let at' := fun (d : Count) => planning removeJob .roll (.known 20980000 none) none
       [{ exEvent .splice 20200000 with judged := true }, exEvent .splice d]
     ([20000000, 20979999].all fun d => (at' d).judgeable removeJob (exEvent .splice d)) = true ∧
       ([19999999, 20980000].all fun d => !(at' d).judgeable removeJob (exEvent .splice d)) = true ∧
       (∀ e ∈ (at' 20980000).trk.events, (at' 20980000).judgeable removeJob e = false) ∧
       (at' 20979999).trk.events = [{ exEvent .splice 20200000 with judged := true }] ++ exEvent .splice 20979999 :: []) ∧
    (([.roll, .leadIn, .remove, .tail] : List Role).all fun role =>
      let s := planning matchJob role (.known 20980000 none) none []
      s.wnd.plan == none && (s.wnd.active.map Segment.role) == some role && s.wnd.eMin == some 20450000) = true ∧
    ((planning matchJob .roll .waiting (spliced .seeking (.fromFloor 5)) []).wnd.plan = spliced .seeking (.fromFloor 5) ∧
      (planning removeJob .roll .waiting (spliced .none (.known 5 none)) []).wnd.plan = spliced .none (.known 5 none)) ∧
    (let s := planning removeJob .roll (.known 20980000 none) none []
     s.lsc.job = some removeJob ∧ s.running = true ∧ s.reverse = false ∧
       s.judgeable removeJob (WebEvent.fresh .splice (fwd s.wpu.h removeJob.uSpl) false) = true ∧
       s.judgeable exJob (WebEvent.fresh .splice (fwd s.wpu.h exJob.uSpl) false) = false) := by decide +kernel

theorem witness_AppendedRecordsSettleThePlans :
    (let s := planning matchJob .roll (.named ⟨9, 0⟩) none []
     s.wnd.eMin = some 20450000 ∧ s.wnd.plan = none ∧ s.wnd.search = none ∧
       s.wnd.planned = some ⟨.named ⟨9, 0⟩, .roll, false⟩ ∧ (line .run).wnd.planned = none) ∧
    (∀ cut1 ∈ ([.candidate 5 none, .seeking, .fixed 5 none, .none] : List Cut1),
      ∀ cut2 ∈ ([.named ⟨9, 0⟩, .fromFloor 5, .known 5 none] : List CutTarget),
        (planning matchJob .roll .waiting (spliced cut1 cut2) []).wnd.plan = spliced cut1 cut2) ∧
    (let s := after (.endJob .line 1) (planning matchJob .roll .seekingCut1 (spliced .seeking (.fromFloor 5)) [])
     s.wnd.plan = none ∧ s.wnd.search = some 20640000 ∧ s.wnd.eMin = some 20450000 ∧ s.lsc.lineState = .ending) := by
  decide +kernel

/-- The roll's cut at the knife with spindle A free. -/
def cutting : State := { outgrown 22580000 with wnd := { (outgrown 22580000).wnd with spindleA := .empty } }

/-- A cut of a ROLL that opens a segment of a role. -/
def cuttingTo (j : Job) (role : Role) : State :=
  { cutting with
    lsc := { cutting.lsc with job := some j }
    wnd := { cutting.wnd with planned := some ⟨.known 20980000 (some ⟨300, 0⟩), role, false⟩ } }

theorem witness_CutFiresAndOpensASegment :
    ((cutting.lsc.job = some exJob ∧ cutting.wnd.planned = some ⟨.known 20980000 none, .roll, false⟩ ∧
      cutting.wnd.active = some ⟨5, 20000000, .roll, none⟩ ∧ reached cutting.wpu.h (fwd 20980000 1600000) = true ∧
      cutting.rlg.log.length < 32 ∧ (List.replicate 31 (exEntry 1 .roll 0)).length < 32 ∧ exJob.splicePolicy = .mark ∧
      exJob.cutMode = .length ∧ cutting.lsc.lineState ≠ .ending) ∧ ∃ k, Chosen cutting k) ∧
    (∀ role ∈ ([.remove, .tail] : List Role), (cuttingTo matchJob role).lsc.job = some matchJob ∧
      (cuttingTo matchJob role).wnd.planned = some ⟨.known 20980000 (some ⟨300, 0⟩), role, false⟩ ∧ role ≠ .roll) ∧
    ((∀ e ∈ cutting.rlg.log.filter (fun e => e.seq == 5), e.state ≠ .cut) ∧
      ∃ r ∈ cutting.trk.records, reached r.origin 20980000 = false) ∧
    (∀ x ∈ cutting.trk.events, x.kind ≠ .splice) := by
  refine ⟨⟨by decide +kernel, .a, by decide +kernel, fun last h => ?_, fun h _ => by cases h⟩, by decide +kernel,
    by decide +kernel, by decide +kernel⟩
  cases h
  decide

theorem witness_CutIsRefusedAndOverlengthRaised :
    (let s := outgrown 22580000
     s.lsc.job = some exJob ∧ s.wnd.planned = some ⟨.known 20980000 none, .roll, false⟩ ∧
       s.wnd.active = some ⟨5, 20000000, .roll, none⟩ ∧ s.lsc.lineState ≠ .ending ∧
       reached s.wpu.h (fwd 20980000 1600000) = true ∧ s.wnd.plan = none ∧ (∃ e ∈ s.rlg.log, e.seq = 5)) ∧
    (∀ k, ¬Chosen (outgrown 22580000) k) ∧ reached (outgrown 22579999).wpu.h (fwd 20980000 1600000) = false ∧
    (let s := webAt (after .cutDue (outgrown 22580000)) 22980001
     (980000 + 400000 : Int) < ahead (back s.wpu.h 1600000) 20000000 ∧ s.wnd.overlength = false ∧
       (s.rlg.log.any fun e => e.seq == 5 && e.flags.overlength) = true ∧
       ¬(980000 + 400000 : Int) < ahead (back (22980000 : Count) 1600000) 20000000) ∧
    32 ≤ (List.replicate 32 (exEntry 1 .roll 0)).length ∧
    (let full := List.replicate 32 (exEntry 1 .roll 0)
     let s : State := { cuttingTo removeJob .remove with
       rlg := { cutting.rlg with log := full }
       wnd := { (cuttingTo removeJob .remove).wnd with plan := spliced (.fixed 20980000 none) (.known 21430000 none) } }
     32 ≤ s.rlg.log.length ∧ s.wnd.plan = spliced (.fixed 20980000 none) (.known 21430000 none) ∧
       (s.wnd.planned.map CutPlan.opens) = some .remove) := by
  refine ⟨by decide +kernel, fun k h => ?_, by decide +kernel, by decide +kernel, by decide +kernel, by decide +kernel⟩
  cases k
  · exact absurd h.1 (by decide +kernel)
  · exact absurd h.1 (by decide +kernel)

/-- A tail's cut refused by a full log while the search for cut1 goes on (R125, R130). -/
theorem witness_CutIsRefusedEndsTheSearch :
    let s : State := { cuttingTo matchJob .tail with rlg := { cutting.rlg with log := List.replicate 32 (exEntry 1 .roll 0) } }
    let s := { s with wnd := { s.wnd with search := some 20640000 } }
    32 ≤ s.rlg.log.length ∧ s.wnd.plan = none ∧ (s.wnd.planned.map CutPlan.opens) = some .tail ∧
      (after .cutDue s).wnd.search = none := by decide +kernel

/-- A lead-in cut while the track is empty closes at the cut; with a record before the cut it stays CUT (R136, R140). -/
theorem witness_CutFiredClosesAtTheCut :
    let cut := fun (records : List RepeatRecord) =>
      let s := { cutting with
        trk := { cutting.trk with records := records }
        wnd := { cutting.wnd with active := some ⟨5, 20000000, .leadIn, none⟩ }
        rlg := { cutting.rlg with log := [exEntry 5 .leadIn 20000000] } }
      let t := after .cutDue s
      (t.rlg.log.map fun e => (e.seq, e.state), t.lnk.line.tx.isSome)
    cut [] = ([(5, .closed), (6, .opened)], true) ∧
      cut [exRecord 9 20979999] = ([(5, .cut), (6, .opened)], false) ∧
      cut [exRecord 9 20980000] = ([(5, .closed), (6, .opened)], true) := by decide +kernel

/-! ### Labels -/

theorem witness_LabelsMoveThroughTheChannel :
    (line .run).lbc.channel = none ∧ ((sending 2).lbc.channel.map Transfer.withdrawn) = some false ∧
      ((sending 2).printer .a).sent.length < 32 ∧ ((sending 1).printer .a).rejects + 1 < 3 ∧
      3 ≤ ((sending 2).printer .a).rejects + 1 ∧ ((line .run).printer .a).timer = none ∧
      ((after (.labelTransferEnd 0x15) (after (.printerReadyChange .a false) (sending 0))).printer .a).timer = some 0 ∧
      ((after (.labelTransferEnd 0x06) (sending 0)).printer .a).sent = some 212 :: [] ∧ ((line .run).printer .b).sent = [] := by
  decide +kernel

/-- Sent lists at the capacity: with an unattached place behind an attached one, and without one. -/
theorem witness_LabelsJoinSentLists :
    let sent : List (Option (BitVec 32)) := some 1 :: none :: List.replicate 30 (some 2)
    sent.length = 32 ∧ PlaceJoins sent (some 9) (some 1 :: List.replicate 30 (some 2) ++ [some 9]) ∧
      PlaceJoins (List.replicate 32 (some 1)) none (List.replicate 31 (some 1) ++ [none]) := by
  refine ⟨rfl, ⟨fun h => absurd h (by decide), fun _ => ⟨fun before rest h free => ?_, fun h => absurd rfl (h none (by decide))⟩⟩,
    fun h => absurd h (by decide), fun _ => ⟨fun before rest h _ => ?_, fun _ oldest rest h => ?_⟩⟩
  · match before, h, free with
    | [x], h, _ => cases h; rfl
    | x :: none :: _, _, free => exact absurd rfl (free none (by simp))
  · exact absurd (h ▸ List.mem_append_right before (List.mem_cons_self)) (by decide)
  · cases h
    rfl

/-- Entry 212, labelled as given, wound on spindle B, which is FULL with it. -/
def fullB (x : LabelState) : State :=
  let s := sending 0
  { s with
    wnd := { s.wnd with spindleB := .full 212 }
    rlg := { s.rlg with log := [{ entry212 with label := x, state := .closed }] } }

/-- The end of a job with the web stopped: the ROLL segment of entry 5, on spindle B, is active. -/
theorem witness_ReturnedToReady :
    let s := outgrown 22000000
    let e := { s with lsc := { s.lsc with lineState := .ending } }
    (s.wpu.stopped = false ∧ e.lsc.lineState = .ending ∧ e.lsc.job = some exJob ∧ s.running = true) ∧
      e.wnd.active = some ⟨5, 20000000, .roll, none⟩ ∧ e.spindle .b = .winding 5 ∧
      (e.rlg.log.map fun x => (x.seq, x.state)).getLast? = some (5, .opened) ∧
      (e.rlg.log.all fun x => x.seq != 5 || x.state == .opened) = true ∧
      (let t := after .stoppedFlagSet e
       t.spindle .b = .full 5 ∧ (t.rlg.log.getLast?.any fun x =>
         x.state == .closed && x.stop == some (20400000 : Count) && x.length == some 400000) = true) := by decide +kernel

/-- The record of the entry before, not yet past the nip, is folded into it LIFTED; one at the knife into none. -/
theorem witness_ReturnedToReadyFolds :
    let s := outgrown 22000000
    let records := [exRecord 9 19990000, exRecord 10 20400000]
    let e : State := { s with trk := { s.trk with records := records }, lsc := { s.lsc with lineState := .ending } }
    let ended := e.rlg.log.map fun x => if x.seq = 5 then endedAt 20400000 false x else x
    ((e.rlg.log.map Entry.seq).Nodup ∧
      (foldedAtEnd records ended 20400000 4).map RepeatRecord.index = [9] ∧ foldedAtEnd records ended 20400000 5 = []) ∧
      (after .stoppedFlagSet e).rlg.log.map (fun x => (x.seq, x.repeats, x.embLifted)) = [(4, 1, 1), (5, 0, 0)] := by
  decide +kernel

theorem witness_DoffEmptiesASpindle :
    (∀ x : LabelState, (fullB x).spindle .b = .full 212 ∧ NothingWaits (fullB x) ∧
      (fullB x).rlg.log = [] ++ { entry212 with label := x, state := .closed } :: []) ∧
    (∀ seq, (fullB .due).spindle .a ≠ .full seq) ∧
    (let s := after .cutDue (webAt (after .cutDue (outgrown 22580000)) 23030000)
     s.spindle .a = .full 4 ∧ s.lsc.job = some exJob ∧ s.wnd.planned = some ⟨.waiting, .roll, true⟩ ∧ s.rlg.log.length < 32 ∧
       (unwound s .a).spindle .a = .empty ∧ s.wnd.lastWinding = some .b ∧
       let e := { s with lsc := { s.lsc with lineState := .ending }, wpu := { s.wpu with stopped := true } }
       e.spindle .a = .full 4 ∧ e.lsc.job = some exJob ∧ e.wnd.planned = some ⟨.waiting, .roll, true⟩ ∧
         e.rlg.log.length < 32 ∧ (unwound e .a).spindle .a = .empty ∧ e.wnd.lastWinding = some .b) := by
  refine ⟨fun x => ⟨rfl, .inr ⟨fun c h => ?_, fun h => ?_⟩, rfl⟩, fun seq h => ?_, by decide +kernel⟩
  · have : (fullB x).wnd.planned = none := rfl
    rw [this] at h
    cases h
  · exact absurd h (by cases x <;> decide +kernel)
  · have : (fullB .due).spindle .a = .empty := rfl
    rw [this] at h
    cases h

theorem witness_EntriesAreReleasedAndReprinted :
    (fullB .missing).mayTake .line = true ∧ (fullB .missing).permits .line .operate false = true ∧
      (let e := { entry212 with label := LabelState.missing, state := .closed }
       (fullB .missing).rlg.log = [e] ++ [] ∧ reached 212 e.seq = true ∧ reached 211 e.seq = false) ∧
      1 < (2 : Byte).toNat ∧ ¬1 < (1 : Byte).toNat ∧ (fullB .missing).lbc.queue.length < 8 ∧
      8 ≤ (List.replicate 8 (⟨1, .a, 1, [], 0⟩ : Label)).length := by decide +kernel

/-- A waiting cut, its entry 4 CLOSED and MISSING, with n entries after it. -/
def waitingLog (a : SpindleState) (n : Nat) : State :=
  let s := waitingCut a
  let gone := { exEntry 4 .roll 19000000 with label := LabelState.missing, state := .closed }
  { s with rlg := { s.rlg with log := gone :: List.replicate n (exEntry 6 .roll 20980000) } }

/-- A release that makes room in a full log lets the waiting cut fire; one that does not free a spindle leaves it waiting. -/
theorem witness_EntriesReleasedFireAWaitingCut :
    (∀ a ∈ ([.full 4, .empty] : List SpindleState),
      (waitingLog a 31).mayTake .line = true ∧ (waitingLog a 31).permits .line .operate false = true ∧
      (waitingLog a 31).rlg.log.length = 32 ∧ (List.replicate 31 (exEntry 6 .roll 20980000)).length < 32 ∧
      reached 4 (exEntry 4 .roll 19000000).seq = true ∧ (exEntry 6 .roll 20980000).state ≠ .closed ∧
      (waitingLog a 31).wnd.planned = some ⟨.waiting, .roll, true⟩ ∧ (waitingLog a 31).lsc.lineState = .hold) ∧
    (∀ k, ¬Chosen (waitingLog (.full 4) 31) k) ∧
    (after (.releaseEntries .line 1 4) (waitingLog (.full 4) 31)).wnd = (waitingLog (.full 4) 31).wnd ∧
    (after (.releaseEntries .line 1 4) (waitingLog .empty 31)).wnd.lastCut = some 21430000 := by
  refine ⟨by decide +kernel, fun k h => ?_, by decide +kernel, by decide +kernel⟩
  cases k
  · exact absurd h.1 (by decide +kernel)
  · exact absurd h.1 (by decide +kernel)

/-- LOG_SPACE is raised by the allocation that leaves 28 entries in the log, and not by the one that leaves 27 (R147). -/
theorem witness_CutFiredTellsLogSpace :
    let told := fun (n : Nat) => (after (.encoderTransition .a) (waitingLog .empty n)).lnk.line.slots.contains .logSpace
    (waitingLog .empty 26).rlg.log.length + 1 = 28 ∧ told 26 = true ∧ told 25 = false := by
  decide +kernel

/-! ### Stations and jobs -/

/-- A SET_STATION payload: station, kind, target, then fields 4 to 14. -/
def stationPayload (station kind target : Byte) : List Byte :=
  [station, kind, target, 0x23, 0x28, 0, 6, 0x1A, 0x80, 0x09, 0x9A, 0, 5, 4, 0, 30, 1, 0xF4, 2, 0, 7, 0xD0, 3, 0, 50]

theorem witness_SetStationWritesADescriptor :
    (line .ready).mayTake .line = true ∧ (line .ready).permits .line .configure false = true ∧
      (stationPayload 1 1 0).length = 25 ∧ (line .ready).lsc.job = some exJob ∧
      firstFailing (stationChecks (stationPayload 7 1 0) 53000) = none ∧
      firstFailing (stationChecks (stationPayload 8 1 0) 53000) = some 1 ∧
      firstFailing (stationChecks (stationPayload 1 4 0) 53000) = some 2 ∧
      firstFailing (stationChecks (stationPayload 1 2 1) 53000) = some 3 ∧
      firstFailing (stationChecks (stationPayload 1 1 0) 9000) = some 4 := by decide +kernel

theorem witness_StationsAreTunedAndEngaged :
    (let s := following 2 true
     s.mayTake .line = true ∧ s.permits .line .operate false = true ∧ s.lsc.lineState ≠ .unconfigured ∧
       (3 : Byte).toNat = (3 : StationId).val ∧ (s.station 3).isResident = true ∧ (s.station 4).isIndirect = true ∧
       (s.station 0).desc = .invalid ∧ (s.station 3).engaged = true ∧ s.running = true ∧ 7 < (8 : Byte).toNat) ∧
    (8191 : BitVec 16).toNat = 8191 ∧ State.reset.lsc.lineState = .unconfigured := by decide +kernel

/-- The follower's disengagement with its train the last one, its leader below and at the missing limit. -/
theorem witness_StationsAreDisengagedUnderALeader :
    ([2, 3].all fun bad =>
      let s := (following bad true).putChan 3 { (following bad true).chan 3 with inFlight := false }
      (s.chan (channelOf 4)).inFlight && ((List.finRange 8).all fun k => k == 4 || !(s.chan (channelOf k)).inFlight) &&
        ((after (.stationDisengage .line 1 4) s).station 3).st == (if bad < 3 then .settling else .lost)) = true ∧
    ((following 2 true).chan (channelOf 3)).inFlight = true := by decide +kernel

/-- The OPEN batches of the table hold 498 + i rolls, against a limit of 500 in the job loaded. -/
theorem witness_LoadJobClosesTheLineBatch :
    let s := { line .ready with bat := { Bat.reset with
      entries := Vector.ofFn fun i : Fin 32 => ⟨some ⟨true, i.val + 1, ⟨5210, 312, -1045⟩, 498 + i.val, false⟩, false, false⟩
      lineBatch := some 2 } }
    (s.mayTake .line = true ∧ s.permits .line .configure false = true ∧ s.lsc.lineState = .ready ∧ s.shu.lineBatch = none) ∧
      (∃ x, s.bat.entries[2].batch = some x ∧ x.isOpen = true ∧ (jobSpelled exPayload).rollsPerBatch ≤ x.count) ∧
      (∃ x, s.bat.entries[1].batch = some x ∧ x.isOpen = true ∧ ¬(jobSpelled exPayload).rollsPerBatch ≤ x.count) ∧
      (after (.loadJob .line 1 exPayload) s).bat.lineBatch = none := by
  refine ⟨by decide +kernel, ⟨_, rfl, by decide +kernel⟩, ⟨_, rfl, by decide +kernel⟩, by decide +kernel⟩

/-- The example job with one field out of its range: a first character 0x1F, a last byte 2. -/
theorem witness_LoadJobPutsAJobInForce :
    (State.reset.mayTake .line = true ∧ State.reset.permits .line .configure false = true ∧ exPayload.length = 173 ∧
      State.reset.lsc.lineState = .unconfigured ∧ (line .ready).lsc.lineState = .ready ∧ (line .run).lsc.lineState = .run) ∧
      jobSpelled exPayload = exJob ∧ (∀ n, ¬JobFieldFails exPayload n) ∧
      JobFieldFails (exPayload.set 0 0x1F) 1 ∧ (¬JobFieldFails (exPayload.set 0 0x1F) 0) ∧
      JobFieldFails (exPayload.set 172 2) 80 := by
  have ranges : ∀ n, ¬JobFieldFails exPayload n := by
    intro n h
    unfold JobFieldFails outOf at h
    dsimp only at h
    split at h <;> first | exact h | exact absurd h (by decide +kernel)
  refine ⟨by decide +kernel, by decide +kernel, ranges, ⟨0x1F, by decide +kernel, .inl (by decide)⟩, fun h => h, ?_⟩
  show 1 < jobValue (exPayload.set 172 2) 80
  decide +kernel

/-- The tabled line with the defect line active. -/
def defective : State := { tabled with pins := { tabled.pins with defectLine := true } }

theorem witness_StartChecksAndStartsARun :
    tabled.mayTake .line = true ∧ tabled.permits .line .operate false = true ∧ tabled.lsc.lineState = .ready ∧
      tabled.lsc.job = some exJob ∧ tabled.rlg.log.length < 32 ∧ tabled.pins.defectLine = false ∧
      (defective.pins.defectLine = true ∧ defective.trk.events = [] ∧ defective.reverse = false ∧
        ({ defective with wpu := { defective.wpu with w := 4999999 } } : State).reverse = true) ∧
      tabled.stationChecks exJob = none ∧ (line .ready).stationChecks exJob = some (1, 255) ∧
      32 ≤ (List.replicate 32 (exEntry 1 .roll 0)).length := by decide +kernel

/-- At START a LIFTED nip engages from the minimum emboss speed on (R77, R96), as at the RESUME of a held line. -/
theorem witness_StartEvaluatesTheNip :
    let atSpeed := fun (s : State) (v : Nat) => ({ s with wpu := { s.wpu with v := v } } : State)
    ([50000, 49999].map fun v => (after (.start .line 1) (atSpeed tabled v)).emb.nip) = [.engaging, .lifted] ∧
      ([50000, 49999].map fun v => (after (.resume .line 1) (atSpeed (line .hold) v)).emb.nip) = [.engaging, .lifted] ∧
      (after (.endJob .line 1) { outgrown 22000000 with emb := (nipIs .closed).emb }).emb.nip = .lifting := by
  decide +kernel

theorem witness_NoStationCheckFails : ∀ n k, ¬StationCheckFails tabled exJob n k := by
  intro n k h
  have r0 : (tabled.station 0).desc = .reference := by decide +kernel
  have r1 : ∀ i : StationId, i ≠ 0 → (tabled.station i).desc ≠ .reference := by decide +kernel
  have r2 : ∀ i : StationId, (tabled.station i).isIndirect = false := by decide +kernel
  have r3 : ∀ i : StationId, ((tabled.station i).offset?.all fun o => o == 9000) = true := by decide +kernel
  have r4 : ∀ i k : StationId, i < k → ((tabled.station i).offset?.isSome && (tabled.station k).offset?.isSome) = false := by
    decide +kernel
  have orphan : ∀ i d, (tabled.station i).desc ≠ .indirect d := fun i d e => by
    have := r2 i
    rw [Station.isIndirect, e] at this
    cases this
  have offset : ∀ i d, (tabled.station i).desc = .resident d → d.offset = 9000 := fun i d e => by
    have := r3 i
    rw [Station.offset?, e] at this
    simpa using this
  rcases h with ⟨-, -, h⟩ | ⟨-, i, i', hi, -, h, h', -⟩ | ⟨-, i, -, ⟨d, h, -⟩, -⟩ | ⟨-, i, -, ⟨d, h, h'⟩, -⟩ |
    ⟨-, i, i', -, ⟨hi, d, d', h, h', -⟩, -⟩
  · exact h 0 r0
  · by_cases e : i' = 0
    · rw [e] at hi
      exact absurd hi (Fin.not_lt_zero _)
    · exact r1 i' e h'
  · exact orphan i d h
  · rw [offset i d h] at h'
    exact h' (by decide)
  · have := r4 i i' hi
    rw [Station.offset?, Station.offset?, h, h'] at this
    cases this

/-! ### The line and the batches -/

theorem witness_LineRequestsMoveTheLineState :
    (line .run).mayTake .line = true ∧ (line .run).permits .line .operate false = true ∧
      (∃ m, (line .run).lsc.holdMask = some m ∧ m.host = true) ∧ (line .hold).lsc.lineState = .hold ∧
      ((line .run).lsc.lineState ≠ .hold ∧ (line .ready).running = false) ∧
      (outgrown 22000000).wnd.active = some ⟨5, 20000000, .roll, none⟩ ∧ (outgrown 22000000).wpu.stopped = false ∧
      (after (.start .line 1) tabled).wnd.active = some ⟨0, 3400000, .leadIn, none⟩ ∧
      (line .run).wpu.stopped = true := by
  refine ⟨by decide +kernel, by decide +kernel, ⟨_, rfl, rfl⟩, by decide +kernel⟩

theorem witness_BatchRequestsChangeTheTable :
    batched.mayTake .line = true ∧ batched.permits .line .operate false = true ∧
      batched.permits .line .configure false = true ∧ (∃ x, batched.bat.entries[0].batch = some x ∧ x.code = 17 ∧ x.isOpen = true) ∧
      HoldsCode batched 18 1 ∧ batched.bat.entries[2].batch = none ∧
      ((10000 : BitVec 16).toInt ≤ 10000 ∧ 10000 < (10001 : BitVec 16).toInt ∧ (0xFFFF : BitVec 16).toInt < 0 ∧
        (0xCE00 : BitVec 16).toInt = -12800 ∧ (0x319C : BitVec 16).toInt = 12700) ∧
      (31 < (32 : Byte).toNat ∧ ¬31 < (31 : Byte).toNat ∧ 1 < (2 : Byte).toNat) ∧
      ((line .ready).lsc.lineState = .ready ∧ (line .run).lsc.lineState ≠ .ready ∧ (0 : BitVec 16).toNat < 1 ∧
        9999 < (10000 : BitVec 16).toNat ∧ 1 ≤ (1 : BitVec 16).toNat ∧ (9999 : BitVec 16).toNat ≤ 9999) := by
  refine ⟨by decide +kernel, by decide +kernel, by decide +kernel, ⟨_, rfl, by decide, by decide⟩, ⟨⟨_, rfl, by decide⟩, ?_⟩,
    by decide +kernel, by decide +kernel, by decide +kernel, by decide +kernel⟩
  intro k hk x hx
  have : k = 0 := by omega
  subst this
  cases hx
  decide

end Sys2Proof.Tests
end

section
/-! PROOFS. The field checks of a request in field-number order, and SET_STATION (R39, R41). -/

namespace Sys2Proof.Machine

/-! ### Checks in field-number order -/

theorem firstFailing_eq_none {checks : List (Nat × Bool)} (passes : ∀ n, (n, false) ∉ checks) :
    firstFailing checks = none := by
  induction checks with
  | nil => rfl
  | cons check rest ih =>
    obtain ⟨m, ok⟩ := check
    cases ok with
    | false => exact absurd List.mem_cons_self (passes m)
    | true => exact ih fun n h => passes n (List.mem_cons_of_mem _ h)

/-- With the checks in ascending order of their numbers, the first that fails is the failing one of least number. -/
theorem firstFailing_eq_some {checks : List (Nat × Bool)} (ordered : checks.Pairwise fun a b => a.1 < b.1) {n : Nat}
    (fails : (n, false) ∈ checks) (least : ∀ m, m < n → (m, false) ∉ checks) : firstFailing checks = some n := by
  induction checks with
  | nil => cases fails
  | cons check rest ih =>
    obtain ⟨m, ok⟩ := check
    obtain ⟨before, rest_ordered⟩ := List.pairwise_cons.mp ordered
    rcases List.mem_cons.mp fails with same | later
    · cases same
      rfl
    · have hm : m < n := before _ later
      cases ok with
      | false => exact absurd List.mem_cons_self (least m hm)
      | true => exact ih rest_ordered later fun k hk h => least k hk (List.mem_cons_of_mem _ h)

/-! ### The fields of a SET_STATION payload (12.8, R199) -/

theorem splitFields_getD (widths : List Nat) (bytes : List Byte) (i : Nat) (h : i < widths.length) :
    (splitFields widths bytes).getD i 0 = field bytes (widths.take i).sum (widths.getD i 0) := by
  induction widths generalizing bytes i with
  | nil => cases h
  | cons w ws ih =>
    cases i with
    | zero => simp [splitFields, field, slice]
    | succ i =>
      have rest := ih (bytes.drop w) i (by simpa using h)
      simpa [splitFields, field, slice, List.drop_drop] using rest

/-- Each field of SET_STATION stands at the sum of the widths before it. -/
theorem stationField_succ (p : List Byte) (i : Nat) (h : i < 14) :
    stationField p (i + 1) = field p (stationWidths.take i).sum (stationWidths.getD i 0) :=
  splitFields_getD stationWidths p i h

section
variable (p : List Byte)

@[simp] theorem stationField_station : stationField p 1 = field p 0 1 := stationField_succ p 0 (by decide)
@[simp] theorem stationField_kind : stationField p 2 = field p 1 1 := stationField_succ p 1 (by decide)
@[simp] theorem stationField_target : stationField p 3 = field p 2 1 := stationField_succ p 2 (by decide)
@[simp] theorem stationField_offset : stationField p 4 = field p 3 2 := stationField_succ p 3 (by decide)
@[simp] theorem stationField_settle : stationField p 5 = field p 5 4 := stationField_succ p 4 (by decide)
@[simp] theorem stationField_gain : stationField p 6 = field p 9 2 := stationField_succ p 5 (by decide)
@[simp] theorem stationField_deadband : stationField p 7 = field p 11 2 := stationField_succ p 6 (by decide)
@[simp] theorem stationField_averaging : stationField p 8 = field p 13 1 := stationField_succ p 7 (by decide)
@[simp] theorem stationField_stepLimit : stationField p 9 = field p 14 2 := stationField_succ p 8 (by decide)
@[simp] theorem stationField_trimLimit : stationField p 10 = field p 16 2 := stationField_succ p 9 (by decide)
@[simp] theorem stationField_ratio : stationField p 11 = field p 18 2 := stationField_succ p 10 (by decide)
@[simp] theorem stationField_rate : stationField p 12 = field p 20 2 := stationField_succ p 11 (by decide)
@[simp] theorem stationField_missLimit : stationField p 13 = field p 22 1 := stationField_succ p 12 (by decide)
@[simp] theorem stationField_tolerance : stationField p 14 = field p 23 2 := stationField_succ p 13 (by decide)

end

/-! ### SET_STATION's checks (R39, R41) -/

theorem within_eq_false_iff {lo hi x : Nat} : within lo hi x = false ↔ x < lo ∨ hi < x := by
  simp only [within, Bool.and_eq_false_iff, decide_eq_false_iff_not, Nat.not_le]

/-- A target station fails out of 0..7 and where it is the station itself. -/
theorem targetCheck_eq_false_iff {target station : Nat} :
    (within 0 7 target && target != station) = false ↔ 7 < target ∨ target = station := by
  simp only [Bool.and_eq_false_iff, within_eq_false_iff, bne_eq_false_iff_eq, Nat.not_lt_zero, false_or]

theorem mem_residentChecks_iff (p : List Byte) (L n : Nat) : (n, false) ∈ residentChecks (stationField p) L ↔
    (n = 4 ∧ L ≤ field p 3 2) ∨ (n = 5 ∧ 3000000 < field p 5 4) ∨ (n = 6 ∧ 8191 < field p 9 2) ∨
      (n = 7 ∧ 1000 < field p 11 2) ∨ (n = 8 ∧ (field p 13 1 < 1 ∨ 8 < field p 13 1)) := by
  simp [residentChecks, within_eq_false_iff]

theorem mem_driveChecks_iff (p : List Byte) (n : Nat) : (n, false) ∈ driveChecks (stationField p) ↔
    (n = 9 ∧ (field p 14 2 < 1 ∨ 4000 < field p 14 2)) ∨ (n = 10 ∧ (field p 16 2 < 1 ∨ 30000 < field p 16 2)) ∨
      (n = 11 ∧ (field p 18 2 < 1 ∨ 4096 < field p 18 2)) ∨ (n = 12 ∧ (field p 20 2 < 100 ∨ 50000 < field p 20 2)) := by
  simp [driveChecks, within_eq_false_iff]

theorem stationChecks_ordered (p : List Byte) (L : Nat) : (stationChecks p L).Pairwise fun a b => a.1 < b.1 := by
  unfold stationChecks residentChecks driveChecks
  dsimp only
  split
  · simp
  · split <;> simp

/-- The checks that fail are the fields that the kind holds and that lie outside their ranges. -/
theorem mem_stationChecks_iff (p : List Byte) (L n : Nat) : (n, false) ∈ stationChecks p L ↔ StationFieldFails p L n := by
  unfold stationChecks StationFieldFails
  by_cases resident : field p 1 1 = 1
  · simp [resident, mem_residentChecks_iff, mem_driveChecks_iff, within_eq_false_iff, or_assoc]
  · by_cases indirect : field p 1 1 = 2
    · simp [indirect, mem_driveChecks_iff, within_eq_false_iff, targetCheck_eq_false_iff, -Bool.and_eq_false_imp]
    · simp [resident, indirect, within_eq_false_iff]

theorem firstFailing_stationChecks_of_fails {p : List Byte} {L n : Nat} (fails : StationFieldFails p L n)
    (least : ∀ m, m < n → ¬StationFieldFails p L m) : firstFailing (stationChecks p L) = some n :=
  firstFailing_eq_some (stationChecks_ordered p L) ((mem_stationChecks_iff p L n).mpr fails)
    fun m hm h => least m hm ((mem_stationChecks_iff p L m).mp h)

theorem firstFailing_stationChecks_of_passes {p : List Byte} {L : Nat} (passes : ∀ n, ¬StationFieldFails p L n) :
    firstFailing (stationChecks p L) = none :=
  firstFailing_eq_none fun n h => passes n ((mem_stationChecks_iff p L n).mp h)

/-! ### The descriptor carried and the station it leaves (R39, R41) -/

section
variable {p : List Byte}

theorem descriptorOf_reference (kind : field p 1 1 = 0) : descriptorOf p = .reference := by
  simp [descriptorOf, kind]

theorem descriptorOf_resident (kind : field p 1 1 = 1) :
    descriptorOf p = .resident ⟨field p 3 2, field p 5 4,
      ⟨field p 13 1, field p 9 2, field p 11 2, field p 14 2, field p 16 2, field p 18 2, field p 20 2⟩,
      field p 22 1, field p 23 2⟩ := by
  simp [descriptorOf, kind]

theorem descriptorOf_indirect {target : StationId} (kind : field p 1 1 = 2) (names : field p 2 1 = target.val) :
    descriptorOf p = .indirect ⟨target, field p 14 2, field p 16 2, field p 18 2, field p 20 2⟩ := by
  simp [descriptorOf, kind, names]

theorem descriptorOf_invalid (kind : field p 1 1 = 3) : descriptorOf p = .invalid := by
  simp [descriptorOf, kind]

end

/-- Of the four kinds, only REFERENCE and INVALID drive no motor. -/
theorem Station.not_driven_eq (x : Station) : (!x.driven) = (x.desc == .reference || x.desc == .invalid) := by
  unfold Station.driven Station.isResident Station.isIndirect
  cases x.desc <;> rfl

@[simp] theorem Station.setTo_desc (x : Station) (d : Descriptor) : (x.setTo d).desc = d := by
  simp only [Station.setTo, apply_ite Station.desc, ite_self]

@[simp] theorem Station.setTo_trim (x : Station) (d : Descriptor) : (x.setTo d).trim = 0 := by
  simp only [Station.setTo, apply_ite Station.trim, ite_self]

/-- A descriptor that drives a motor engages a station that drove none, and keeps the engagement of another. -/
theorem Station.setTo_engaged (x : Station) (d : Descriptor) (driven : { x with desc := d, trim := 0 }.driven = true) :
    (x.setTo d).engaged = (x.engaged || x.desc == .reference || x.desc == .invalid) := by
  rw [Bool.or_assoc, ← x.not_driven_eq]
  simp only [Station.setTo, driven, apply_ite Station.engaged, ite_self]
  cases x.driven <;> simp

theorem Station.driven_descriptorOf (x : Station) {p : List Byte} (kind : field p 1 1 = 1 ∨ field p 1 1 = 2) :
    { x with desc := descriptorOf p, trim := 0 }.driven = true := by
  rcases kind with kind | kind <;> simp [Station.driven, Station.isResident, Station.isIndirect, descriptorOf, kind]

/-! ### What SET_STATION answers (R41) -/

section
variable {s : State} {j : Job} {p : List Byte}

theorem setStation_act_of_not_ready (h : s.lsc.lineState ≠ .ready) : (setStationService p).act s = refuse s .state := by
  simp [setStationService, h]

theorem setStation_act_of_fails (ready : s.lsc.lineState = .ready) (job : s.lsc.job = some j) {n : Nat}
    (fails : firstFailing (stationChecks p j.L) = some n) : (setStationService p).act s = badField s n := by
  simp [setStationService, ready, State.answerWithJob, job, fails]

theorem setStation_act_of_passes (ready : s.lsc.lineState = .ready) (job : s.lsc.job = some j) {i : StationId}
    (names : field p 0 1 = i.val) (passes : firstFailing (stationChecks p j.L) = none) :
    (setStationService p).act s = done (s.putStation i ((s.station i).setTo (descriptorOf p))) .empty := by
  simp [setStationService, ready, State.answerWithJob, job, passes, names]

end

/-- SET_STATION, taken and permitted, answers what its owner does, which leaves the links alone. -/
theorem setStation_answers {s u : State} {l : LinkId} {tag : Byte} {p : List Byte} {st : Status} {body : ReplyBody}
    (take : s.mayTake l = true) (allowed : s.permits l .configure false = true) (size : p.length = 25)
    (act : (setStationService p).act s = (u, st, body)) (quiet : u.lnk = s.lnk) :
    Answers (.setStation l tag p) s l ⟨0xC1, tag, st, body⟩ [] u := by
  have fits : (setStationService p).fits = true := by simp [setStationService, size, Config.setStationBytes]
  have raised : ((setStationService p).act s).1.lnk = s.lnk.raised [] := by
    rw [act]
    exact quiet
  have answers := answers_of (tag := tag) (setStationService p) [] (c := .setStation l tag p) rfl take fits allowed raised
  rw [act] at answers
  exact answers

/-- Settles O55: outside READY the owner refuses; in READY the first field outside its range is the first failing check,
and without one the station is set to the descriptor carried. -/
theorem setStationWritesADescriptor : Obligations.SetStationWritesADescriptor := by
  intro s l tag p take allowed size
  refine ⟨fun other => setStation_answers take allowed size (setStation_act_of_not_ready other) rfl,
    fun j ready job => ⟨fun n fails least => ?_, fun i names passes => ?_⟩⟩
  · have first := firstFailing_stationChecks_of_fails fails least
    exact setStation_answers take allowed size (setStation_act_of_fails ready job first) rfl
  · have none_fails := firstFailing_stationChecks_of_passes passes
    refine ⟨(s.station i).setTo (descriptorOf p),
      setStation_answers take allowed size (setStation_act_of_passes ready job names none_fails) rfl,
      Station.setTo_trim _ _, ?_, ?_, ?_, ?_, ?_⟩
    · exact fun kind => (Station.setTo_desc _ _).trans (descriptorOf_reference kind)
    · exact fun kind => (Station.setTo_desc _ _).trans (descriptorOf_resident kind)
    · exact fun target kind target_names => (Station.setTo_desc _ _).trans (descriptorOf_indirect kind target_names)
    · exact fun kind => (Station.setTo_desc _ _).trans (descriptorOf_invalid kind)
    · exact fun kind => Station.setTo_engaged _ _ (Station.driven_descriptorOf _ kind)

end Sys2Proof.Machine
end

section
/-! PROOFS. The MONITOR requests that report one entry: ROLL_READ (R146) and BATCH_READ (R163). -/

namespace Sys2Proof.Machine

/-! ### MONITOR requests that only report (R193, R194) -/

/-- MONITOR is permitted on each link, with or without a grant (R194). -/
theorem State.permits_monitor (s : State) (l : LinkId) (lineOnly : Bool) : s.permits l .monitor lineOnly = true := by
  cases l <;> rfl

/-- A MONITOR request whose owner hands back the state it was given is answered, and nothing is changed. -/
theorem monitor_answers {c : Instr} {s : State} {l : LinkId} {tag : Byte} {st : Status} {body : ReplyBody} (x : Service)
    (serves : exec c s = .next (s.request l tag x).endOfEvent) (monitor : x.cls = .monitor) (fits : x.fits = true)
    (take : s.mayTake l = true) (act : x.act s = (s, st, body)) :
    Answers c s l ⟨x.kind + 0x80, tag, st, body⟩ [] s := by
  have allowed : s.permits l x.cls x.lineOnly = true := monitor ▸ s.permits_monitor l x.lineOnly
  have answers := answers_of x [] serves take fits allowed (by rw [act]; rfl)
  rw [act] at answers
  exact answers

/-! ### What the owners of the entries answer (R146, R163) -/

section
variable {s : State}

/-- ROLL_READ finds the first entry under the number asked for. -/
theorem rollRead_act_of_first {seq : BitVec 32} {before after : List Entry} {e : Entry}
    (log : s.rlg.log = before ++ e :: after) (named : e.seq = seq) (first : ∀ x ∈ before, x.seq ≠ seq) :
    (rollReadService seq).act s = done s (.rollEntry e) := by
  have found : s.rlg.log.find? (fun x => x.seq == seq) = some e :=
    List.find?_eq_some_iff_append.mpr ⟨by simp [named], before, after, log, by simpa using first⟩
  simp [rollReadService, found]

theorem rollRead_act_of_absent {seq : BitVec 32} (absent : ∀ e ∈ s.rlg.log, e.seq ≠ seq) :
    (rollReadService seq).act s = refuse s .notFound := by
  have missing : s.rlg.log.find? (fun x => x.seq == seq) = none :=
    List.find?_eq_none.mpr (by simpa using absent)
  simp [rollReadService, missing]

theorem batchRead_act_of_index (i : Fin 32) :
    (batchReadService (BitVec.ofNat 8 i.val)).act s = done s (.batchEntry i.val s.bat.entries[i]) := by
  have index : (BitVec.ofNat 8 i.val).toNat = i.val :=
    (BitVec.toNat_ofNat _ _).trans (Nat.mod_eq_of_lt (Nat.lt_of_lt_of_le i.isLt (by decide)))
  simp [batchReadService, index]

theorem batchRead_act_of_out_of_range {index : Byte} (out : 31 < index.toNat) :
    (batchReadService index).act s = badField s 1 := by
  simp [batchReadService, Nat.not_lt.mpr out]

end

/-- Settles O23: both are MONITOR requests whose owners hand back the state they were given, and what they answer is the
entry found in the log or in the table, or the refusal. -/
theorem readsReportOneEntryWhole : Obligations.ReadsReportOneEntryWhole := by
  intro s l tag take
  have roll : ∀ {seq st body}, (rollReadService seq).act s = (s, st, body) →
      Answers (.rollRead l tag seq) s l ⟨0x88, tag, st, body⟩ [] s :=
    monitor_answers (rollReadService _) rfl rfl rfl take
  have batch : ∀ {index st body}, (batchReadService index).act s = (s, st, body) →
      Answers (.batchRead l tag index) s l ⟨0x8A, tag, st, body⟩ [] s :=
    monitor_answers (batchReadService _) rfl rfl rfl take
  refine ⟨fun seq => ⟨fun before e after log named first => ?_, fun absent => ?_⟩, fun i => ?_, fun index out => ?_⟩
  · exact roll (rollRead_act_of_first log named first)
  · exact roll (rollRead_act_of_absent absent)
  · exact batch (batchRead_act_of_index i)
  · exact batch (batchRead_act_of_out_of_range out)

end Sys2Proof.Machine
end

section
/-! PROOFS. What every command is made of: the request it brings, or the operation it runs before the arbiters go on; with
that the step itself (O1) and the frame of every command (O3). -/

namespace Sys2Proof.Machine

-- one proof at a time: the joined package would else open a thread for each of them
set_option Elab.async false

/-- Settles O1: the step looks at the front of the queue first. -/
theorem stepRunsFrontCommand : Obligations.StepRunsFrontCommand := by
  intro c rest s front
  simp [step, front]

theorem mem_of_all_contains {bs cs : List Block} (sub : bs.all cs.contains = true) : ∀ b ∈ bs, b ∈ cs := by
  simpa using sub

/-! ### Request commands -/

/-- The service that a request command asks for, with the link it arrives on and its tag (12.7). -/
def requestOf : Instr → Option (LinkId × Byte × Service)
  | .identify l t => some (l, t, identifyService l)
  | .lineStatus l t => some (l, t, lineStatusService)
  | .probe l t d => some (l, t, probeService d)
  | .stationStatus l t i => some (l, t, stationStatusService i)
  | .embossStatus l t => some (l, t, embossStatusService)
  | .shadeStatus l t => some (l, t, shadeStatusService)
  | .winderStatus l t => some (l, t, winderStatusService)
  | .rollRead l t n => some (l, t, rollReadService n)
  | .batchReport l t => some (l, t, batchReportService)
  | .batchRead l t i => some (l, t, batchReadService i)
  | .labelStatus l t => some (l, t, labelStatusService)
  | .noticeMask l t m => some (l, t, noticeMaskService l m)
  | .start l t => some (l, t, startService)
  | .hold l t => some (l, t, holdService)
  | .resume l t => some (l, t, resumeService)
  | .endJob l t => some (l, t, endJobService)
  | .abortJob l t => some (l, t, abortJobService)
  | .stationEngage l t i => some (l, t, stationEngageService i)
  | .stationDisengage l t i => some (l, t, stationDisengageService i)
  | .tuneStation l t i g d a x => some (l, t, tuneStationService i g d a x)
  | .embossLift l t => some (l, t, embossLiftService)
  | .embossClose l t => some (l, t, embossCloseService)
  | .markEvent l t => some (l, t, markEventService)
  | .releaseEntries l t n => some (l, t, releaseService n)
  | .reprint l t n p => some (l, t, reprintService n p)
  | .closeBatch l t c => some (l, t, closeBatchService c)
  | .headReset l t => some (l, t, headResetService)
  | .printerReset l t p => some (l, t, printerResetService p)
  | .loadJob l t p => some (l, t, loadJobService p)
  | .setStation l t p => some (l, t, setStationService p)
  | .pinBatch l t c x y z => some (l, t, pinBatchService c x y z)
  | .purgeBatches l t a b c => some (l, t, purgeBatchesService a b c)
  | .setBatchCode l t c => some (l, t, setBatchCodeService c)
  | .grantService l t => some (l, t, Machine.grantService)
  | .revokeService l t => some (l, t, Machine.revokeService)
  | .reset l t => some (l, t, resetService l)
  | _ => none

section
variable {c : Instr} {l : LinkId} {tag : Byte} {x : Service}

theorem exec_request (is : requestOf c = some (l, tag, x)) (s : State) :
    exec c s = .next (s.request l tag x).endOfEvent := by
  cases c <;> cases is <;> rfl

theorem lnk_mem_blocksOf (c : Instr) : .lnk ∈ blocksOf c := by
  cases c
  case pwmPeriodStart g => cases g <;> decide
  all_goals simp only [blocksOf]; decide

/-- A request's owner acts in the frame of the request and leaves the links to the reply and to notices; NOTICE_MASK and
RESET change items of their link (R196, R198). -/
theorem requestOf_acts (is : requestOf c = some (l, tag, x)) :
    x.Acts (blocksOf c) ∨ (∃ m, x = noticeMaskService l m) ∨ x = resetService l := by
  have within {bs : List Block} (acts : x.Acts bs) (sub : bs.all (blocksOf c).contains = true) :
      x.Acts (blocksOf c) ∨ (∃ m, x = noticeMaskService l m) ∨ x = resetService l :=
    .inl fun s => (acts s).mono (mem_of_all_contains sub)
  cases c <;> cases is
  case identify => exact within (identifyService_acts _) rfl
  case lineStatus => exact within lineStatusService_acts rfl
  case probe => exact within (probeService_acts _) rfl
  case stationStatus => exact within (stationStatusService_acts _) rfl
  case embossStatus => exact within embossStatusService_acts rfl
  case shadeStatus => exact within shadeStatusService_acts rfl
  case winderStatus => exact within winderStatusService_acts rfl
  case rollRead => exact within (rollReadService_acts _) rfl
  case batchReport => exact within batchReportService_acts rfl
  case batchRead => exact within (batchReadService_acts _) rfl
  case labelStatus => exact within labelStatusService_acts rfl
  case noticeMask m => exact .inr (.inl ⟨m, rfl⟩)
  case start => exact within startService_acts rfl
  case hold => exact within holdService_acts rfl
  case resume => exact within resumeService_acts rfl
  case endJob => exact within endJobService_acts rfl
  case abortJob => exact within abortJobService_acts rfl
  case stationEngage => exact within (stationEngageService_acts _) rfl
  case stationDisengage => exact within (stationDisengageService_acts _) rfl
  case tuneStation => exact within (tuneStationService_acts _ _ _ _ _) rfl
  case embossLift => exact within embossLiftService_acts rfl
  case embossClose => exact within embossCloseService_acts rfl
  case markEvent => exact within markEventService_acts rfl
  case releaseEntries => exact within (releaseService_acts _) rfl
  case reprint => exact within (reprintService_acts _ _) rfl
  case closeBatch => exact within (closeBatchService_acts _) rfl
  case headReset => exact within headResetService_acts rfl
  case printerReset => exact within (printerResetService_acts _) rfl
  case loadJob => exact within (loadJobService_acts _) rfl
  case setStation => exact within (setStationService_acts _) rfl
  case pinBatch => exact within (pinBatchService_acts _ _ _ _) rfl
  case purgeBatches => exact within (purgeBatchesService_acts _ _ _) rfl
  case setBatchCode => exact within (setBatchCodeService_acts _) rfl
  case grantService => exact within grantService_acts rfl
  case revokeService => exact within revokeService_acts rfl
  case reset => exact .inr (.inr rfl)

/-- What a request's owner changes lies in the frame of the request. -/
theorem requestOf_act_sameBut (is : requestOf c = some (l, tag, x)) (s : State) :
    SameBut (blocksOf c) s (x.act s).1 := by
  have links (k : LinkId) (h : LinkHalf) : SameBut (blocksOf c) s (s.putHalf k h) :=
    (s.putHalf_sameBut k h).mono fun b hb => List.mem_singleton.mp hb ▸ lnk_mem_blocksOf c
  rcases requestOf_acts is with acts | ⟨m, rfl⟩ | rfl
  · exact (acts s).1.mono fun b hb => (List.mem_cons.mp hb).elim (fun e => e ▸ lnk_mem_blocksOf c) id
  · exact links _ _
  · exact links _ _

theorem pending_notMem_blocksOf (c : Instr) : .pending ∉ blocksOf c := by
  cases c
  case pwmPeriodStart g => cases g <;> decide
  all_goals simp only [blocksOf]; decide

/-- Serving a request changes what its owner changes, and the links. -/
theorem State.serve_sameBut_act (s : State) (l : LinkId) (tag : Byte) (x : Service) :
    SameBut [.lnk] s (s.serve l tag x) ∨ SameBut [.lnk] (x.act s).1 (s.serve l tag x) := by
  unfold State.serve State.answer
  split
  · split
    · exact .inr (State.pushReply_sameBut _ _ _ _ _ _)
    · exact .inl (State.pushReply_sameBut _ _ _ _ _ _)
  · exact .inl (State.pushReply_sameBut _ _ _ _ _ _)

/-- A request changes what its owner changes, and the links. -/
theorem State.request_sameBut_act (s : State) (l : LinkId) (tag : Byte) (x : Service) :
    SameBut [.lnk] s (s.request l tag x) ∨ SameBut [.lnk] (x.act s).1 (s.request l tag x) := by
  unfold State.request
  split
  · exact s.serve_sameBut_act l tag x
  · exact .inl (s.putHalf_sameBut l _)

end

/-! ### Requests taken from the queue -/

/-- A service of the table of request kinds is that of a request command, whose frame is within that of REQUEST_TAKE. -/
theorem serviceOf_requestOf {l : LinkId} {kind : Byte} {p : List Byte} {x : Service} (tag : Byte)
    (is : serviceOf l kind p = some x) : ∃ c y, requestOf c = some (l, tag, y) ∧ x.act = y.act ∧ x.kind = y.kind ∧
      x.cls = y.cls ∧ x.lineOnly = y.lineOnly ∧ ∀ b ∈ blocksOf c, b ∈ blocksOf (.requestTake l) := by
  unfold serviceOf at is
  split at is <;> cases is
  · exact ⟨.identify l tag, _, rfl, rfl, rfl, rfl, rfl, mem_of_all_contains rfl⟩
  · exact ⟨.lineStatus l tag, _, rfl, rfl, rfl, rfl, rfl, mem_of_all_contains rfl⟩
  · exact ⟨.probe l tag _, _, rfl, rfl, rfl, rfl, rfl, mem_of_all_contains rfl⟩
  · exact ⟨.stationStatus l tag _, _, rfl, rfl, rfl, rfl, rfl, mem_of_all_contains rfl⟩
  · exact ⟨.embossStatus l tag, _, rfl, rfl, rfl, rfl, rfl, mem_of_all_contains rfl⟩
  · exact ⟨.shadeStatus l tag, _, rfl, rfl, rfl, rfl, rfl, mem_of_all_contains rfl⟩
  · exact ⟨.winderStatus l tag, _, rfl, rfl, rfl, rfl, rfl, mem_of_all_contains rfl⟩
  · exact ⟨.rollRead l tag _, _, rfl, rfl, rfl, rfl, rfl, mem_of_all_contains rfl⟩
  · exact ⟨.batchReport l tag, _, rfl, rfl, rfl, rfl, rfl, mem_of_all_contains rfl⟩
  · exact ⟨.batchRead l tag _, _, rfl, rfl, rfl, rfl, rfl, mem_of_all_contains rfl⟩
  · exact ⟨.labelStatus l tag, _, rfl, rfl, rfl, rfl, rfl, mem_of_all_contains rfl⟩
  · exact ⟨.noticeMask l tag _, _, rfl, rfl, rfl, rfl, rfl, mem_of_all_contains rfl⟩
  · exact ⟨.start l tag, _, rfl, rfl, rfl, rfl, rfl, mem_of_all_contains rfl⟩
  · exact ⟨.hold l tag, _, rfl, rfl, rfl, rfl, rfl, mem_of_all_contains rfl⟩
  · exact ⟨.resume l tag, _, rfl, rfl, rfl, rfl, rfl, mem_of_all_contains rfl⟩
  · exact ⟨.endJob l tag, _, rfl, rfl, rfl, rfl, rfl, mem_of_all_contains rfl⟩
  · exact ⟨.abortJob l tag, _, rfl, rfl, rfl, rfl, rfl, mem_of_all_contains rfl⟩
  · exact ⟨.stationEngage l tag _, _, rfl, rfl, rfl, rfl, rfl, mem_of_all_contains rfl⟩
  · exact ⟨.stationDisengage l tag _, _, rfl, rfl, rfl, rfl, rfl, mem_of_all_contains rfl⟩
  · exact ⟨.tuneStation l tag _ _ _ _ _, _, rfl, rfl, rfl, rfl, rfl, mem_of_all_contains rfl⟩
  · exact ⟨.embossLift l tag, _, rfl, rfl, rfl, rfl, rfl, mem_of_all_contains rfl⟩
  · exact ⟨.embossClose l tag, _, rfl, rfl, rfl, rfl, rfl, mem_of_all_contains rfl⟩
  · exact ⟨.markEvent l tag, _, rfl, rfl, rfl, rfl, rfl, mem_of_all_contains rfl⟩
  · exact ⟨.releaseEntries l tag _, _, rfl, rfl, rfl, rfl, rfl, mem_of_all_contains rfl⟩
  · exact ⟨.reprint l tag _ _, _, rfl, rfl, rfl, rfl, rfl, mem_of_all_contains rfl⟩
  · exact ⟨.closeBatch l tag _, _, rfl, rfl, rfl, rfl, rfl, mem_of_all_contains rfl⟩
  · exact ⟨.headReset l tag, _, rfl, rfl, rfl, rfl, rfl, mem_of_all_contains rfl⟩
  · exact ⟨.printerReset l tag _, _, rfl, rfl, rfl, rfl, rfl, mem_of_all_contains rfl⟩
  · exact ⟨.loadJob l tag p, _, rfl, rfl, rfl, rfl, rfl, mem_of_all_contains rfl⟩
  · exact ⟨.setStation l tag p, _, rfl, rfl, rfl, rfl, rfl, mem_of_all_contains rfl⟩
  · exact ⟨.pinBatch l tag _ _ _ _, _, rfl, rfl, rfl, rfl, rfl, mem_of_all_contains rfl⟩
  · exact ⟨.purgeBatches l tag _ _ _, _, rfl, rfl, rfl, rfl, rfl, mem_of_all_contains rfl⟩
  · exact ⟨.setBatchCode l tag _, _, rfl, rfl, rfl, rfl, rfl, mem_of_all_contains rfl⟩
  · exact ⟨.grantService l tag, _, rfl, rfl, rfl, rfl, rfl, mem_of_all_contains rfl⟩
  · exact ⟨.revokeService l tag, _, rfl, rfl, rfl, rfl, rfl, mem_of_all_contains rfl⟩
  · exact ⟨.reset l tag, _, rfl, rfl, rfl, rfl, rfl, mem_of_all_contains rfl⟩

/-- The state without the request that a link takes from the head of its queue. -/
def State.dequeued (s : State) (l : LinkId) : State := s.putHalf l { s.half l with requests := (s.half l).requests.drop 1 }

/-- Taking a queued request touches the links alone, or the blocks of the request that it is. -/
theorem State.takeRequest_sameBut (s : State) (l : LinkId) :
    SameBut [.lnk] s (s.takeRequest l) ∨
      ∃ c tag x, requestOf c = some (l, tag, x) ∧ (∀ b ∈ blocksOf c, b ∈ blocksOf (.requestTake l)) ∧
        SameBut [.lnk] (x.act (s.dequeued l)).1 (s.takeRequest l) := by
  unfold State.takeRequest State.dequeued
  split
  · exact .inl (SameBut.refl _ s)
  next r rest queued =>
    split
    · simp only [queued, List.drop_succ_cons, List.drop_zero]
      have removed := s.putHalf_sameBut l { s.half l with requests := rest }
      split
      next x is =>
        obtain ⟨c, y, names, act, -, -, -, sub⟩ := serviceOf_requestOf r.tag is
        rcases State.serve_sameBut_act (s.putHalf l { s.half l with requests := rest }) l r.tag x with same | acted
        · exact .inl (removed.trans same)
        · exact .inr ⟨c, r.tag, y, names, sub, act ▸ acted⟩
      next => exact .inl (removed.trans (State.pushReply_sameBut _ _ _ _ _ _))
    · exact .inl (SameBut.refl _ s)

/-! ### Commands that run an operation of their own -/

/-- The command is neither a reset nor one of the links: it runs an operation of the blocks. -/
def isOperation (c : Instr) : Bool :=
  (requestOf c).isNone &&
    match c with
    | .partReset _ | .byteReceived _ _ _ | .gapTimeout _ | .requestTake _ | .frameSent _ => false
    | _ => true

/-- An advance meets a web that is not stopped, so that no tail ends in it. -/
theorem State.advance_affects {s : State} (moving : s.wpu.stopped = false) :
    Affects [.pins, .wpu, .trk, .rlg, .bat, .shu, .lbc, .wnd, .lsc, .emb] s s.advance := by
  unfold State.advance
  refine (affects_wpu s { s.wpu with h := s.wpu.w, reversed := false }).comp
    (cs := [.trk, .rlg, .bat, .shu, .lbc, .wnd, .lsc, .emb]) ?_
  refine affects_withJob _ _ fun j => ?_
  have occasion := affects_ite (s.wpu.reversed = true)
    ((State.openingOccasion_affects { s with wpu := { s.wpu with h := s.wpu.w, reversed := false } } j).mono
      (cs := [.trk, .rlg, .bat, .shu, .lbc, .wnd, .lsc, .emb]) (by decide)) (Affects.refl _ _)
  have both := occasion.trans ((State.tryWaiting_affects _ j).mono (by decide))
  rw [State.tailCheck_moving j ((congrArg Wpu.stopped (both.1.wpu (by decide))).trans moving)]
  exact both

theorem State.checkSpeed_affects (s : State) (j : Job) : Affects [.wpu, .lsc, .emb] s (s.checkSpeed j) :=
  affects_ite _ (affects_ite _ ((affects_wpu s _).comp (State.raiseCause_affects _ _)) ((affects_wpu s _).mono (by decide)))
    ((affects_wpu s _).mono (by decide))

/-- A FLYWHEEL repeat offers its outcomes to no station. -/
theorem State.closeFlywheel_affects_records (s : State) (c : Closing) :
    Affects [.msc, .trk, .rlp] s (s.closeFlywheel c) := by
  refine s.popClosing_affects.comp (cs := [.trk, .rlp]) ?_
  refine (State.updateRecord_affects _ _ _).comp (affects_foldl (bs := [.rlp]) _ (fun t i => ?_) _ _)
  exact affects_ite _ (t.putStation_affects i _) (Affects.refl _ t)

theorem State.trainDone_affects (s : State) (k : ChannelId) : Affects [.rlp, .lsc, .emb] s (s.trainDone k) := by
  unfold State.trainDone
  split
  · exact s.stationTrainDone_affects _
  · exact s.embossTrainDone_affects.mono (by decide)

theorem State.indexEdge_affects (s : State) (j : Job) (x : Count) : Affects [.emb, .stg] s (s.indexEdge j x) := by
  unfold State.indexEdge
  split
  · exact (affects_emb s _).comp (State.embossSample_affects _ _ _ _)
  · exact Affects.refl _ s

/-- What an operation command does before the arbiters go on lies in its frame, and adds to the links only notices. -/
theorem exec_operation {c : Instr} (is : isOperation c = true) (s : State) :
    ∃ u, exec c s = .next u.endOfEvent ∧ Affects (blocksOf c) s u := by
  have within {bs : List Block} {u : State} (affects : Affects bs s u) (sub : bs.all (blocksOf c).contains = true) :
      Affects (blocksOf c) s u := affects.mono (mem_of_all_contains sub)
  have job {bs : List Block} {f : Job → State} (affects : ∀ j, Affects bs s (f j))
      (sub : bs.all (blocksOf c).contains = true) : Affects (blocksOf c) s (s.withJob f) :=
    within (affects_withJob s f affects) sub
  cases c <;> try contradiction
  case encoderTransition line =>
    refine ⟨_, rfl, ?_⟩
    have move := (affects_pins s (flipLine s.pins line)).comp (ds := [.pins, .wpu])
      (affects_wpu _ (s.wpu.move (forwardChange s.pins line)))
    refine within (bs := [.pins, .wpu, .trk, .rlg, .bat, .shu, .lbc, .wnd, .lsc, .emb]) (affects_ite _ ?_ ?_) rfl
    · exact move.comp (State.advance_affects rfl)
    · exact affects_ite _ (move.comp (affects_wpu _ _)) (move.mono (by decide))
  case encoderFault =>
    exact ⟨_, rfl, within (((affects_pins s _).comp (ds := [.pins, .wpu]) (affects_wpu _ _)).comp
      (ds := [.pins, .wpu, .lsc, .emb]) (State.raiseCause_affects _ _)) rfl⟩
  case speedWindowEnd =>
    have judged := (affects_wpu s s.wpu.closeWindow).comp (ds := [.wpu, .lsc, .emb])
      (affects_withJob _ _ fun j => State.checkSpeed_affects _ j)
    exact ⟨_, rfl, within (judged.comp (ds := [.wpu, .lsc, .emb]) (State.evaluateNip_affects _)) rfl⟩
  case stoppedFlagSet =>
    exact ⟨_, rfl, within (affects_ite _ (Affects.refl _ s) ((affects_wpu s _).comp
      (ds := [.wpu, .trk, .msc, .rlp, .stg, .emb, .shu, .wnd, .rlg, .bat, .lbc, .lsc])
      (affects_withJob _ _ fun j => State.tailCheck_affects _ j))) rfl⟩
  case markEdge =>
    exact ⟨_, rfl, within (affects_ite _ (affects_withJob s _ fun j => s.takeEdge_affects j _) (Affects.refl _ s)) rfl⟩
  case referenceWindowExpiry =>
    exact ⟨_, rfl, job (fun j => affects_ite _ (s.referenceExpiry_affects j) (Affects.refl _ s)) rfl⟩
  case reacquisitionWindowExpiry =>
    exact ⟨_, rfl, job (fun j => affects_ite _ (s.reacquisitionExpiry_affects j) (Affects.refl _ s)) rfl⟩
  case captureClose =>
    refine ⟨_, rfl, job (bs := [.msc, .trk, .rlp, .stg, .lsc, .emb]) (fun j => ?_) rfl⟩
    split
    · exact affects_ite _ (s.closeCapture_affects j _) (Affects.refl _ s)
    · exact Affects.refl _ s
  case flywheelClosing =>
    refine ⟨_, rfl, job (bs := [.msc, .trk, .rlp]) (fun j => ?_) rfl⟩
    split
    · exact affects_ite _ (s.closeFlywheel_affects_records _) (Affects.refl _ s)
    · exact Affects.refl _ s
  case settleEnd i => exact ⟨_, rfl, within (affects_ite _ (s.putStation_affects i _) (Affects.refl _ s)) rfl⟩
  case stepPulse k =>
    refine ⟨_, rfl, within (bs := [.stg, .rlp, .lsc, .emb]) (affects_ite _ ?_ (Affects.refl _ s)) rfl⟩
    exact affects_ite _ ((s.putChan_affects k _).mono (by decide))
      ((s.putChan_affects k _).comp (State.trainDone_affects _ k))
  case splicePulse =>
    exact ⟨_, rfl, within (affects_ite _ (affects_withJob s _ fun j => s.arrive_affects j _) (Affects.refl _ s)) rfl⟩
  case defectLineRise =>
    refine ⟨_, rfl, within (bs := [.pins, .trk, .emb, .wnd, .rlg, .lsc]) ?_ rfl⟩
    exact affects_ite _ ((affects_pins s _).comp (affects_withJob _ _ fun j => State.openingOccasion_affects _ j))
      ((affects_pins s _).mono (by decide))
  case defectLineFall =>
    exact ⟨_, rfl, within ((affects_pins s _).comp (ds := [.pins, .trk, .emb])
      (affects_withJob _ _ fun j => State.closeDefect_affects _ j _)) rfl⟩
  case defectLengthLimit =>
    exact ⟨_, rfl, job (fun j => affects_ite _ ((s.closeDefect_affects j _).comp (ds := [.trk, .emb, .wnd, .rlg, .lsc])
      (State.openingOccasion_affects _ j)) (Affects.refl _ s)) rfl⟩
  case operatorButton =>
    exact ⟨_, rfl, within (affects_ite _ (affects_withJob s _ fun j => s.arrive_affects j _) (Affects.refl _ s)) rfl⟩
  case eventAttribution =>
    refine ⟨_, rfl, job (bs := [.trk, .rlg]) (fun j => ?_) rfl⟩
    split
    · exact s.attribute_affects _
    · exact Affects.refl _ s
  case eventRemoval =>
    refine ⟨_, rfl, job (bs := [.trk, .rlg, .emb]) (fun j => ?_) rfl⟩
    split
    · exact s.removeEvent_affects _
    · exact Affects.refl _ s
  case recordFold => exact ⟨_, rfl, job (fun j => affects_ite _ (s.foldHead_affects j) (Affects.refl _ s)) rfl⟩
  case engageTimerExpiry => exact ⟨_, rfl, within (affects_ite _ (affects_emb s _) (Affects.refl _ s)) rfl⟩
  case liftTimerExpiry =>
    exact ⟨_, rfl, within (affects_ite _ ((affects_emb s _).trans (State.evaluateNip_affects _)) (Affects.refl _ s)) rfl⟩
  case liftCoverageBegin =>
    refine ⟨_, rfl, job (bs := [.trk, .emb]) (fun j => ?_) rfl⟩
    split
    · exact s.coverBegin_affects j _
    · exact Affects.refl _ s
  case liftCoverageEnd => exact ⟨_, rfl, job (fun j => affects_ite _ s.coverEnd_affects (Affects.refl _ s)) rfl⟩
  case liftCheck =>
    refine ⟨_, rfl, job (bs := [.trk, .emb]) (fun j => ?_) rfl⟩
    split
    · exact s.liftCheck_affects j _
    · exact Affects.refl _ s
  case indexEdge =>
    exact ⟨_, rfl, job (fun j => affects_ite _ (s.indexEdge_affects j _) (Affects.refl _ s)) rfl⟩
  case embossWindowExpiry =>
    refine ⟨_, rfl, job (bs := [.emb]) (fun j => ?_) rfl⟩
    split
    · exact affects_ite _ (affects_emb s _) ((affects_emb s _).trans (State.embossMiss_affects _ j))
    · exact Affects.refl _ s
  case embossStatusWrite =>
    refine ⟨_, rfl, job (bs := [.trk]) (fun j => ?_) rfl⟩
    split
    · exact s.updateRecord_affects _ _
    · exact Affects.refl _ s
  case shadeStartPoint =>
    refine ⟨_, rfl, job (bs := [.shu, .trk]) (fun j => ?_) rfl⟩
    split
    · exact s.startPoint_affects j _ _
    · exact Affects.refl _ s
  case triggerPulseEnd => exact ⟨_, rfl, within (affects_shu s _) rfl⟩
  case dataReady =>
    refine ⟨_, rfl, job (bs := [.shu]) (fun j => ?_) rfl⟩
    split
    · exact affects_shu s _
    · exact Affects.refl _ s
  case readComplete =>
    exact ⟨_, rfl, within (affects_ite _ (affects_withJob s _ fun j => s.readDone_affects j _) (Affects.refl _ s)) rfl⟩
  case headTimeout =>
    refine ⟨_, rfl, within (bs := [.shu, .trk, .lsc, .emb]) ?_ rfl⟩
    split
    · exact s.headTimedOut_affects _
    · exact Affects.refl _ s
  case cutDue =>
    refine ⟨_, rfl, job (bs := [.trk, .msc, .rlp, .stg, .emb, .shu, .wnd, .rlg, .bat, .lbc, .lsc]) (fun j => ?_) rfl⟩
    split
    · exact (s.takeCut_affects j _ _ _).comp (State.tailCheck_affects _ j)
    · exact Affects.refl _ s
  case overlengthCondition => exact ⟨_, rfl, job (fun j => s.checkOverlength_affects j) rfl⟩
  case transferTimerExpiry => exact ⟨_, rfl, within (affects_wnd s _) rfl⟩
  case knifePulseEnd => exact ⟨_, rfl, within (affects_wnd s _) rfl⟩
  case turretPulseEnd => exact ⟨_, rfl, within (affects_wnd s _) rfl⟩
  case torqueUpdate => exact ⟨_, rfl, job (fun j => affects_ite _ (s.torqueStep_affects j) (Affects.refl _ s)) rfl⟩
  case doff k => exact ⟨_, rfl, within (s.takeDoff_affects k) rfl⟩
  case printerReadyChange => exact ⟨_, rfl, within ((affects_pins s _).comp (ds := [.pins, .lbc, .rlg])
    (State.labelWork_affects _)) rfl⟩
  case labelTransferEnd =>
    refine ⟨_, rfl, within (bs := [.lbc, .rlg, .lsc, .emb]) ?_ rfl⟩
    split
    · exact s.transferEnded_affects _ _
    · exact Affects.refl _ s
  case printerTimeout p =>
    exact ⟨_, rfl, within (affects_ite _ (s.printerTimedOut_affects p) (Affects.refl _ s)) rfl⟩
  case applied p => exact ⟨_, rfl, within (s.labelApplied_affects p) rfl⟩
  case stepPulseEnd k => exact ⟨_, rfl, within (s.putChan_affects k _) rfl⟩
  case pwmPeriodStart g =>
    cases g
    case nip => exact ⟨_, rfl, within (affects_emb s _) rfl⟩
    case torque => exact ⟨_, rfl, within (affects_wnd s _) rfl⟩

/-! ### The frame of every command -/

theorem isOperation_cases (c : Instr) : isOperation c = true ∨ (∃ l tag x, requestOf c = some (l, tag, x)) ∨
    (∃ p, c = .partReset p) ∨ (∃ l b f, c = .byteReceived l b f) ∨ (∃ l, c = .gapTimeout l) ∨
      (∃ l, c = .requestTake l) ∨ ∃ l, c = .frameSent l := by
  cases c <;> simp [isOperation, requestOf]

theorem State.resetWith_sameBut (s : State) (p : Pins) :
    SameBut (blocksOf (.partReset p)) s (State.resetWith p s.pending) := by
  intro b kept
  cases b <;> first | rfl | simp [blocksOf] at kept

theorem State.resetWith_own_sameBut (s : State) (l : LinkId) :
    SameBut (blocksOf (.frameSent l)) s (State.resetWith s.pins s.pending) := by
  intro b kept
  cases b <;> first | rfl | simp [blocksOf] at kept

/-- Every command answers a state within its frame. -/
theorem exec_sameBut (c : Instr) (s : State) : ∃ t, exec c s = .next t ∧ SameBut (blocksOf c) s t := by
  have ends {u : State} (h : SameBut (blocksOf c) s u) : SameBut (blocksOf c) s u.endOfEvent :=
    h.trans (u.endOfEvent_sameBut.mono fun b hb => List.mem_singleton.mp hb ▸ lnk_mem_blocksOf c)
  have links {u v : State} (h : SameBut [.lnk] u v) : SameBut (blocksOf c) u v :=
    h.mono fun b hb => List.mem_singleton.mp hb ▸ lnk_mem_blocksOf c
  rcases isOperation_cases c with is | ⟨l, tag, x, is⟩ | ⟨p, rfl⟩ | ⟨l, b, f, rfl⟩ | ⟨l, rfl⟩ | ⟨l, rfl⟩ | ⟨l, rfl⟩
  · obtain ⟨u, runs, frame⟩ := exec_operation is s
    refine ⟨_, runs, ends (frame.1.mono fun b hb => ?_)⟩
    rcases List.mem_cons.mp hb with rfl | hb
    · exact lnk_mem_blocksOf c
    · exact hb
  · refine ⟨_, exec_request is s, ends ?_⟩
    rcases s.request_sameBut_act l tag x with same | acted
    · exact links same
    · exact (requestOf_act_sameBut is s).trans (links acted)
  · exact ⟨_, rfl, ends (s.resetWith_sameBut p)⟩
  · exact ⟨_, rfl, ends (links (s.putHalf_sameBut l _))⟩
  · refine ⟨_, rfl, ends (links ?_)⟩
    split
    · exact SameBut.refl _ s
    · exact s.putHalf_sameBut l _
  · refine ⟨_, rfl, ends ?_⟩
    rcases s.takeRequest_sameBut l with same | ⟨c, tag, x, is, sub, acted⟩
    · exact links same
    · exact ((links (s.putHalf_sameBut l _)).trans ((requestOf_act_sameBut is _).mono sub)).trans (links acted)
  · refine ⟨_, rfl, ends ?_⟩
    split
    · split
      · exact s.resetWith_own_sameBut l
      · exact links (s.putHalf_sameBut l _)
    · exact SameBut.refl _ s

/-- Settles O3: the queue of commands lies in no frame. -/
theorem everyCommandAnswersInItsFrame : Obligations.EveryCommandAnswersInItsFrame := by
  intro c s
  obtain ⟨t, runs, frame⟩ := exec_sameBut c s
  exact ⟨t, runs, frame.pending (pending_notMem_blocksOf c), frame⟩

end Sys2Proof.Machine
end

section
/-! PROOFS. What a step can be, for the laws that every step keeps; and the law of the links (O6). -/

namespace Sys2Proof.Machine

-- one proof at a time: the joined package would else open a thread for each of them
set_option Elab.async false

/-! ### A law kept by every command and by the clock is kept by every step -/

/-- A step runs a command, from the queue or fallen due, or is a cycle of the clock. -/
theorem step_keeps {P : State → Prop} (queue : ∀ s q, P s → P { s with pending := q })
    (command : ∀ c s t, P s → exec c s = .next t → P t) (clock : ∀ s, P s → P s.clockCycle) {s t : State} (h : P s)
    (runs : step s = .next t) : P t := by
  unfold step State.idle at runs
  split at runs
  · exact command _ _ _ (queue s _ h) runs
  · split at runs
    · exact command _ _ _ h runs
    · cases runs
      exact clock s h

/-! ### The law of one link, without the arbiter's part -/

/-- The law of a half in the middle of an event, when its arbiter has not yet looked. -/
structure LinkHalf.Sound (h : LinkHalf) : Prop where
  requests : h.requests.length ≤ Config.linkCap
  replies : h.replies.length ≤ Config.linkCap
  once : h.slots.Nodup
  enabled : ∀ n ∈ h.slots, h.mask.getLsbD n.kindIndex = true
  reset : h.resetWait = true → ∃ r ∈ h.outgoing, r.kind = 0xC7 ∧ r.status = .done

theorem LinkHalf.Law.sound {h : LinkHalf} (law : h.Law) : h.Sound :=
  ⟨law.1, law.2.1, law.2.2.1, law.2.2.2.1, law.2.2.2.2.2⟩

/-- What the arbiter takes leaves each queue and the slots, or is the only change of one of them. -/
theorem LinkHalf.advance_parts (h : LinkHalf) (b : Notice → NoticeBody) :
    (h.advance b).replies.length ≤ h.replies.length ∧ List.Sublist (h.advance b).slots h.slots := by
  unfold LinkHalf.advance
  split
  · exact ⟨Nat.le_refl _, List.Sublist.refl _⟩
  · split
    · exact ⟨Nat.le_refl _, List.erase_sublist⟩
    · split
      next r rs queued => exact ⟨by simp [queued], List.Sublist.refl _⟩
      · split
        · exact ⟨Nat.le_refl _, List.erase_sublist⟩
        · exact ⟨Nat.le_refl _, List.Sublist.refl _⟩

theorem LinkHalf.Sound.advance {h : LinkHalf} (sound : h.Sound) (b : Notice → NoticeBody) : (h.advance b).Law := by
  obtain ⟨rate, rx, gap, abandoned, crc, full, requests, mask, wait⟩ := h.advance_receiver b
  obtain ⟨fewer, sub⟩ := h.advance_parts b
  refine ⟨?_, Nat.le_trans fewer sound.replies, sub.nodup sound.once, fun n hn => ?_, h.advance_quiet b, fun w => ?_⟩
  · rw [requests]
    exact sound.requests
  · rw [mask]
    exact sound.enabled n (sub.subset hn)
  · rw [h.advance_outgoing]
    exact sound.reset (wait ▸ w)

theorem LinkHalf.Sound.raise {h : LinkHalf} (sound : h.Sound) (n : Notice) : (h.raise n).Sound := by
  unfold LinkHalf.raise
  split
  next new =>
    simp only [Bool.and_eq_true, Bool.not_eq_true', List.contains_eq_mem, decide_eq_false_iff_not] at new
    refine ⟨sound.requests, sound.replies, ?_, fun m hm => ?_, sound.reset⟩
    · exact List.nodup_append.mpr ⟨sound.once, List.pairwise_singleton _ n, fun a ha b hb e =>
        new.2 (List.mem_singleton.mp hb ▸ e ▸ ha)⟩
    · rcases List.mem_append.mp hm with hm | hm
      · exact sound.enabled m hm
      · exact List.mem_singleton.mp hm ▸ new.1
  next => exact sound

theorem LinkHalf.Sound.raises {h : LinkHalf} (sound : h.Sound) (ns : List Notice) : (ns.foldl LinkHalf.raise h).Sound := by
  induction ns generalizing h with
  | nil => exact sound
  | cons n ns ih => exact ih (sound.raise n)

theorem LinkHalf.Sound.enqueue {h : LinkHalf} (sound : h.Sound) (r : RawRequest) : (h.enqueue r).Sound := by
  unfold LinkHalf.enqueue
  split
  next room => exact ⟨by simp; exact room, sound.replies, sound.once, sound.enabled, sound.reset⟩
  next => exact ⟨sound.requests, sound.replies, sound.once, sound.enabled, sound.reset⟩

/-- What the assembler holds, and the counts, are in no law. -/
theorem LinkHalf.Sound.receiver {h k : LinkHalf} (sound : h.Sound) (requests : k.requests = h.requests)
    (replies : k.replies = h.replies) (slots : k.slots = h.slots) (mask : k.mask = h.mask) (tx : k.tx = h.tx)
    (wait : k.resetWait = h.resetWait) : k.Sound := by
  refine ⟨requests ▸ sound.requests, replies ▸ sound.replies, slots ▸ sound.once, slots ▸ mask ▸ sound.enabled, ?_⟩
  rw [wait]
  simpa only [LinkHalf.outgoing, replies, tx] using sound.reset

theorem LinkHalf.Sound.abandon {h : LinkHalf} (sound : h.Sound) : h.abandon.Sound := sound.receiver rfl rfl rfl rfl rfl rfl

theorem LinkHalf.Sound.goOn {h : LinkHalf} (sound : h.Sound) (x : Rx) : (h.goOn x).Sound :=
  sound.receiver rfl rfl rfl rfl rfl rfl

theorem LinkHalf.Sound.receive {h : LinkHalf} (sound : h.Sound) (b : Byte) (f : Bool) : (h.receive b f).Sound := by
  unfold LinkHalf.receive
  split
  · split
    · exact sound.goOn _
    · exact sound
  · split
    · exact sound.abandon
    · split
      · exact sound.goOn _
      · exact sound.abandon
  · split
    · exact sound.abandon
    · split <;> exact sound.goOn _
  · split
    · exact sound.abandon
    · exact sound.goOn _
  · split
    · exact sound.abandon
    · unfold LinkHalf.complete
      split
      · exact (sound.enqueue _).receiver rfl rfl rfl rfl rfl rfl
      · exact sound.receiver rfl rfl rfl rfl rfl rfl

theorem LinkHalf.Sound.setMask {h : LinkHalf} (sound : h.Sound) (m : BitVec 11) : (h.setMask m).Sound :=
  ⟨sound.requests, sound.replies, sound.once.filter _, fun _ hn => (List.mem_filter.mp hn).2, sound.reset⟩

/-- A reply that finds room in the queue; with the DONE reply of a RESET the link may wait (R198). -/
theorem LinkHalf.Sound.push {h : LinkHalf} (sound : h.Sound) (room : h.replies.length < Config.linkCap) (r : Reply) :
    LinkHalf.Sound { h with replies := h.replies ++ [r] } := by
  refine ⟨sound.requests, by simp; exact room, sound.once, sound.enabled, fun wait => ?_⟩
  obtain ⟨x, hx, is⟩ := sound.reset wait
  refine ⟨x, ?_, is⟩
  simp only [LinkHalf.outgoing] at hx ⊢
  rw [← List.append_assoc]
  exact List.mem_append_left _ hx

theorem LinkHalf.Sound.push_reset {h : LinkHalf} (sound : h.Sound) (room : h.replies.length < Config.linkCap) {r : Reply}
    (kind : r.kind = 0xC7) (status : r.status = .done) :
    LinkHalf.Sound { h with resetWait := true, replies := h.replies ++ [r] } :=
  ⟨sound.requests, by simp; exact room, sound.once, sound.enabled,
    fun _ => ⟨r, by simp [LinkHalf.outgoing], kind, status⟩⟩

/-! ### Both links -/

/-- Both halves in the middle of an event. -/
def State.LinksSound (s : State) : Prop := ∀ k, (s.half k).Sound

theorem LinkLaw.sound {s : State} (law : LinkLaw s) : s.LinksSound
  | .line => law.1.sound
  | .service => law.2.sound

theorem State.LinksSound.endOfEvent {s : State} (sound : s.LinksSound) : LinkLaw s.endOfEvent := by
  rw [State.endOfEvent_eq]
  exact ⟨(sound .line).advance _, (sound .service).advance _⟩

theorem State.LinksSound.raised {s u : State} (sound : s.LinksSound) {ns : List Notice} (h : u.lnk = s.lnk.raised ns) :
    u.LinksSound := fun k => by
  rw [State.half_raised s u ns h]
  exact (sound k).raises ns

theorem State.LinksSound.putHalf {s : State} (sound : s.LinksSound) {l : LinkId} {x : LinkHalf} (hx : x.Sound) :
    (s.putHalf l x).LinksSound := fun k => by
  rw [State.half_putHalf]
  split
  · exact hx
  · exact sound k

theorem State.LinksSound.pushReply {s : State} (sound : s.LinksSound) {l : LinkId}
    (room : (s.half l).replies.length < Config.linkCap) (kind tag : Byte) (st : Status) (body : ReplyBody) :
    (s.pushReply l kind tag st body).LinksSound :=
  sound.putHalf ((sound l).push room _)

theorem LinkHalf.raises_replies (ns : List Notice) (h : LinkHalf) : (ns.foldl LinkHalf.raise h).replies = h.replies := by
  induction ns generalizing h with
  | nil => rfl
  | cons n ns ih =>
    refine (ih _).trans ?_
    unfold LinkHalf.raise
    split <;> rfl

/-- Serving a request keeps both links sound, where the link may reply. -/
theorem State.LinksSound.serve {s : State} (sound : s.LinksSound) {c : Instr} {l : LinkId} {tag : Byte} {x y : Service}
    (is : requestOf c = some (l, tag, y)) (act : x.act = y.act) (kind : x.kind = y.kind) (may : s.mayReply l = true) :
    (s.serve l tag x).LinksSound := by
  have room : (s.half l).replies.length < Config.linkCap := by
    simp only [State.mayReply, Bool.and_eq_true, decide_eq_true_eq] at may
    exact may.1
  unfold State.serve State.answer
  split
  · split
    · rw [act]
      rcases requestOf_acts is with acts | ⟨m, rfl⟩ | rfl
      · obtain ⟨-, ns, links⟩ := acts s
        refine (sound.raised links).pushReply ?_ _ _ _ _
        rw [State.half_raised s _ ns links, LinkHalf.raises_replies]
        exact room
      · refine State.LinksSound.pushReply (sound.putHalf ((sound l).setMask _)) ?_ _ _ _ _
        rw [State.half_putHalf, if_pos rfl]
        exact room
      · have twice : ∀ u : State, ∀ a b : LinkHalf, (u.putHalf l a).putHalf l b = u.putHalf l b := by
          intro u a b
          cases l <;> rfl
        simp only [resetService, done, State.pushReply, twice, State.half_putHalf, if_true]
        exact sound.putHalf ((sound l).push_reset room (by rw [kind]; rfl) rfl)
    · exact sound.pushReply room _ _ _ _
  · exact sound.pushReply room _ _ _ _

theorem State.LinksSound.request {s : State} (sound : s.LinksSound) {c : Instr} {l : LinkId} {tag : Byte} {x : Service}
    (is : requestOf c = some (l, tag, x)) : (s.request l tag x).LinksSound := by
  unfold State.request
  split
  next may =>
    simp only [State.mayTake, Bool.and_eq_true] at may
    exact sound.serve is rfl rfl may.2
  next => exact sound.putHalf ((sound l).enqueue _)

theorem State.LinksSound.takeRequest {s : State} (sound : s.LinksSound) (l : LinkId) : (s.takeRequest l).LinksSound := by
  unfold State.takeRequest
  split
  · exact sound
  next r rest queued =>
    split
    next may =>
      have fewer : rest.length ≤ Config.linkCap := by
        have := (sound l).requests
        rw [queued, List.length_cons] at this
        omega
      have removed : (s.putHalf l { s.half l with requests := rest }).LinksSound :=
        sound.putHalf ⟨fewer, (sound l).replies, (sound l).once, (sound l).enabled, (sound l).reset⟩
      have may' : (s.putHalf l { s.half l with requests := rest }).mayReply l = true := by
        simpa [State.mayReply, State.half_putHalf] using may
      dsimp only
      split
      next x is =>
        obtain ⟨c, y, names, act, kind, -⟩ := serviceOf_requestOf r.tag is
        exact removed.serve names act kind may'
      next =>
        simp only [State.mayReply, Bool.and_eq_true, decide_eq_true_eq] at may'
        exact removed.pushReply may'.1 _ _ _ _
    next => exact sound

theorem LinkHalf.reset_sound (straps : BitVec 2) (mask : BitVec 11) : (LinkHalf.reset straps mask).Sound := by
  refine ⟨?_, ?_, ?_, ?_, ?_⟩ <;> simp [LinkHalf.reset]

theorem State.resetWith_linksSound (p : Pins) (q : List Instr) : (State.resetWith p q).LinksSound
  | .line => LinkHalf.reset_sound _ _
  | .service => LinkHalf.reset_sound _ _

/-- A frame has left a transmitter that was sending one (R195): what is still to be sent of a RESET's answer stands in the
reply queue, unless it was that frame (R198). -/
theorem LinkHalf.Sound.sent {h : LinkHalf} (sound : h.Sound) {f : Frame} (sending : h.tx = some f)
    (other : (h.resetWait && f.isReset) = false) : LinkHalf.Sound { h with tx := none } := by
  refine ⟨sound.requests, sound.replies, sound.once, sound.enabled, fun wait => ?_⟩
  obtain ⟨r, hr, kind, status⟩ := sound.reset wait
  refine ⟨r, ?_, kind, status⟩
  simp only [LinkHalf.outgoing, List.nil_append]
  rcases List.mem_append.mp hr with now | queued
  · cases f with
    | notice n body => simp [sending] at now
    | reply x =>
      rw [sending] at now
      cases List.mem_singleton.mp now
      simp [show h.resetWait = true from wait, Frame.isReset, kind, status] at other
  · exact queued

theorem exec_keeps_linkLaw (c : Instr) (s t : State) (law : LinkLaw s) (runs : exec c s = .next t) : LinkLaw t := by
  have sound := law.sound
  rcases isOperation_cases c with is | ⟨l, tag, x, is⟩ | ⟨p, rfl⟩ | ⟨l, b, f, rfl⟩ | ⟨l, rfl⟩ | ⟨l, rfl⟩ | ⟨l, rfl⟩
  · obtain ⟨u, runs', -, ns, links⟩ := exec_operation is s
    cases runs'.symm.trans runs
    exact (sound.raised links).endOfEvent
  · cases (exec_request is s).symm.trans runs
    exact (sound.request is).endOfEvent
  · cases runs
    exact (State.resetWith_linksSound p _).endOfEvent
  · cases runs
    exact (sound.putHalf ((sound l).receive b f)).endOfEvent
  · cases runs
    refine State.LinksSound.endOfEvent ?_
    split
    · exact sound
    · exact sound.putHalf (sound l).abandon
  · cases runs
    exact (sound.takeRequest l).endOfEvent
  · cases runs
    refine State.LinksSound.endOfEvent ?_
    split
    next f sending =>
      split
      · exact State.resetWith_linksSound _ _
      next other => exact sound.putHalf ((sound l).sent sending (by simpa using other))
    next => exact sound

/-- The clock moves only the gap timers of the links. -/
theorem LinkHalf.Law.tick {h : LinkHalf} (law : h.Law) : h.tick.Law := law

/-- Settles O6: in the middle of an event the halves are sound, and the arbiter at its end leaves no idle transmitter beside a
frame to send. -/
theorem everyStepKeepsLinkLaw : Obligations.EveryStepKeepsLinkLaw := fun _ _ law runs =>
  step_keeps (fun _ _ h => h) exec_keeps_linkLaw (fun _ h => ⟨h.1.tick, h.2.tick⟩) law runs

end Sys2Proof.Machine
end

section
/-! PROOFS. Laws that read some blocks only: a command outside their frame keeps them, and what the closing of entries and a
cut do is told once, for every law (R124, R140). -/

namespace Sys2Proof.Machine

-- one proof at a time: the joined package would else open a thread for each of them
set_option Elab.async false

/-! ### Laws over some blocks -/

/-- A law that reads only the listed blocks, and neither the links nor the queue of commands. -/
structure ReadsOnly (R : List Block) (P : State → Prop) : Prop where
  congr : ∀ {s u : State}, (∀ b ∈ R, b.same s u) → P s → P u
  links : .lnk ∉ R
  queue : .pending ∉ R

section
variable {R bs : List Block} {P : State → Prop} {s u : State}

theorem ReadsOnly.sameBut (reads : ReadsOnly R P) (frame : SameBut bs s u) (apart : R.any bs.contains = false) (h : P s) :
    P u := by
  simp only [List.any_eq_false, List.contains_eq_mem, decide_eq_true_eq] at apart
  exact reads.congr (fun b hb => frame b (apart b hb)) h

theorem ReadsOnly.frame (reads : ReadsOnly R P) (frame : Affects bs s u) (apart : R.any bs.contains = false) (h : P s) :
    P u := by
  simp only [List.any_eq_false, List.contains_eq_mem, decide_eq_true_eq] at apart
  refine reads.congr (fun b hb => frame.1 b fun member => ?_) h
  rcases List.mem_cons.mp member with rfl | member
  · exact reads.links hb
  · exact apart b hb member

theorem ReadsOnly.links_only (reads : ReadsOnly R P) (frame : SameBut [.lnk] s u) (h : P s) : P u :=
  reads.congr (fun b hb => frame b fun member => reads.links (List.mem_singleton.mp member ▸ hb)) h

theorem ReadsOnly.endOfEvent (reads : ReadsOnly R P) (h : P s) : P s.endOfEvent :=
  reads.links_only s.endOfEvent_sameBut h

theorem ReadsOnly.withQueue (reads : ReadsOnly R P) (h : P s) (q : List Instr) : P { s with pending := q } := by
  refine reads.congr (fun b hb => ?_) h
  cases b <;> first | rfl | exact absurd hb reads.queue

end

/-- A step keeps a law P, given a law H that holds with it, when every command whose frame meets what P reads does, and the
clock does. -/
theorem step_keeps_law {H P : State → Prop} {RH R : List Block} (readsH : ReadsOnly RH H) (reads : ReadsOnly R P)
    (weaker : ∀ s, H s → P s) (reset : ∀ p q, P (State.resetWith p q))
    (request : ∀ c l tag x s, requestOf c = some (l, tag, x) → R.any (blocksOf c).contains = true → H s → P (x.act s).1)
    (operation : ∀ c s t, isOperation c = true → R.any (blocksOf c).contains = true → H s → exec c s = .next t → P t)
    (clock : ∀ s, H s → P s.clockCycle) {s t : State} (h : H s) (runs : step s = .next t) : P t := by
  have acts : ∀ c l tag x u, requestOf c = some (l, tag, x) → H u → P (x.act u).1 := by
    intro c l tag x u is hu
    by_cases meets : R.any (blocksOf c).contains = true
    · exact request c l tag x u is meets hu
    · exact reads.sameBut (requestOf_act_sameBut is u) (by simpa using meets) (weaker u hu)
  have command : ∀ c u v, H u → exec c u = .next v → P v := by
    intro c u v hu runs
    rcases isOperation_cases c with is | ⟨l, tag, x, is⟩ | ⟨p, rfl⟩ | ⟨l, b, f, rfl⟩ | ⟨l, rfl⟩ | ⟨l, rfl⟩ | ⟨l, rfl⟩
    · by_cases meets : R.any (blocksOf c).contains = true
      · exact operation c u v is meets hu runs
      · obtain ⟨w, runs', frame⟩ := exec_sameBut c u
        cases runs'.symm.trans runs
        exact reads.sameBut frame (by simpa using meets) (weaker u hu)
    · cases (exec_request is u).symm.trans runs
      rcases u.request_sameBut_act l tag x with same | acted
      · exact reads.endOfEvent (reads.links_only same (weaker u hu))
      · exact reads.endOfEvent (reads.links_only acted (acts c l tag x u is hu))
    · cases runs
      exact reads.endOfEvent (reset p _)
    · cases runs
      exact reads.endOfEvent (reads.links_only (u.putHalf_sameBut l _) (weaker u hu))
    · cases runs
      refine reads.endOfEvent ?_
      split
      · exact weaker u hu
      · exact reads.links_only (u.putHalf_sameBut l _) (weaker u hu)
    · cases runs
      rcases u.takeRequest_sameBut l with same | ⟨c, tag, x, is, -, acted⟩
      · exact reads.endOfEvent (reads.links_only same (weaker u hu))
      · have taken : H (u.dequeued l) := readsH.links_only (u.putHalf_sameBut l _) hu
        exact reads.endOfEvent (reads.links_only acted (acts c l tag x _ is taken))
    · cases runs
      refine reads.endOfEvent ?_
      split
      · split
        · exact reset _ _
        · exact reads.links_only (u.putHalf_sameBut l _) (weaker u hu)
      · exact weaker u hu
  unfold step State.idle at runs
  split at runs
  · exact command _ _ _ (readsH.withQueue h _) runs
  · split at runs
    · exact command _ _ _ h runs
    · cases runs
      exact clock s h

/-! ### What the closing of entries does, for every law -/

/-- A law is kept by every single change that the closing of entries makes: of an entry under its number, of the next roll
number, of the batch table and the line batch, of the label channel, and by notices (R140 to R144, R167). -/
structure KeptByClosing (P : State → Prop) : Prop where
  entry : ∀ {s : State} {seq : BitVec 32} {f : Entry → Entry}, (∀ e, e.seq = seq → (f e).seq = seq) → P s →
    P (s.updateEntry seq f)
  roll : ∀ {s : State} (n : Nat), P s → P { s with rlg := { s.rlg with nextRoll := n } }
  assign : ∀ {s : State} (j : Job) (roll : Nat) (mean : Shade), P s → P (s.assignBatch j roll mean).1
  told : ∀ {s : State} (n : Notice), P s → P (s.raiseNotice n)
  labels : ∀ {s : State}, P s → P s.labelWork

/-- An entry that is summed up keeps its number. -/
theorem State.batchFor_seq (s : State) (j : Job) (roll : Nat) (e : Entry) : (s.batchFor j roll e).2.seq = e.seq := by
  unfold State.batchFor
  split <;> rfl

section
variable {P : State → Prop} {s : State}

theorem KeptByClosing.batchFor (kept : KeptByClosing P) (j : Job) (roll : Nat) (e : Entry) (h : P s) :
    P (s.batchFor j roll e).1 := by
  unfold State.batchFor
  split
  · exact h
  · exact kept.assign j roll _ h

theorem KeptByClosing.closeLabelled (kept : KeptByClosing P) (j : Job) (e : Entry) (h : P s) :
    P (s.closeLabelled j e) :=
  kept.entry (fun _ _ => rfl) (kept.batchFor j _ _ (kept.roll _ h))

theorem KeptByClosing.closeEntry (kept : KeptByClosing P) (j : Job) (e : Entry) (h : P s) : P (s.closeEntry j e) := by
  unfold State.closeEntry
  dsimp only
  split
  · exact kept.entry (fun _ _ => rfl) h
  · exact kept.closeLabelled j _ h
  · exact kept.closeLabelled j _ h

theorem foldl_keeps {α : Type} (f : State → α → State) (step : ∀ u x, P u → P (f u x)) (l : List α) (h : P s) :
    P (l.foldl f s) := by
  induction l generalizing s with
  | nil => exact h
  | cons x xs ih => exact ih (step s x h)

theorem withJob_keeps {f : Job → State} (h : P s) (k : ∀ j, s.lsc.job = some j → P (f j)) : P (s.withJob f) := by
  unfold State.withJob
  split
  · exact h
  · exact k _ ‹_›

theorem KeptByClosing.examineLog (kept : KeptByClosing P) (j : Job) (h : P s) : P (s.examineLog j) := by
  unfold State.examineLog
  dsimp only
  split
  · exact h
  · exact kept.labels (kept.told _ (foldl_keeps _ (fun _ e hu => kept.closeEntry j e hu) _ h))

theorem Entry.endAt_seq (e : Entry) (stop : Count) (aborted : Bool) : (e.endAt stop aborted).seq = e.seq := by
  unfold Entry.endAt
  split <;> rfl

theorem KeptByClosing.endEntry (kept : KeptByClosing P) (seq : BitVec 32) (stop : Count) (aborted : Bool) (h : P s) :
    P (s.endEntry seq stop aborted) := by
  have ended := kept.entry (seq := seq) (fun e he => (e.endAt_seq stop aborted).trans he) h
  exact withJob_keeps ended fun j _ => kept.examineLog j ended

end

/-! ### What a cut does, for every law -/

/-- A law is kept besides by what a cut and the fold of records change: the winder, the records, the marks of events, run-permit,
and an entry allocated in a log with room (R12, R124). -/
structure KeptByCuts (P : State → Prop) : Prop extends KeptByClosing P where
  winder : ∀ {s : State} (w : Wnd), P s → P { s with wnd := w }
  records : ∀ {s : State} (rs : List RepeatRecord), P s → P { s with trk := { s.trk with records := rs } }
  events : ∀ {s : State} {es : List WebEvent}, es.length = s.trk.events.length → P s →
    P { s with trk := { s.trk with events := es } }
  permit : ∀ {s : State}, P s → P s.dropPermit
  allocate : ∀ {s : State} (start : Count) (role : Role) (k : Option Spindle), s.rlg.log.length < Config.logCap → P s →
    P (s.allocate start role k)

/-- The numbers of the log, in order. -/
def State.logSeqs (s : State) : List (BitVec 32) := s.rlg.log.map Entry.seq

theorem State.logSeqs_updateEntry (s : State) {seq : BitVec 32} {f : Entry → Entry}
    (keeps : ∀ e, e.seq = seq → (f e).seq = seq) : (s.updateEntry seq f).logSeqs = s.logSeqs := by
  simp only [State.logSeqs, State.updateEntry, List.map_map]
  refine List.map_congr_left fun e _ => ?_
  simp only [Function.comp_apply]
  split
  next is => exact (keeps e is).trans is.symm
  next => rfl

theorem State.logSeqs_congr {s u : State} (h : u.rlg = s.rlg) : u.logSeqs = s.logSeqs := congrArg (fun r => r.log.map Entry.seq) h

theorem State.enqueueLabel_logSeqs (s : State) (j : Job) (e : Entry) (p : Printer) :
    (s.enqueueLabel j e p).logSeqs = s.logSeqs :=
  State.logSeqs_updateEntry _ fun _ h => h

theorem State.labelWork_logSeqs (s : State) : s.labelWork.logSeqs = s.logSeqs := by
  have fill : ∀ j, (s.fillQueue j).logSeqs = s.logSeqs := fun j =>
    foldl_keeps (P := fun u => u.logSeqs = s.logSeqs) _ (fun u e hu => by
      split
      · split
        · exact (u.enqueueLabel_logSeqs j e _).trans hu
        · exact hu
      · exact hu) _ rfl
  have rest : ∀ u : State, (((u.chooseTransfer).refreshTimer .a).refreshTimer .b).logSeqs = u.logSeqs := fun u =>
    State.logSeqs_congr ((((u.chooseTransfer_affects).trans (State.refreshTimer_affects _ .a)).trans
      (State.refreshTimer_affects _ .b)).1.rlg (by decide))
  exact (rest _).trans (withJob_keeps (P := fun u => u.logSeqs = s.logSeqs) rfl fun j _ => fill j)

/-- The closing of entries leaves the numbers of the log. -/
theorem logSeqs_keptByClosing (L : List (BitVec 32)) : KeptByClosing fun s => s.logSeqs = L where
  entry keeps h := (State.logSeqs_updateEntry _ keeps).trans h
  roll _ h := h
  assign j roll mean h := (State.logSeqs_congr ((State.assignBatch_affects _ j roll mean).1.rlg (by decide))).trans h
  told _ h := h
  labels h := (State.labelWork_logSeqs _).trans h

theorem State.endEntry_logSeqs (s : State) (seq : BitVec 32) (stop : Count) (aborted : Bool) :
    (s.endEntry seq stop aborted).logSeqs = s.logSeqs :=
  (logSeqs_keptByClosing s.logSeqs).endEntry seq stop aborted rfl

theorem State.examineLog_logSeqs (s : State) (j : Job) : (s.examineLog j).logSeqs = s.logSeqs :=
  (logSeqs_keptByClosing s.logSeqs).examineLog j rfl

theorem State.endSegment_logSeqs (s : State) (d : Count) : (s.endSegment d).logSeqs = s.logSeqs := by
  unfold State.endSegment
  split
  · rfl
  next g _ =>
    dsimp only
    split
    · exact s.endEntry_logSeqs g.seq d false
    · exact s.endEntry_logSeqs g.seq d false

theorem State.logSeqs_length (s : State) : s.logSeqs.length = s.rlg.log.length := List.length_map ..

section
variable {P : State → Prop} {s : State}

theorem KeptByCuts.putSpindle (kept : KeptByCuts P) (k : Spindle) (x : SpindleState) (h : P s) : P (s.putSpindle k x) := by
  cases k <;> exact kept.winder _ h

theorem KeptByCuts.endSegment (kept : KeptByCuts P) (d : Count) (h : P s) : P (s.endSegment d) := by
  unfold State.endSegment
  split
  · exact h
  · dsimp only
    split
    · exact kept.winder _ (kept.endEntry _ d false h)
    · exact kept.endEntry _ d false h

theorem KeptByCuts.openSegment (kept : KeptByCuts P) (d : Count) (p : Option PointName) (r : Role)
    (room : s.rlg.log.length < Config.logCap) (h : P s) : P (s.openSegment d p r) := by
  have entered := kept.allocate d r (s.spindleFor r) room h
  unfold State.openSegment
  dsimp only
  refine kept.winder _ ?_
  split
  · exact kept.putSpindle _ _ entered
  · exact entered

theorem KeptByCuts.planSegment (kept : KeptByCuts P) (j : Job) (d : Count) (p : Option PointName) (r : Role) (h : P s) :
    P (s.planSegment j d p r) := by
  unfold State.planSegment
  dsimp only
  split
  · exact kept.winder _ (kept.winder _ h)
  · exact kept.winder _ (kept.winder _ h)
  all_goals exact kept.winder _ h

/-- A change of the winder alone. -/
theorem KeptByCuts.ofWinder (kept : KeptByCuts P) {u : State} (frame : u = { s with wnd := u.wnd }) (h : P s) : P u :=
  frame ▸ kept.winder u.wnd h

theorem KeptByCuts.judge (kept : KeptByCuts P) (j : Job) (x : Count) (h : P s) : P (s.judge j x) := by
  unfold State.judge
  split
  · exact h
  · split
    · split
      · exact kept.winder _ h
      · unfold State.extendPlan
        dsimp only
        split
        · split
          · exact kept.winder _ h
          · exact kept.winder _ h
        · exact kept.winder _ h
    all_goals first | exact h | skip
    all_goals
      unfold State.extendPlanned
      split
      · split
        · dsimp only
          split
          · exact kept.winder _ h
          · exact h
        · exact h
      · exact h

theorem KeptByCuts.modifyEvent (kept : KeptByCuts P) (n : Nat) (f : WebEvent → WebEvent) (h : P s) :
    P (s.modifyEvent n f) := kept.events (by simp) h

theorem KeptByCuts.judgeSplices (kept : KeptByCuts P) (j : Job) (h : P s) : P (s.judgeSplices j) := by
  refine foldl_keeps _ (fun u n hu => ?_) _ h
  unfold State.judgeAt
  split
  · exact hu
  · split
    · exact kept.judge j _ (kept.modifyEvent n _ hu)
    · exact hu

theorem KeptByCuts.fireCut (kept : KeptByCuts P) (j : Job) (d : Count) (p : Option PointName) (r : Role)
    (room : s.rlg.log.length < Config.logCap) (h : P s) : P (s.fireCut j d p r) := by
  have room' : ((s.pulseKnife.startTransfer j).endSegment d).rlg.log.length < Config.logCap := by
    rw [← State.logSeqs_length, State.endSegment_logSeqs, State.logSeqs_length]
    exact room
  have opened := kept.openSegment d p r room' (kept.endSegment d (kept.winder _ (kept.winder _ h)))
  have torque : ∀ u, P u → P (u.torqueFor j r) := fun u hu => kept.winder _ (kept.winder _ hu)
  have wound := torque _ (kept.planSegment j d p r opened)
  unfold State.fireCut
  dsimp only
  refine kept.judgeSplices j (kept.events (by simp) ?_)
  split
  · exact kept.permit wound
  · exact wound

theorem State.room_of_cutFails {s : State} {r : Role} (fires : s.cutFails r = none) : s.rlg.log.length < Config.logCap := by
  unfold State.cutFails at fires
  split at fires
  · cases fires
  next room => exact Nat.not_le.mp room

theorem KeptByCuts.tryWaiting (kept : KeptByCuts P) (j : Job) (h : P s) : P (s.tryWaiting j) := by
  unfold State.tryWaiting
  split
  · split
    next fires => exact kept.fireCut j _ _ _ (State.room_of_cutFails (Option.isNone_iff_eq_none.mp fires.2)) h
    next => exact h
  · exact h

theorem Entry.fold_seq (e : Entry) (r : RepeatRecord) : (e.fold r).seq = e.seq := by
  unfold Entry.fold
  dsimp only
  split <;> rfl

theorem KeptByClosing.foldInto (kept : KeptByClosing P) (r : RepeatRecord) (h : P s) : P (s.foldInto r) := by
  unfold State.foldInto State.updateContaining
  split
  · exact h
  · exact kept.entry (fun e he => (e.fold_seq _).trans he) h

theorem KeptByCuts.foldHead (kept : KeptByCuts P) (j : Job) (h : P s) : P (s.foldHead j) := by
  unfold State.foldHead
  split
  · exact h
  · exact kept.examineLog j (kept.foldInto _ (kept.records _ h))

theorem KeptByClosing.foldRemaining (kept : KeptByClosing P) (stop : Count) (h : P s) : P (s.foldRemaining stop) := by
  refine foldl_keeps _ (fun u r hu => ?_) _ h
  split
  · exact hu
  · exact kept.foldInto _ hu

theorem KeptByCuts.endLast (kept : KeptByCuts P) (j : Job) (aborted : Bool) (h : P s) : P (s.endLast j aborted) := by
  unfold State.endLast
  split
  · exact h
  · dsimp only
    split
    · exact kept.winder _ (kept.winder _ (kept.endEntry _ _ _ h))
    · exact kept.endEntry _ _ _ h

end

/-- The label's part of a doff keeps the law, where single changes of the label channel do. -/
theorem KeptByClosing.doffEntry {P : State → Prop} (kept : KeptByClosing P)
    (withdraw : ∀ u seq, P u → P (u.withdrawLabel seq)) (unattach : ∀ u seq, P u → P (u.unattachSent seq)) {s : State}
    (e : Entry) (h : P s) : P (s.doffEntry e) := by
  have marked : P (s.updateEntry e.seq fun e => { e with flags := { e.flags with doffed := true } }) :=
    kept.entry (fun _ hs => hs) h
  unfold State.doffEntry
  dsimp only
  split
  · exact kept.entry (fun _ hs => hs) marked
  · exact kept.labels (kept.entry (fun _ hs => hs) (withdraw _ _ marked))
  · exact kept.entry (fun _ hs => hs) (unattach _ _ marked)
  all_goals exact marked

/-! ### The job in force stays in force -/

theorem State.raiseCause_job (s : State) (c : HoldCause) : (s.raiseCause c).lsc.job = s.lsc.job := by
  unfold State.raiseCause
  split
  · split
    · rw [State.setLineState_lsc]
      rfl
    · split <;> rfl
    · split <;> rfl
    · rfl
    · rfl
  · rfl

theorem State.setLineState_job (s : State) (x : LineState) : (s.setLineState x).lsc.job = s.lsc.job := by
  rw [State.setLineState_lsc]

theorem State.lsc_of_affects {bs : List Block} {s u : State} (frame : Affects bs s u)
    (apart : bs.contains .lsc = false := by decide) : u.lsc = s.lsc :=
  frame.1.lsc (by simpa using apart)

theorem job_keptByCuts (J : Option Job) : KeptByCuts fun s => s.lsc.job = J where
  entry _ h := h
  roll _ h := h
  assign _ _ _ h := (congrArg Lsc.job (State.lsc_of_affects (State.assignBatch_affects _ _ _ _))).trans h
  told _ h := h
  labels h := (congrArg Lsc.job (State.lsc_of_affects (State.labelWork_affects _))).trans h
  winder _ h := h
  records _ h := h
  events _ h := h
  permit h := h
  allocate _ _ _ _ h := (congrArg Lsc.job (State.lsc_of_affects (State.allocate_affects _ _ _ _))).trans h

theorem State.arrive_job (s : State) (j : Job) (e : WebEvent) : (s.arrive j e).lsc.job = s.lsc.job := by
  unfold State.arrive
  split
  · unfold State.fullArrival
    dsimp only
    split
    · rfl
    · refine (State.raiseCause_job _ _).trans (congrArg Lsc.job ?_)
      refine (State.lsc_of_affects (State.evaluateNip_affects _)).trans ?_
      exact (State.lsc_of_affects (bs := [.rlg]) (State.updateOpenEntry_affects _ _)).trans rfl
  · exact congrArg Lsc.job (State.lsc_of_affects (s.enterEvent_affects j e))

theorem State.openingOccasion_job (s : State) (j : Job) : (s.openingOccasion j).lsc.job = s.lsc.job := by
  unfold State.openingOccasion
  split
  · exact s.arrive_job j _
  · rfl

/-! ### What the running of a job does, for every law -/

/-- A law is kept besides by what the web and the inputs bring about, and by a hold cause: the inputs, the web's counts but for
v, an event's arrival. -/
structure KeptByEvents (P : State → Prop) : Prop extends KeptByCuts P where
  pins : ∀ {s : State} (p : Pins), P s → P { s with pins := p }
  web : ∀ {s : State} {w : Wpu}, w.v = s.wpu.v → P s → P { s with wpu := w }
  arrive : ∀ {s : State} (j : Job) (e : WebEvent), P s → P (s.arrive j e)
  cause : ∀ {s : State} (c : HoldCause), P s → P (s.raiseCause c)

/-- A law is kept besides by what else the commands that may fire a cut or end a job do: the emptied track, the return to READY,
the labels of a doff and a release. -/
structure KeptByRuns (P : State → Prop) : Prop extends KeptByEvents P where
  empty : ∀ {s : State}, P s → P s.emptyTrack
  returned : ∀ {s : State}, s.lsc.job.isSome = true → P s → P s.returnToReady
  withdraw : ∀ {s : State} (seq : BitVec 32), P s → P (s.withdrawLabel seq)
  unattach : ∀ {s : State} (seq : BitVec 32), P s → P (s.unattachSent seq)
  release : ∀ {s : State} (n : BitVec 32), P s → P { s with rlg := s.rlg.release n }

section
variable {P : State → Prop} {s : State}

theorem KeptByRuns.finishJob (kept : KeptByRuns P) {j : Job} (job : s.lsc.job = some j) (aborted : Bool) (h : P s) :
    P (s.finishJob j aborted) := by
  have inForce := job_keptByCuts (some j)
  have last : (s.endLast j aborted).lsc.job = some j := inForce.endLast j aborted job
  have folded : ((s.endLast j aborted).foldRemaining ((s.endLast j aborted).knifeAt j)).emptyTrack.lsc.job = some j :=
    inForce.foldRemaining _ last
  refine kept.returned ?_ (kept.examineLog j (kept.empty (kept.foldRemaining _ (kept.endLast j aborted h))))
  rw [show _ = some j from inForce.examineLog j folded]
  rfl

theorem KeptByRuns.tailCheck (kept : KeptByRuns P) {j : Job} (job : s.lsc.job = some j) (h : P s) : P (s.tailCheck j) := by
  unfold State.tailCheck
  split
  · exact kept.finishJob job false h
  · exact h

theorem KeptByRuns.waitingTail (kept : KeptByRuns P) {j : Job} (job : s.lsc.job = some j) (h : P s) :
    P ((s.tryWaiting j).tailCheck j) :=
  kept.tailCheck ((job_keptByCuts (some j)).tryWaiting j job) (kept.tryWaiting j h)

theorem KeptByClosing.updateOpenEntry (kept : KeptByClosing P) {f : Entry → Entry} (keeps : ∀ e, (f e).seq = e.seq)
    (h : P s) : P (s.updateOpenEntry f) := by
  unfold State.updateOpenEntry
  split
  · exact h
  · exact kept.entry (fun e he => (keeps e).trans he) h

theorem KeptByEvents.checkOverlength (kept : KeptByEvents P) (j : Job) (h : P s) : P (s.checkOverlength j) := by
  unfold State.checkOverlength
  split
  · exact kept.cause _ (kept.winder _ h)
  · exact h

theorem KeptByEvents.refuseCut (kept : KeptByEvents P) (j : Job) (c : CutPlan) (d : Count) (why : RefusalCause) (h : P s) :
    P (s.refuseCut j c d why) := by
  unfold State.refuseCut
  dsimp only
  refine kept.judgeSplices j (kept.checkOverlength j ?_)
  have flagged := kept.updateOpenEntry (f := fun e => { e with flags := { e.flags with overlength := true } })
    (fun _ => rfl) h
  split
  · exact kept.winder _ (kept.winder _ flagged)
  · exact kept.winder _ (kept.winder _ flagged)

theorem KeptByEvents.takeCut (kept : KeptByEvents P) (j : Job) (c : CutPlan) (d : Count) (p : Option PointName) (h : P s) :
    P (s.takeCut j c d p) := by
  unfold State.takeCut
  split
  next fires => exact kept.fireCut j d p _ (State.room_of_cutFails fires) h
  next why _ => exact kept.refuseCut j c d why h

theorem State.checkOverlength_job (s : State) (j : Job) : (s.checkOverlength j).lsc.job = s.lsc.job := by
  unfold State.checkOverlength
  split
  · exact State.raiseCause_job _ _
  · rfl

theorem State.takeCut_job (s : State) (j : Job) (c : CutPlan) (d : Count) (p : Option PointName) :
    (s.takeCut j c d p).lsc.job = s.lsc.job := by
  have inForce := job_keptByCuts s.lsc.job
  unfold State.takeCut
  split
  next fires => exact inForce.fireCut j d p _ (State.room_of_cutFails fires) rfl
  next =>
    unfold State.refuseCut
    dsimp only
    refine inForce.judgeSplices j ((State.checkOverlength_job _ j).trans ?_)
    have flagged := inForce.updateOpenEntry (s := s) (f := fun e => { e with flags := { e.flags with overlength := true } })
      (fun _ => rfl) rfl
    split
    · exact flagged
    · exact flagged

theorem KeptByEvents.openingOccasion (kept : KeptByEvents P) (j : Job) (h : P s) : P (s.openingOccasion j) := by
  unfold State.openingOccasion
  split
  · exact kept.arrive j _ h
  · exact h

theorem KeptByRuns.advance (kept : KeptByRuns P) (h : P s) : P s.advance := by
  have moved : P { s with wpu := { s.wpu with h := s.wpu.w, reversed := false } } := kept.web rfl h
  refine withJob_keeps moved fun j job => ?_
  dsimp only
  split
  · exact kept.waitingTail ((State.openingOccasion_job _ j).trans job) (kept.openingOccasion j moved)
  · exact kept.waitingTail job moved

theorem KeptByRuns.takeDoff (kept : KeptByRuns P) (k : Spindle) (h : P s) : P (s.takeDoff k) := by
  unfold State.takeDoff
  dsimp only
  split
  · have emptied : P (s.putSpindle k .empty) := kept.putSpindle k _ h
    have doffed : ∀ u, P u → P (u.withJob fun j => (u.tryWaiting j).tailCheck j) := fun u hu =>
      withJob_keeps hu fun j job => kept.waitingTail job hu
    split
    · exact doffed _ (kept.doffEntry (fun _ seq hu => kept.withdraw seq hu) (fun _ seq hu => kept.unattach seq hu) _
        emptied)
    · exact doffed _ emptied
  all_goals exact h

theorem KeptByRuns.takeRelease (kept : KeptByRuns P) (n : BitVec 32) (h : P s) : P (s.takeRelease n) := by
  unfold State.takeRelease
  dsimp only
  split
  · exact kept.release n h
  · exact withJob_keeps (kept.release n h) fun j job => kept.waitingTail job (kept.release n h)

theorem KeptByRuns.prepareTail (kept : KeptByRuns P) (h : P s) : P s.prepareTail := by
  unfold State.prepareTail
  split
  · exact h
  · split
    · exact kept.winder _ h
    · exact kept.permit (kept.winder _ h)

theorem State.prepareTail_job (s : State) : s.prepareTail.lsc.job = s.lsc.job := by
  unfold State.prepareTail
  split
  · rfl
  · split <;> rfl

theorem KeptByRuns.takeEnd (kept : KeptByRuns P) {j : Job} (job : s.lsc.job = some j) (ending : P (s.setLineState .ending)) :
    P (s.takeEnd j) := by
  have inForce : ((s.setLineState .ending).prepareTail).lsc.job = some j :=
    (State.prepareTail_job _).trans ((s.setLineState_job .ending).trans job)
  exact kept.tailCheck inForce (kept.prepareTail ending)

/-! ### The commands that may fire a cut or end a job -/

theorem KeptByRuns.encoderTransition (kept : KeptByRuns P) {line : EncoderLine} (h : P s) :
    ∃ u, exec (.encoderTransition line) s = .next u.endOfEvent ∧ P u := by
  have moved : P { s with pins := flipLine s.pins line, wpu := s.wpu.move (forwardChange s.pins line) } :=
    kept.web (s := { s with pins := flipLine s.pins line }) rfl (kept.pins _ h)
  refine ⟨_, rfl, ?_⟩
  split
  · exact kept.advance moved
  · split
    · exact kept.web rfl moved
    · exact moved

theorem KeptByRuns.stoppedFlagSet (kept : KeptByRuns P) (h : P s) :
    ∃ u, exec .stoppedFlagSet s = .next u.endOfEvent ∧ P u := by
  refine ⟨_, rfl, ?_⟩
  split
  · exact h
  · have stopped : P { s with wpu := { s.wpu with stopped := true, stoppedTime := Config.stoppedLimit } } := kept.web rfl h
    exact withJob_keeps stopped fun j job => kept.tailCheck job stopped

theorem KeptByCuts.recordFold (kept : KeptByCuts P) (h : P s) : ∃ u, exec .recordFold s = .next u.endOfEvent ∧ P u := by
  refine ⟨_, rfl, withJob_keeps h fun j _ => ?_⟩
  split
  · exact kept.foldHead j h
  · exact h

theorem KeptByRuns.cutDue (kept : KeptByRuns P) (h : P s) : ∃ u, exec .cutDue s = .next u.endOfEvent ∧ P u := by
  refine ⟨_, rfl, withJob_keeps h fun j job => ?_⟩
  split
  · exact kept.tailCheck (s.takeCut_job j _ _ _ |>.trans job) (kept.takeCut j _ _ _ h)
  · exact h

theorem KeptByRuns.doff (kept : KeptByRuns P) {k : Spindle} (h : P s) :
    ∃ u, exec (.doff k) s = .next u.endOfEvent ∧ P u := ⟨_, rfl, kept.takeDoff k h⟩

/-- An operation that keeps a law keeps it to the end of its event. -/
theorem ReadsOnly.ends {R : List Block} (reads : ReadsOnly R P) {c : Instr} {t : State}
    (keeps : ∃ u, exec c s = .next u.endOfEvent ∧ P u) (runs : exec c s = .next t) : P t := by
  obtain ⟨u, runs', hu⟩ := keeps
  cases runs'.symm.trans runs
  exact reads.endOfEvent hu

theorem answerWithJob_keeps {f : Job → Answer} (h : P s) (k : ∀ j, s.lsc.job = some j → P (f j).1) :
    P (s.answerWithJob f).1 := by
  unfold State.answerWithJob
  split
  · exact h
  · exact k _ ‹_›

theorem KeptByRuns.abortJob (kept : KeptByRuns P) (h : P s) : P (abortJobService.act s).1 := by
  simp only [abortJobService]
  split
  · refine answerWithJob_keeps h fun j job => ?_
    rw [done_fst]
    exact kept.finishJob job true h
  · exact h

theorem KeptByRuns.releaseEntries (kept : KeptByRuns P) (n : BitVec 32) (h : P s) : P ((releaseService n).act s).1 := by
  rw [releaseService, done_fst]
  exact kept.takeRelease n h

/-- END_JOB in RUN and HOLD (R186). -/
theorem KeptByRuns.endJob (kept : KeptByRuns P)
    (ending : s.lsc.lineState = .run ∨ s.lsc.lineState = .hold → P (s.setLineState .ending)) (h : P s) :
    P (endJobService.act s).1 := by
  simp only [endJobService]
  split
  next line =>
    simp only [Bool.or_eq_true, decide_eq_true_eq] at line
    refine answerWithJob_keeps h fun j job => ?_
    rw [done_fst]
    exact kept.takeEnd job (ending line)
  next => exact h

end

end Sys2Proof.Machine
end

section
/-! PROOFS. The batch table: codes and their order (R153), what each operation leaves of an entry, and the law of the batch
table (O10). -/

namespace Sys2Proof.Machine

-- one proof at a time: the joined package would else open a thread for each of them
set_option Elab.async false

/-! ### Codes (R153) -/

theorem nextOf_eq_codeAfter (code : Nat) : nextOf code = codeAfter code := rfl

theorem codeAfter_range {code : Nat} (low : 1 ≤ code) (high : code ≤ 9999) : 1 ≤ codeAfter code ∧ codeAfter code ≤ 9999 := by
  unfold codeAfter
  split <;> omega

theorem codeOn_succ (start n : Nat) : codeOn start (n + 1) = codeOn (nextOf start) n := by
  induction n with
  | zero => rfl
  | succ n ih => exact congrArg nextOf ih

/-- Counting on from a code: up to 9,999, and then from 1. -/
theorem codeOn_eq (start : Nat) {n : Nat} (h : n ≤ 9999) :
    codeOn start n = if n ≤ 9999 - start then start + n else n - (9999 - start) := by
  induction n with
  | zero => rfl
  | succ n ih =>
    have below : n ≤ 9999 := Nat.le_of_succ_le h
    rw [codeOn, ih below]
    unfold nextOf
    split <;> split <;> split <;> omega

theorem codeOn_distinct (start : Nat) {m n : Nat} (lt : m < n) (h : n ≤ 33) : codeOn start m ≠ codeOn start n := by
  rw [codeOn_eq start (by omega), codeOn_eq start (by omega)]
  split <;> split <;> omega

theorem Bat.holds_iff (b : Bat) (code : Nat) : b.holds code = true ↔ Held b code := by
  simp only [Bat.holds, List.any_eq_true, Vector.mem_toList_iff, Vector.mem_iff_getElem, Option.any_eq_true, beq_iff_eq, Held]
  constructor
  · rintro ⟨e, ⟨i, hi, rfl⟩, x, hx, code⟩
    exact ⟨⟨i, hi⟩, x, hx, code⟩
  · rintro ⟨i, x, hx, code⟩
    exact ⟨_, ⟨i.val, i.isLt, rfl⟩, x, hx, code⟩

/-- Of 33 codes in a row the 32 entries leave one unheld. -/
theorem exists_not_held (b : Bat) (start : Nat) : ∃ n, n < 33 ∧ ¬Held b (codeOn start n) := by
  refine Classical.byContradiction fun all => ?_
  have held : ∀ n : Fin 33, Held b (codeOn start n.val) := fun n =>
    Classical.byContradiction fun free => all ⟨n.val, n.isLt, free⟩
  obtain ⟨holder, holds⟩ := Classical.axiomOfChoice held
  have apart : ∀ m n : Fin 33, m < n → holder m ≠ holder n := fun m n less same => by
    obtain ⟨x, at_m, code_m⟩ := holds m
    obtain ⟨y, at_n, code_n⟩ := holds n
    rw [same, at_n] at at_m
    cases at_m
    exact codeOn_distinct start less (by omega) (code_m.symm.trans code_n)
  have distinct : ((List.finRange 33).map holder).Nodup := (List.pairwise_lt_finRange 33).map holder apart
  have fits := distinct.length_le_of_subset fun i _ => List.mem_finRange i
  rw [List.length_map, List.length_finRange, List.length_finRange] at fits
  omega

/-- The search looks at one code after another until one is free. -/
theorem Bat.freeCode_eq (b : Bat) {n k : Nat} (start : Nat) (before : ∀ m, m < k → Held b (codeOn start m))
    (free : ¬Held b (codeOn start k)) (far : k < n) : b.freeCode n start = codeOn start k := by
  induction n generalizing k start with
  | zero => cases far
  | succ n ih =>
    unfold Bat.freeCode
    cases k with
    | zero =>
      rw [if_neg (fun h => free ((b.holds_iff start).mp h))]
      rfl
    | succ k =>
      have first : Held b start := before 0 (Nat.succ_pos k)
      rw [if_pos ((b.holds_iff start).mpr first)]
      rw [codeOn_succ, ← nextOf_eq_codeAfter]
      refine ih (nextOf start) (fun m lt => ?_) (codeOn_succ start k ▸ free) (Nat.lt_of_succ_lt_succ far)
      rw [← codeOn_succ]
      exact before (m + 1) (Nat.succ_lt_succ lt)

/-- Of the numbers with a property there is a first. -/
theorem exists_first {p : Nat → Prop} {n : Nat} (some_ : p n) : ∃ k, k ≤ n ∧ p k ∧ ∀ m, m < k → ¬p m := by
  induction n using Nat.strongRecOn with
  | _ n ih =>
    by_cases earlier : ∃ m, m < n ∧ p m
    · obtain ⟨m, less, here⟩ := earlier
      obtain ⟨k, near, first⟩ := ih m less here
      exact ⟨k, Nat.le_trans near (Nat.le_of_lt less), first⟩
    · exact ⟨n, Nat.le_refl n, some_, fun m less here => earlier ⟨m, less, here⟩⟩

/-- The code found is the first that no entry holds. -/
theorem Bat.freeCode_firstUnheld (b : Bat) (start : Nat) : FirstUnheld b start (b.freeCode 33 start) := by
  obtain ⟨n, near, some_free⟩ := exists_not_held b start
  obtain ⟨k, less, free, first⟩ := exists_first (p := fun n => ¬Held b (codeOn start n)) some_free
  have before : ∀ m, m < k → Held b (codeOn start m) := fun m less => Classical.not_not.mp (first m less)
  have found : b.freeCode 33 start = codeOn start k := b.freeCode_eq start before free (by omega)
  exact ⟨k, found, found ▸ free, before⟩

theorem Bat.freeCode_range (b : Bat) (n : Nat) {code : Nat} (low : 1 ≤ code) (high : code ≤ 9999) :
    1 ≤ b.freeCode n code ∧ b.freeCode n code ≤ 9999 := by
  induction n generalizing code with
  | zero => exact ⟨low, high⟩
  | succ n ih =>
    unfold Bat.freeCode
    split
    · exact ih (codeAfter_range low high).1 (codeAfter_range low high).2
    · exact ⟨low, high⟩

theorem Bat.freeCode_free (b : Bat) (start : Nat) : ¬Held b (b.freeCode 33 start) := by
  obtain ⟨_, -, free, -⟩ := b.freeCode_firstUnheld start
  exact free

/-! ### Entries after an operation -/

theorem Bat.entries_put (b : Bat) (i k : Fin 32) (e : BatchEntry) :
    (b.put i e).entries[k] = if k = i then e else b.entries[k] := by
  simp only [Bat.put, Fin.getElem_fin, Vector.getElem_set]
  by_cases same : k = i
  · subst same
    simp
  · have : i.val ≠ k.val := fun h => same (Fin.ext h.symm)
    simp [same, this]

/-- A table whose entries keep their codes, with the next code and the line batch as they were or in order. -/
structure Bat.Lawful (b : Bat) : Prop where
  next : 1 ≤ b.nextCode ∧ b.nextCode ≤ 9999
  codes : ∀ i : Fin 32, ∀ x, b.entries[i].batch = some x → 1 ≤ x.code ∧ x.code ≤ 9999
  distinct : ∀ i k : Fin 32, ∀ x y, b.entries[i].batch = some x → b.entries[k].batch = some y → x.code = y.code → i = k
  line : ∀ i, b.lineBatch = some i → (b.entries[i].batch.any Batch.isOpen) = true

theorem batchLaw_iff (s : State) : BatchLaw s ↔ s.bat.Lawful :=
  ⟨fun ⟨next, codes, distinct, line⟩ => ⟨next, codes, distinct, line⟩, fun h => ⟨h.next, h.codes, h.distinct, h.line⟩⟩

section
variable {b : Bat}

/-- Entry i written with a batch under a code that no other entry holds. -/
theorem Bat.Lawful.put (law : b.Lawful) (i : Fin 32) {e : BatchEntry} {x : Batch} (batch : e.batch = some x)
    (range : 1 ≤ x.code ∧ x.code ≤ 9999) (alone : ∀ k y, b.entries[k].batch = some y → y.code = x.code → k = i)
    (line : b.lineBatch = some i → x.isOpen = true) : (b.put i e).Lawful := by
  have entry : ∀ (k : Fin 32) y, (b.put i e).entries[k].batch = some y → k = i ∧ y = x ∨ k ≠ i ∧ b.entries[k].batch = some y := by
    intro k y hy
    rw [Bat.entries_put] at hy
    split at hy
    next same => exact .inl ⟨same, Option.some.inj (hy.symm.trans batch)⟩
    next other => exact .inr ⟨other, hy⟩
  refine ⟨law.next, fun k y hy => ?_, fun k l y z hy hz same => ?_, fun k hk => ?_⟩
  · rcases entry k y hy with ⟨-, rfl⟩ | ⟨-, held⟩
    · exact range
    · exact law.codes k y held
  · rcases entry k y hy with ⟨rfl, rfl⟩ | ⟨-, first⟩ <;> rcases entry l z hz with ⟨rfl, rfl⟩ | ⟨-, second⟩
    · rfl
    · exact (alone l z second same.symm).symm
    · exact alone k y first same
    · exact law.distinct k l y z first second same
  · rw [Bat.entries_put]
    split
    next same =>
      subst same
      simpa [batch] using line hk
    next => exact law.line k hk

/-- Items in no law. -/
theorem Bat.Lawful.withLine (law : b.Lawful) {l : Option (Fin 32)}
    (line : ∀ i, l = some i → (b.entries[i].batch.any Batch.isOpen) = true) (a : Option Assignment) (n : Nat) :
    Bat.Lawful { b with lineBatch := l, lastAssign := a, overflows := n } :=
  ⟨law.next, law.codes, law.distinct, line⟩

/-- An entry's own code is held by no other. -/
theorem Bat.Lawful.alone (law : b.Lawful) {i : Fin 32} {x : Batch} (h : b.entries[i].batch = some x) :
    ∀ k y, b.entries[k].batch = some y → y.code = x.code → k = i := fun k y hy same => law.distinct k i y x hy h same

theorem Bat.Lawful.close (law : b.Lawful) (i : Fin 32) : (b.close i).Lawful := by
  unfold Bat.close
  split
  next x held =>
    split
    next isOpen =>
      have absent : ({ b with lineBatch := if b.lineBatch = some i then none else b.lineBatch } : Bat).Lawful :=
        law.withLine (fun k hk => by
          split at hk
          · cases hk
          · exact law.line k hk) _ _
      refine absent.put i rfl (law.codes i x held) (fun k y hy same => law.alone held k y hy same) fun line => ?_
      dsimp only at line
      split at line
      · cases line
      · contradiction
    next => exact law
  next => exact law

theorem Bat.Lawful.applyLimit (law : b.Lawful) (i : Fin 32) (limit : Nat) : (b.applyLimit i limit).Lawful := by
  unfold Bat.applyLimit
  split
  · exact law.close i
  · exact law

theorem Bat.any_isOpen_put {i : Fin 32} {e : BatchEntry} {x : Batch} (batch : e.batch = some x) (isOpen : x.isOpen = true) :
    ((b.put i e).entries[i].batch.any Batch.isOpen) = true := by
  rw [Bat.entries_put, if_pos rfl, batch]
  exact isOpen

theorem Bat.Lawful.join (law : b.Lawful) {i : Fin 32} {x : Batch} (held : b.entries[i].batch = some x)
    (isOpen : x.isOpen = true) (roll : Nat) : (b.join i x roll).Lawful := by
  have written := law.put i (e := { b.entries[i] with batch := some { x with count := x.count + 1 }, used := true }) rfl
    (law.codes i x held) (fun k y hy same => law.alone held k y hy same) fun _ => isOpen
  exact written.withLine (fun k hk => Option.some.inj hk ▸ Bat.any_isOpen_put rfl isOpen) _ _

theorem Bat.Lawful.openWith (law : b.Lawful) (i : Fin 32) (roll : Nat) (mean : Shade) : (b.openWith i roll mean).Lawful := by
  have range := b.freeCode_range 33 law.next.1 law.next.2
  have written := law.put i
    (e := { batch := some { isOpen := true, code := b.freeCode 33 b.nextCode, ref := mean, count := 1, pinned := false },
            used := true, changed := true }) rfl range
    (fun k y hy same => absurd ⟨k, y, hy, same⟩ (b.freeCode_free b.nextCode)) fun _ => rfl
  have after := codeAfter_range range.1 range.2
  exact ⟨Bat.freeCode_range _ 33 after.1 after.2, written.codes, written.distinct,
    fun k hk => Option.some.inj hk ▸ Bat.any_isOpen_put rfl rfl⟩

/-- Entries that are freed leave the law, the line batch's entry being OPEN still. -/
theorem Bat.Lawful.of_kept (law : b.Lawful) {c : Bat}
    (kept : ∀ (k : Fin 32) x, c.entries[k].batch = some x → b.entries[k].batch = some x) (next : c.nextCode = b.nextCode)
    (line : c.lineBatch = b.lineBatch)
    (opened : ∀ k : Fin 32, (b.entries[k].batch.any Batch.isOpen) = true → (c.entries[k].batch.any Batch.isOpen) = true) :
    c.Lawful :=
  ⟨next ▸ law.next, fun i x h => law.codes i x (kept i x h),
    fun i k x y hx hy => law.distinct i k x y (kept i x hx) (kept k y hy), fun i h => opened i (law.line i (line ▸ h))⟩

/-- Marks alone are in no law. -/
theorem Bat.Lawful.remark (law : b.Lawful) {c : Bat} (batches : ∀ k : Fin 32, c.entries[k].batch = b.entries[k].batch)
    (next : c.nextCode = b.nextCode) (line : c.lineBatch = b.lineBatch) : c.Lawful :=
  law.of_kept (fun k _ h => batches k ▸ h) next line fun k h => (batches k).symm ▸ h

theorem Bat.Lawful.clearMarks (law : b.Lawful) (i : Fin 32) : (b.clearMarks i).Lawful := by
  refine law.remark (fun k => ?_) rfl rfl
  unfold Bat.clearMarks
  rw [Bat.entries_put]
  split
  next same => rw [same]
  next => rfl

theorem Bat.Lawful.afterReport (law : b.Lawful) : b.afterReport.Lawful := by
  unfold Bat.afterReport
  generalize b.marked.take 16 = l
  induction l generalizing b with
  | nil => exact law
  | cons i l ih => exact ih (law.clearMarks i)

theorem Bat.entries_purge (b : Bat) (first last : Nat) (pinned : Bool) (k : Fin 32) :
    (b.purge first last pinned).entries[k] =
      if (decide (first ≤ k.val) && decide (k.val ≤ last) && b.entries[k].purgeable pinned) = true then
        { b.entries[k] with batch := none, changed := true } else b.entries[k] := by
  simp only [Bat.purge, Fin.getElem_fin, Vector.getElem_ofFn]

theorem Bat.Lawful.purge (law : b.Lawful) (first last : Nat) (pinned : Bool) : (b.purge first last pinned).Lawful := by
  have kept : ∀ (k : Fin 32) x, (b.purge first last pinned).entries[k].batch = some x → b.entries[k].batch = some x := by
    intro k x
    rw [Bat.entries_purge]
    split
    · intro absent
      cases absent
    · exact id
  refine law.of_kept kept (by simp only [Bat.purge]) (by simp only [Bat.purge]) fun i isOpen => ?_
  obtain ⟨x, held, opened⟩ := (Option.any_eq_true _ _).mp isOpen
  have stays : b.entries[i].purgeable pinned = false := by
    unfold BatchEntry.purgeable
    rw [held]
    simp [opened]
  rw [Bat.entries_purge, stays, if_neg (by simp)]
  exact isOpen

theorem Bat.holder_none {code : Nat} (none : b.holder code = none) : ¬Held b code := by
  rintro ⟨i, x, held, same⟩
  have refused := List.find?_eq_none.mp none i (List.mem_finRange i)
  rw [held] at refused
  exact refused (beq_iff_eq.mpr same)

theorem Bat.holder_some {code : Nat} {i : Fin 32} (found : b.holder code = some i) :
    ∃ x, b.entries[i].batch = some x ∧ x.code = code := by
  simpa [Option.any_eq_true] using List.find?_some found

theorem Bat.Lawful.pin (law : b.Lawful) {code : Nat} (range : 1 ≤ code ∧ code ≤ 9999) {i : Fin 32}
    (target : b.pinTarget code = some i) (ref : Shade) : (b.put i (pinEntry b.entries[i] code ref)).Lawful := by
  refine law.put i rfl range (fun k y held same => ?_) fun _ => rfl
  unfold Bat.pinTarget at target
  cases holder : b.holder code with
  | none => exact absurd ⟨k, y, held, same⟩ (Bat.holder_none holder)
  | some h =>
    rw [holder] at target
    cases target
    obtain ⟨x, held', same'⟩ := Bat.holder_some holder
    exact law.distinct k _ y x held held' (same.trans same'.symm)

end

/-! ### The law of the batch table -/

theorem batchLaw_reads : ReadsOnly [.bat] BatchLaw where
  congr same h := by
    have := same .bat (List.mem_singleton_self _)
    rw [batchLaw_iff] at h ⊢
    exact (show _ = _ from this) ▸ h
  links := by decide
  queue := by decide

theorem Bat.firstMatch_some {b : Bat} {tol2 : Nat} {mean : Shade} {i : Fin 32} (found : b.firstMatch tol2 mean = some i) :
    ∃ x, b.entries[i].batch = some x ∧ x.isOpen = true ∧ shadeDist2 mean x.ref ≤ tol2 := by
  simpa [Option.any_eq_true] using List.find?_some found

section
variable {s : State}

/-- A law of the table alone after an assignment that has joined or opened an entry. -/
theorem settleAssign_batchLaw (j : Job) {b : Bat} (law : b.Lawful) (i : Fin 32) (opened : Bool) :
    BatchLaw (s.settleAssign j b i opened) := by
  unfold State.settleAssign
  refine batchLaw_reads.frame (State.reportLineBatch_affects _ _) rfl ?_
  have limited : BatchLaw ({ s with bat := b.applyLimit i j.rollsPerBatch } : State) :=
    (batchLaw_iff _).mpr (law.applyLimit i _)
  split
  · exact limited
  · exact limited

theorem assignBatch_batchLaw (j : Job) (roll : Nat) (mean : Shade) (h : BatchLaw s) :
    BatchLaw (s.assignBatch j roll mean).1 := by
  have law := (batchLaw_iff s).mp h
  unfold State.assignBatch
  split
  next i found =>
    obtain ⟨x, held, isOpen, -⟩ := Bat.firstMatch_some found
    simp only [held]
    exact settleAssign_batchLaw j (law.join held isOpen roll) i false
  next =>
    split
    next i _ => exact settleAssign_batchLaw j (law.openWith i roll mean) i true
    next => exact (batchLaw_iff _).mpr (law.withLine law.line _ _)

theorem batchLaw_keptByRuns : KeptByRuns BatchLaw where
  entry _ h := batchLaw_reads.frame (State.updateEntry_affects _ _ _) rfl h
  roll _ h := h
  assign j roll mean h := assignBatch_batchLaw j roll mean h
  told _ h := h
  labels h := batchLaw_reads.frame (State.labelWork_affects _) rfl h
  winder _ h := h
  records _ h := h
  events _ h := h
  permit h := h
  allocate _ _ _ _ h := batchLaw_reads.frame (State.allocate_affects _ _ _ _) rfl h
  pins _ h := h
  web _ h := h
  arrive j e h := batchLaw_reads.frame (State.arrive_affects _ j e) rfl h
  cause c h := batchLaw_reads.frame (State.raiseCause_affects _ c) rfl h
  empty h := h
  returned _ h := batchLaw_reads.frame (State.returnToReady_affects _) rfl h
  withdraw seq h := batchLaw_reads.frame (State.withdrawLabel_affects _ seq) rfl h
  unattach seq h := batchLaw_reads.frame (State.unattachSent_affects _ seq) rfl h
  release _ h := h

theorem takeStart_batchLaw (j : Job) (h : BatchLaw s) : BatchLaw (s.takeStart j) := by
  have law := (batchLaw_iff s).mp h
  have atStart : ((s.startBlocks j)).bat = s.bat.atStart := by
    unfold State.startBlocks
    exact (State.leadIn_affects _ j).1.bat (by decide)
  have blocks : BatchLaw (s.startBlocks j) := by
    rw [batchLaw_iff, atStart]
    refine law.withLine (l := none) (fun _ absent => ?_) _ _
    cases absent
  have opening : BatchLaw (State.openingOccasion
      (({ s.startBlocks j with lsc := { (s.startBlocks j).lsc with runPermit := true } } : State).setLineState .run) j) :=
    batchLaw_reads.frame (State.openingOccasion_affects _ j) rfl
      (batchLaw_reads.frame (State.setLineState_affects _ _) rfl blocks)
  have examined : ∀ {u : State} (c : HoldCause), BatchLaw u → BatchLaw (u.examine c) := fun {u} c hu =>
    batchLaw_reads.frame (u.examine_affects c) rfl hu
  have first := examined .overspeed (examined .encoder opening)
  have second := examined .printerOffline (examined .headOffline first)
  exact second

theorem batchLoad_batchLaw (j : Job) (h : BatchLaw s) : BatchLaw (s.batchLoad j) := by
  have limits : ∀ (l : List (Fin 32)) (b : Bat), b.Lawful → (l.foldl (fun b i => b.applyLimit i j.rollsPerBatch) b).Lawful := by
    intro l
    induction l with
    | nil => exact fun _ => id
    | cons i l ih => exact fun b law => ih _ (law.applyLimit i _)
  have limited := limits (List.finRange 32) s.bat ((batchLaw_iff s).mp h)
  unfold State.batchLoad
  dsimp only
  generalize (List.finRange 32).foldl _ s.bat = b at limited
  have table : BatchLaw ({ s with bat := b } : State) := (batchLaw_iff _).mpr limited
  have told : ∀ r : Bool, BatchLaw (if r = true then ({ s with bat := b } : State).raiseNotice .batchChanged
      else { s with bat := b }) := fun r => by
    split <;> exact table
  split
  · exact told _
  · exact batchLaw_reads.frame (State.reportLineBatch_affects _ _) rfl (told _)

theorem takeJob_batchLaw (j : Job) (h : BatchLaw s) : BatchLaw (s.takeJob j) := by
  unfold State.takeJob
  exact batchLaw_reads.frame (State.setLineState_affects _ _) rfl (batchLoad_batchLaw j h)

theorem closeBatchAt_batchLaw (i : Fin 32) (h : BatchLaw s) : BatchLaw (s.closeBatchAt i) := by
  have closed : BatchLaw ({ s with bat := s.bat.close i } : State) := (batchLaw_iff _).mpr (((batchLaw_iff s).mp h).close i)
  unfold State.closeBatchAt
  dsimp only
  split
  · exact batchLaw_reads.frame (State.reportLineBatch_affects _ _) rfl closed
  · exact closed

theorem firstFailing_none {checks : List (Nat × Bool)} (passes : firstFailing checks = none) :
    ∀ c ∈ checks, c.2 = true := by
  induction checks with
  | nil => exact fun _ h => nomatch h
  | cons c cs ih =>
    obtain ⟨n, ok⟩ := c
    cases ok with
    | false => cases passes
    | true => exact fun c hc => (List.mem_cons.mp hc).elim (fun e => e ▸ rfl) (ih passes c)

theorem isBatchCode_iff (code : Nat) : isBatchCode code = true ↔ 1 ≤ code ∧ code ≤ 9999 := by
  simp [isBatchCode, within]

theorem pinAt_batchLaw {code : Nat} (range : 1 ≤ code ∧ code ≤ 9999) {i : Fin 32} (target : s.bat.pinTarget code = some i)
    (ref : Shade) (h : BatchLaw s) : BatchLaw (s.pinAt i code ref) := by
  have pinned : BatchLaw ({ s with bat := s.bat.put i (pinEntry s.bat.entries[i] code ref) } : State) :=
    (batchLaw_iff _).mpr (((batchLaw_iff s).mp h).pin range target ref)
  unfold State.pinAt
  dsimp only
  split
  · exact batchLaw_reads.frame (State.reportLineBatch_affects _ _) rfl pinned
  · exact pinned

/-- What the owners of the requests that meet the table leave of it. -/
theorem request_batchLaw {c : Instr} {l : LinkId} {tag : Byte} {x : Service} (is : requestOf c = some (l, tag, x))
    (meets : ([.bat] : List Block).any (blocksOf c).contains = true) (h : BatchLaw s) : BatchLaw (x.act s).1 := by
  have law := (batchLaw_iff s).mp h
  cases c <;> cases is <;> try contradiction
  case batchReport => exact (batchLaw_iff _).mpr law.afterReport
  case start =>
    simp only [startService]
    split
    · refine answerWithJob_keeps h fun j _ => ?_
      split
      · exact h
      · split
        · exact h
        · rw [done_fst]
          exact takeStart_batchLaw j h
    · exact h
  case endJob => exact batchLaw_keptByRuns.endJob (fun _ => batchLaw_reads.frame (State.setLineState_affects _ _) rfl h) h
  case abortJob => exact batchLaw_keptByRuns.abortJob h
  case releaseEntries => exact batchLaw_keptByRuns.releaseEntries _ h
  case closeBatch =>
    simp only [closeBatchService]
    split
    · split
      · exact h
      · exact closeBatchAt_batchLaw _ h
    · exact h
  case loadJob =>
    simp only [loadJobService]
    split
    · split
      · exact h
      · rw [done_fst]
        exact takeJob_batchLaw _ h
    · exact h
  case pinBatch code _ _ _ =>
    simp only [pinBatchService]
    split
    · exact h
    next passes =>
      have range : isBatchCode code.toNat = true := firstFailing_none passes (1, _) List.mem_cons_self
      split
      · exact h
      next target => exact pinAt_batchLaw ((isBatchCode_iff _).mp range) target _ h
  case purgeBatches =>
    simp only [purgeBatchesService]
    split
    · exact h
    · exact (batchLaw_iff _).mpr (law.purge _ _ _)
  case setBatchCode code =>
    simp only [setBatchCodeService]
    split
    · split
      next range => exact (batchLaw_iff _).mpr ⟨(isBatchCode_iff _).mp range, law.codes, law.distinct, law.line⟩
      next => exact h
    · exact h

theorem operation_batchLaw {c : Instr} {t : State} (is : isOperation c = true)
    (meets : ([.bat] : List Block).any (blocksOf c).contains = true) (h : BatchLaw s) (runs : exec c s = .next t) :
    BatchLaw t := by
  cases c <;> first | contradiction | (rename_i g; cases g <;> contradiction) | refine batchLaw_reads.ends ?_ runs
  case encoderTransition => exact batchLaw_keptByRuns.encoderTransition h
  case stoppedFlagSet => exact batchLaw_keptByRuns.stoppedFlagSet h
  case recordFold => exact batchLaw_keptByRuns.recordFold h
  case cutDue => exact batchLaw_keptByRuns.cutDue h
  case doff => exact batchLaw_keptByRuns.doff h

theorem resetWith_batchLaw (p : Pins) (q : List Instr) : BatchLaw (State.resetWith p q) := by
  have free : ∀ i : Fin 32, (State.resetWith p q).bat.entries[i].batch = none := fun i => by
    simp [State.resetWith, Bat.reset]
  refine (batchLaw_iff _).mpr ⟨by simp [State.resetWith, Bat.reset], fun i x h => ?_, fun i k x y h => ?_, fun i h => ?_⟩
  · rw [free] at h
    cases h
  · rw [free] at h
    cases h
  · cases h

end

/-- Settles O10: each operation on the table keeps its codes in range and apart, and a line batch OPEN. -/
theorem everyStepKeepsBatchLaw : Obligations.EveryStepKeepsBatchLaw := fun _ _ law runs =>
  step_keeps_law batchLaw_reads batchLaw_reads (fun _ h => h) resetWith_batchLaw (fun _ _ _ _ _ is meets h =>
    request_batchLaw is meets h) (fun _ _ _ is meets h runs => operation_batchLaw is meets h runs) (fun _ h => h) law runs

end Sys2Proof.Machine
end

section
/-! PROOFS. The law of the colour head (O12). -/

namespace Sys2Proof.Machine

-- one proof at a time: the joined package would else open a thread for each of them
set_option Elab.async false

/-- What the law of the head reads. -/
def State.headOf (s : State) : Option Measurement × HeadState × Bool := (s.shu.meas, s.shu.head, s.shu.select)

theorem HeadLaw.congr {s u : State} (same : u.headOf = s.headOf) (h : HeadLaw s) : HeadLaw u := by
  simp only [State.headOf, Prod.mk.injEq] at same
  obtain ⟨meas, head, select⟩ := same
  unfold HeadLaw
  rw [meas, head, select]
  exact h

theorem headLaw_reads : ReadsOnly [.shu] HeadLaw where
  congr same h := h.congr (congrArg (fun x : Shu => (x.meas, x.head, x.select)) (same .shu (List.mem_singleton_self _)))
  links := by decide
  queue := by decide

/-- A head that is IDLE or OFFLINE with no measurement in flight. -/
theorem headLaw_of_rest {s : State} (meas : s.shu.meas = none) (acquiring : s.shu.head ≠ .acquiring)
    (reading : s.shu.head ≠ .reading) : HeadLaw s := by
  simp [HeadLaw, meas, acquiring, reading]

section
variable {s : State}

theorem HeadLaw.idle (h : HeadLaw s) (meas : s.shu.meas = none) : s.shu.head ≠ .acquiring ∧ s.shu.head ≠ .reading := by
  have := h.1
  simp only [meas, Option.isSome_none, Bool.false_eq_true, false_iff, not_or] at this
  exact this

theorem HeadLaw.headIdle (n : Nat) : HeadLaw (s.headIdle n) :=
  headLaw_of_rest rfl (by simp [State.headIdle]) (by simp [State.headIdle])

theorem State.updateRecord_headOf (s : State) (index : BitVec 32) (f : RepeatRecord → RepeatRecord) :
    (s.updateRecord index f).headOf = s.headOf := rfl

theorem State.reportLineBatch_headOf (s : State) (b : Option LineBatch) : (s.reportLineBatch b).headOf = s.headOf := by
  unfold State.reportLineBatch
  split <;> rfl

theorem State.addStart_headOf (s : State) (j : Job) (r : RepeatRecord) : (s.addStart j r).headOf = s.headOf := by
  unfold State.addStart
  split <;> rfl

theorem State.headOf_of_affects {bs : List Block} {u : State} (frame : Affects bs s u) (apart : bs.contains .shu = false) :
    u.headOf = s.headOf := by
  have shu : u.shu = s.shu := frame.1.shu (by simpa using apart)
  simp only [State.headOf, shu]

theorem State.assignBatch_headOf (s : State) (j : Job) (roll : Nat) (mean : Shade) :
    (s.assignBatch j roll mean).1.headOf = s.headOf := by
  have settle : ∀ b i o, (s.settleAssign j b i o).headOf = s.headOf := fun b i o => by
    unfold State.settleAssign
    refine (State.reportLineBatch_headOf _ _).trans ?_
    split <;> rfl
  unfold State.assignBatch
  split
  · split
    · exact settle _ _ _
    · rfl
  · split
    · exact settle _ _ _
    · rfl

/-- An origin that is fixed leaves the head as it is. -/
theorem State.fixOrigin_headOf (s : State) (j : Job) (o : Count) (kind : OriginKind) :
    (s.fixOrigin j o kind).headOf = s.headOf := by
  unfold State.fixOrigin State.appendRecord
  refine (State.headOf_of_affects (State.winderAppend_affects _ j _) rfl).trans ?_
  refine (State.headOf_of_affects (State.addWindow_affects _ j _) rfl).trans ?_
  exact State.addStart_headOf _ _ _

theorem HeadLaw.abandon (h : HeadLaw s) : HeadLaw s.abandonMeasurement := by
  unfold State.abandonMeasurement
  split
  · exact h
  · exact HeadLaw.headIdle _

theorem State.returnToReady_shu (s : State) :
    s.returnToReady.shu = { s.registerReturn.embossReturn.abandonMeasurement.shu with starts := [] } := by
  obtain ⟨-, -, -, -, shu, -⟩ := State.leave_spec s.registerReturn.embossReturn.shadeReturn s.returnToReady
    (by simp only [State.returnToReady])
  exact shu

theorem HeadLaw.returned (h : HeadLaw s) : HeadLaw s.returnToReady := by
  have before := (s.registerReturn_affects).comp (ds := [.rlp, .stg, .emb]) s.registerReturn.embossReturn_affects
  have back : HeadLaw s.registerReturn.embossReturn := headLaw_reads.frame before rfl h
  refine back.abandon.congr ?_
  simp only [State.headOf, State.returnToReady_shu]

theorem headLaw_keptByRuns : KeptByRuns HeadLaw where
  entry _ h := h
  roll _ h := h
  assign j roll mean h := h.congr (State.assignBatch_headOf _ j roll mean)
  told _ h := h
  labels h := headLaw_reads.frame (State.labelWork_affects _) rfl h
  winder _ h := h
  records _ h := h
  events _ h := h
  permit h := h
  allocate _ _ _ _ h := headLaw_reads.frame (State.allocate_affects _ _ _ _) rfl h
  pins _ h := h
  web _ h := h
  arrive j e h := headLaw_reads.frame (State.arrive_affects _ j e) rfl h
  cause c h := headLaw_reads.frame (State.raiseCause_affects _ c) rfl h
  empty h := h
  returned _ h := h.returned
  withdraw seq h := headLaw_reads.frame (State.withdrawLabel_affects _ seq) rfl h
  unattach seq h := headLaw_reads.frame (State.unattachSent_affects _ seq) rfl h
  release _ h := h

/-- The head at START: nothing is in flight between jobs. -/
theorem HeadLaw.takeStart (j : Job) (h : HeadLaw s) (meas : s.shu.meas = none) : HeadLaw (s.takeStart j) := by
  obtain ⟨acquiring, reading⟩ := h.idle meas
  have blocks : HeadLaw (s.startBlocks j) := by
    unfold State.startBlocks
    refine headLaw_reads.frame (State.leadIn_affects _ j) rfl ?_
    exact headLaw_of_rest rfl acquiring reading
  have opening : HeadLaw (State.openingOccasion
      (({ s.startBlocks j with lsc := { (s.startBlocks j).lsc with runPermit := true } } : State).setLineState .run) j) :=
    headLaw_reads.frame (State.openingOccasion_affects _ j) rfl
      (headLaw_reads.frame (State.setLineState_affects _ _) rfl blocks)
  have examined : ∀ {u : State} (c : HoldCause), HeadLaw u → HeadLaw (u.examine c) := fun {u} c hu =>
    headLaw_reads.frame (u.examine_affects c) rfl hu
  have first := examined .overspeed (examined .encoder opening)
  have second := examined .printerOffline (examined .headOffline first)
  exact second

/-- A measurement starts for an IDLE head; a busy one goes on. -/
theorem HeadLaw.startPoint (j : Job) (index : BitVec 32) (rest : List (BitVec 32 × Count)) (h : HeadLaw s) :
    HeadLaw (s.startPoint j index rest) := by
  unfold State.startPoint
  dsimp only
  split
  · simp [HeadLaw, State.startMeasurement]
  all_goals exact h

theorem HeadLaw.answers (j : Job) (m : Measurement) : HeadLaw (s.headAnswers j m) := by
  simp [HeadLaw, State.headAnswers]

theorem State.takeVerdict_headOf (s : State) (c : DriftComparison) : (s.takeVerdict c).headOf = s.headOf := by
  unfold State.takeVerdict
  dsimp only
  split
  · exact (State.headOf_of_affects (bs := [.rlg]) (State.updateOpenEntry_affects _ _) rfl).trans rfl
  · rfl
  · rfl

theorem State.offerReading_headOf (s : State) (j : Job) (x : Shade) : (s.offerReading j x).headOf = s.headOf := by
  unfold State.offerReading
  extract_lets window shu u
  have offered : u.headOf = s.headOf := rfl
  split
  · exact offered
  · split
    · exact (State.takeVerdict_headOf u _).trans offered
    · exact offered

theorem State.takeReading_headOf (s : State) (j : Job) (index : BitVec 32) (raw : Shade) :
    (s.takeReading j index raw).headOf = s.headOf := by
  unfold State.takeReading
  dsimp only
  split
  · exact State.offerReading_headOf _ j _
  · rfl

theorem State.takeSmeared_headOf (s : State) (index : BitVec 32) : (s.takeSmeared index).headOf = s.headOf := by
  unfold State.takeSmeared
  split <;> rfl

/-- A read that ends a measurement leaves the head IDLE, with nothing in flight. -/
theorem HeadLaw.readDone (j : Job) (raw : Shade) (h : HeadLaw s) : HeadLaw (s.readDone j raw) := by
  unfold State.readDone
  dsimp only
  split
  · split
    · exact HeadLaw.congr (State.takeSmeared_headOf _ _) (HeadLaw.headIdle 0)
    · exact HeadLaw.congr (State.takeReading_headOf _ j _ _) (HeadLaw.headIdle 0)
  next other =>
    refine ⟨h.1, h.2.1, fun is => ?_⟩
    obtain ⟨m, some⟩ := Option.isSome_iff_exists.mp (h.1.mpr (.inr is))
    exact (other m is some).elim

theorem HeadLaw.timedOut (m : Measurement) : HeadLaw (s.headTimedOut m) := by
  unfold State.headTimedOut
  dsimp only
  split
  · exact headLaw_of_rest rfl (by simp) (by simp)
  · refine headLaw_reads.frame (State.raiseCause_affects _ _) rfl ?_
    exact headLaw_of_rest rfl (by simp [State.raiseNotice]) (by simp [State.raiseNotice])

theorem HeadLaw.fixOrigin (j : Job) (o : Count) (k : OriginKind) (h : HeadLaw s) : HeadLaw (s.fixOrigin j o k) :=
  h.congr (s.fixOrigin_headOf j o k)

theorem HeadLaw.referenceExpiry (j : Job) (h : HeadLaw s) : HeadLaw (s.referenceExpiry j) := by
  unfold State.referenceExpiry
  dsimp only
  split
  · exact h
  · refine HeadLaw.fixOrigin j _ _ ?_
    split
    · exact h
    · exact headLaw_reads.frame (State.refLost_affects _ _) rfl h

theorem HeadLaw.reacquisitionExpiry (j : Job) (h : HeadLaw s) : HeadLaw (s.reacquisitionExpiry j) := by
  unfold State.reacquisitionExpiry
  split
  · exact h
  · exact h.fixOrigin j _ _

theorem HeadLaw.takeExpiry (j : Job) (h : HeadLaw s) : HeadLaw (s.takeExpiry j) := by
  unfold State.takeExpiry
  split
  · split
    · exact h.referenceExpiry j
    · exact h.referenceExpiry j
    · exact h.reacquisitionExpiry j
    · exact h
  · exact h

theorem HeadLaw.takeEdge (j : Job) (x : Count) (h : HeadLaw s) : HeadLaw (s.takeEdge j x) := by
  have expired := h.takeExpiry j
  unfold State.takeEdge
  dsimp only
  split
  · exact HeadLaw.congr (State.fixOrigin_headOf _ j x .marked) expired
  · exact headLaw_reads.frame (State.otherEdge_affects _ j x) rfl expired

/-- The requests that meet the head. -/
theorem request_headLaw {c : Instr} {l : LinkId} {tag : Byte} {x : Service} (is : requestOf c = some (l, tag, x))
    (meets : ([.shu] : List Block).any (blocksOf c).contains = true) (rest : RestLaw s) (h : HeadLaw s) :
    HeadLaw (x.act s).1 := by
  cases c <;> cases is <;> try contradiction
  case shadeStatus => exact h
  case headReset =>
    simp only [headResetService, done_fst]
    split
    next offline =>
      refine headLaw_of_rest (s := { s with shu := _ }) ?_ (by simp) (by simp)
      have := h.1
      simpa [offline] using this
    next => exact h
  case start =>
    simp only [startService]
    split
    next ready =>
      refine answerWithJob_keeps h fun j _ => ?_
      split
      · exact h
      · split
        · exact h
        · rw [done_fst]
          obtain ⟨-, -, -, -, -, -, -, -, -, -, -, meas, -⟩ := rest (by simp [State.running, ready])
          exact h.takeStart j meas
    next => exact h
  case endJob => exact headLaw_keptByRuns.endJob (fun _ => headLaw_reads.frame (State.setLineState_affects _ _) rfl h) h
  case abortJob => exact headLaw_keptByRuns.abortJob h
  case releaseEntries => exact headLaw_keptByRuns.releaseEntries _ h
  case closeBatch =>
    simp only [closeBatchService]
    split
    · split
      · exact h
      · rw [done_fst]
        unfold State.closeBatchAt
        dsimp only
        split
        · exact HeadLaw.congr (State.reportLineBatch_headOf _ _) h
        · exact h
    · exact h
  case loadJob =>
    simp only [loadJobService]
    split
    · split
      · exact h
      · rw [done_fst]
        unfold State.takeJob State.batchLoad
        refine headLaw_reads.frame (State.setLineState_affects _ _) rfl ?_
        dsimp only
        split
        · split <;> exact h
        · refine HeadLaw.congr (State.reportLineBatch_headOf _ _) ?_
          split <;> exact h
    · exact h
  case pinBatch =>
    simp only [pinBatchService]
    split
    · exact h
    · split
      · exact h
      · rw [done_fst]
        unfold State.pinAt
        dsimp only
        split
        · exact HeadLaw.congr (State.reportLineBatch_headOf _ _) h
        · exact h

theorem operation_headLaw {c : Instr} {t : State} (is : isOperation c = true)
    (meets : ([.shu] : List Block).any (blocksOf c).contains = true) (h : HeadLaw s) (runs : exec c s = .next t) :
    HeadLaw t := by
  cases c <;> first | contradiction | (rename_i g; cases g <;> contradiction) | refine headLaw_reads.ends ?_ runs
  case encoderTransition => exact headLaw_keptByRuns.encoderTransition h
  case stoppedFlagSet => exact headLaw_keptByRuns.stoppedFlagSet h
  case recordFold => exact headLaw_keptByRuns.recordFold h
  case cutDue => exact headLaw_keptByRuns.cutDue h
  case doff => exact headLaw_keptByRuns.doff h
  case markEdge =>
    refine ⟨_, rfl, ?_⟩
    split
    · exact withJob_keeps h fun j _ => h.takeEdge j _
    · exact h
  case referenceWindowExpiry =>
    refine ⟨_, rfl, withJob_keeps h fun j _ => ?_⟩
    split
    · exact h.referenceExpiry j
    · exact h
  case reacquisitionWindowExpiry =>
    refine ⟨_, rfl, withJob_keeps h fun j _ => ?_⟩
    split
    · exact h.reacquisitionExpiry j
    · exact h
  case shadeStartPoint =>
    refine ⟨_, rfl, withJob_keeps h fun j _ => ?_⟩
    split
    · exact h.startPoint j _ _
    · exact h
  case triggerPulseEnd => exact ⟨_, rfl, h⟩
  case dataReady =>
    refine ⟨_, rfl, withJob_keeps h fun j _ => ?_⟩
    split
    · exact HeadLaw.answers j _
    · exact h
  case readComplete =>
    refine ⟨_, rfl, ?_⟩
    split
    · exact withJob_keeps h fun j _ => h.readDone j _
    · exact h
  case headTimeout =>
    refine ⟨_, rfl, ?_⟩
    split
    · exact HeadLaw.timedOut _
    · exact h

theorem clockCycle_headLaw (h : HeadLaw s) : HeadLaw s.clockCycle := by
  have timer : ∀ m : Measurement, m.tick.timeout.isSome = m.timeout.isSome := fun m => by
    simp [Measurement.tick, countDown]
  have ticked : (s.shu.meas.map Measurement.tick).any (fun m => m.timeout.isSome) =
      s.shu.meas.any fun m => m.timeout.isSome := by
    cases s.shu.meas with
    | none => rfl
    | some m => exact timer m
  have flight : (s.shu.meas.map Measurement.tick).isSome = s.shu.meas.isSome := Option.isSome_map
  obtain ⟨first, second, third⟩ := h
  exact ⟨flight ▸ first, ticked ▸ second, third⟩

theorem resetWith_headLaw (p : Pins) (q : List Instr) : HeadLaw (State.resetWith p q) :=
  headLaw_of_rest rfl (by simp [State.resetWith, Shu.reset]) (by simp [State.resetWith, Shu.reset])

end

theorem restLaw_reads : ReadsOnly [.trk, .msc, .stg, .emb, .shu, .wnd, .lsc] RestLaw where
  congr {s u} same h := by
    have trk : u.trk = s.trk := same .trk (by decide)
    have msc : u.msc = s.msc := same .msc (by decide)
    have stg : u.stg = s.stg := same .stg (by decide)
    have emb : u.emb = s.emb := same .emb (by decide)
    have shu : u.shu = s.shu := same .shu (by decide)
    have wnd : u.wnd = s.wnd := same .wnd (by decide)
    have lsc : u.lsc = s.lsc := same .lsc (by decide)
    unfold RestLaw State.running State.chan at h ⊢
    rw [trk, msc, stg, emb, shu, wnd, lsc]
    exact h
  links := by decide
  queue := by decide

theorem ReadsOnly.and {R T : List Block} {P Q : State → Prop} (p : ReadsOnly R P) (q : ReadsOnly T Q) :
    ReadsOnly (R ++ T) fun s => P s ∧ Q s where
  congr same h := ⟨p.congr (fun b hb => same b (List.mem_append_left _ hb)) h.1,
    q.congr (fun b hb => same b (List.mem_append_right _ hb)) h.2⟩
  links h := (List.mem_append.mp h).elim p.links q.links
  queue h := (List.mem_append.mp h).elim p.queue q.queue

/-- Settles O12: no command starts, ends or answers a measurement without the head and its timer following. -/
theorem everyStepKeepsHeadLaw : Obligations.EveryStepKeepsHeadLaw := fun _ _ rest law runs =>
  step_keeps_law (restLaw_reads.and headLaw_reads) headLaw_reads (fun _ h => h.2) resetWith_headLaw
    (fun _ _ _ _ _ is meets h => request_headLaw is meets h.1 h.2)
    (fun _ _ _ is meets h runs => operation_headLaw is meets h.2 runs) (fun _ h => clockCycle_headLaw h.2) ⟨rest, law⟩ runs

end Sys2Proof.Machine
end

section
/-! PROOFS. Hold causes and the line state: what a raised cause changes and tells (O15), and the law of the line (O8). -/

namespace Sys2Proof.Machine

-- one proof at a time: the joined package would else open a thread for each of them
set_option Elab.async false

/-! ### Sets of causes -/

theorem Causes.has_add (x : Causes) (c d : HoldCause) : (x.add c).has d = (x.has d || d == c) := by
  cases c <;> cases d <;> simp [Causes.add, Causes.has]

theorem Causes.add_of_has {x : Causes} {c : HoldCause} (h : x.has c = true) : x.add c = x := by
  obtain ⟨_, _, _, _, _, _, _, _, _⟩ := x
  cases c <;> cases h <;> rfl

theorem Causes.add_ne_empty (x : Causes) (c : HoldCause) : x.add c ≠ {} := fun h => by
  have : (x.add c).has c = true := by simp [Causes.has_add]
  rw [h] at this
  cases c <;> cases this

/-! ### What a notice alone tells -/

/-- Raised notices and nothing else about the links. -/
theorem State.silent_of_raised {s u : State} {ns : List Notice} (h : u.lnk = s.lnk.raised ns) : Silent s u ns := by
  refine ⟨fun k => ?_, fun k n => ?_⟩
  · obtain ⟨outgoing, receiver, -⟩ := LinkHalf.raises ns (s.half k)
    rw [State.half_raised s u ns h k]
    exact ⟨outgoing, receiver⟩
  · rw [State.half_raised s u ns h k]
    exact (LinkHalf.raises ns (s.half k)).2.2 n

theorem State.evaluateNip_lnk (s : State) : s.evaluateNip.lnk = s.lnk := by
  unfold State.evaluateNip State.withJob
  repeat' split
  all_goals rfl

theorem State.setLineState_same {s : State} {x : LineState} (h : s.lsc.lineState = x) : s.setLineState x = s := if_pos h

theorem State.setLineState_lnk {s : State} {x : LineState} (h : s.lsc.lineState ≠ x) :
    (s.setLineState x).lnk = s.lnk.raised [.lineState] := by
  unfold State.setLineState
  rw [if_neg h, State.evaluateNip_lnk]
  rfl

/-! ### A raised cause (R183, R188, R189) -/

/-- The line state controller after a raised cause. -/
def Lsc.raised (l : Lsc) (c : HoldCause) : Lsc :=
  if (l.holdMask.any fun m => m.has c) = true ∧ l.lineState = .run then
    { l with lineState := .hold, latched := l.latched.add c, runPermit := false }
  else if (l.holdMask.any fun m => m.has c) = true ∧ l.lineState = .hold then { l with latched := l.latched.add c }
  else if (l.holdMask.any fun m => m.has c) = true ∧ l.lineState = .ending then
    { l with latched := l.latched.add c, runPermit := false }
  else { l with reported := l.reported.add c }

/-- A raised cause, case by case: stopping the line, in HOLD, in ENDING, and reported. -/
theorem State.raiseCause_spec (s : State) (c : HoldCause) :
    (s.raiseCause c).lsc = s.lsc.raised c ∧ (s.raiseCause c).lnk = s.lnk.raised (causeTold s c) := by
  unfold State.raiseCause Lsc.raised causeTold State.masked
  by_cases masked : (s.lsc.holdMask.any fun m => m.has c) = true
  · rw [if_pos masked]
    cases line : s.lsc.lineState with
    | run =>
      have moves : ((s.latch c).dropPermit).lsc.lineState ≠ .hold := by simp [State.latch, State.dropPermit, line]
      dsimp only
      rw [State.setLineState_lsc, State.setLineState_lnk moves]
      simp [masked, line, State.latch, State.dropPermit]
    | hold =>
      dsimp only
      split
      next has =>
        refine ⟨?_, by simp [masked, has, Lnk.raised]⟩
        rw [if_neg (by simp), if_pos ⟨masked, rfl⟩, Causes.add_of_has has, ← line]
      next has => simp [masked, line, has, State.latch, State.raiseNotice, Lnk.raised]
    | ending =>
      dsimp only
      split
      next has => simp [masked, line, has, Causes.add_of_has, State.dropPermit, Lnk.raised]
      next has => simp [masked, line, has, State.latch, State.dropPermit, State.raiseNotice, Lnk.raised]
    | unconfigured => simp [masked, line, State.report, Lnk.raised]
    | ready => simp [masked, line, State.report, Lnk.raised]
  · rw [if_neg masked]
    simp [masked, State.report, Lnk.raised]

/-- Settles O15, by the line state in which the cause is raised. -/
theorem holdCauseLatchesOrIsReported : Obligations.HoldCauseLatchesOrIsReported := fun c s =>
  ⟨fun x d => x.has_add c d, (s.raiseCause_affects c).1.mono (by decide),
    State.silent_of_raised (s.raiseCause_spec c).2, (s.raiseCause_spec c).1⟩

theorem State.raiseCause_lsc (s : State) (c : HoldCause) : (s.raiseCause c).lsc = s.lsc.raised c := (s.raiseCause_spec c).1

/-! ### The law of the line -/

/-- The law of the line, over its controller. -/
structure Lsc.Lawful (l : Lsc) : Prop where
  permit : l.runPermit = true → l.lineState = .run ∨ l.lineState = .ending
  latched : l.latched ≠ {} → l.lineState = .hold ∨ l.lineState = .ending
  hold : l.lineState = .hold → l.latched ≠ {}
  noJob : l.job = none ↔ l.lineState = .unconfigured
  mask : l.job.isSome = l.holdMask.isSome

theorem lineLaw_iff (s : State) : LineLaw s ↔ s.lsc.Lawful :=
  ⟨fun ⟨permit, latched, hold, noJob, mask⟩ => ⟨permit, latched, hold, noJob, mask⟩,
    fun h => ⟨h.permit, h.latched, h.hold, h.noJob, h.mask⟩⟩

section
variable {l : Lsc}

/-- Run-permit is dropped in any line state. -/
theorem Lsc.Lawful.dropped (law : l.Lawful) : Lsc.Lawful { l with runPermit := false } :=
  ⟨(nomatch ·), law.latched, law.hold, law.noJob, law.mask⟩

/-- A latched cause may join in HOLD and ENDING. -/
theorem Lsc.Lawful.latch (law : l.Lawful) (stopped : l.lineState = .hold ∨ l.lineState = .ending) (c : HoldCause) :
    Lsc.Lawful { l with latched := l.latched.add c } :=
  ⟨law.permit, fun _ => stopped, fun _ => Causes.add_ne_empty _ _, law.noJob, law.mask⟩

theorem Lsc.Lawful.raised (law : l.Lawful) (c : HoldCause) : (l.raised c).Lawful := by
  unfold Lsc.raised
  split
  next run =>
    refine ⟨(nomatch ·), fun _ => .inl rfl, fun _ => Causes.add_ne_empty _ _, ?_, law.mask⟩
    simpa [run.2] using law.noJob
  next =>
    split
    next hold => exact law.latch (.inl hold.2) c
    next =>
      split
      next ending => exact (law.latch (.inr ending.2) c).dropped
      next => exact ⟨law.permit, law.latched, law.hold, law.noJob, law.mask⟩

/-- READY with no cause latched and run-permit low, under a job in force. -/
theorem Lsc.lawful_ready (job : l.job.isSome = true) (mask : l.job.isSome = l.holdMask.isSome) (none : l.latched = {})
    (low : l.runPermit = false) (ready : l.lineState = .ready) : l.Lawful := by
  refine ⟨by simp [low], by simp [none], by simp [ready], ?_, mask⟩
  simp [Option.isSome_iff_ne_none.mp job, ready]

end

theorem lineLaw_reads : ReadsOnly [.lsc] LineLaw where
  congr same h := by
    rw [lineLaw_iff] at h ⊢
    exact (show _ = _ from same .lsc (List.mem_singleton_self _)) ▸ h
  links := by decide
  queue := by decide


/-! ### What raised causes leave, for a law of the line or of the nip -/

/-- The items of the emboss loop: its phase, the note of its train, its trim and its accumulator. -/
def Emb.loop (e : Emb) : EmbPhase × Option TrainNote × Int × List Int := (e.phase, e.train, e.trim, e.acc)

/-- A law of the line state controller and of what judges the nip: it is kept by what else the commands change, the stations,
channels, the scanner, the head and the label channel among them (`reads`), and by the emboss loop's own items. -/
structure KeptByLine (P : State → Prop) : Prop extends KeptByEvents P where
  reads : ReadsOnly [.wpu, .trk, .emb, .lsc] P
  emboss : ∀ {s : State} {e : Emb}, e.nip = s.emb.nip → e.closedSince = s.emb.closedSince → e.pwm = s.emb.pwm →
    e.hostLift = s.emb.hostLift → e.zoneActive = s.emb.zoneActive → e.loop = s.emb.loop → P s → P { s with emb := e }

section
variable {P : State → Prop} {s : State}

/-- An operation that changes the winder alone and raises notices. -/
theorem KeptByCuts.affectsWinder (kept : KeptByCuts P) {u : State} (frame : Affects [.wnd] s u) (h : P s) : P u := by
  obtain ⟨same, ns, links⟩ := frame
  have told : ∀ (ns : List Notice) (v : State), P v → P { v with lnk := v.lnk.raised ns } := by
    intro ns
    induction ns with
    | nil => exact fun v hv => hv
    | cons n ns ih => exact fun v hv => ih _ (kept.told n hv)
  have wound := told ns _ (kept.winder u.wnd h)
  have reached : u = { s with wnd := u.wnd, lnk := s.lnk.raised ns } := by
    obtain ⟨_, _, _, _, _, _, _, _, _, _, _, _, _, _, _⟩ := u
    obtain rfl := same.pins (by decide)
    obtain rfl := same.wpu (by decide)
    obtain rfl := same.trk (by decide)
    obtain rfl := same.msc (by decide)
    obtain rfl := same.rlp (by decide)
    obtain rfl := same.stg (by decide)
    obtain rfl := same.emb (by decide)
    obtain rfl := same.shu (by decide)
    obtain rfl := same.rlg (by decide)
    obtain rfl := same.bat (by decide)
    obtain rfl := same.lbc (by decide)
    obtain rfl := same.lsc (by decide)
    obtain rfl := same.pending (by decide)
    cases links
    rfl
  exact reached ▸ wound

theorem KeptByCuts.winderAppend (kept : KeptByCuts P) (j : Job) (r : RepeatRecord) (h : P s) : P (s.winderAppend j r) := by
  have known := kept.affectsWinder (s.addPoints_affects j r) h
  unfold State.winderAppend
  refine kept.judgeSplices j ?_
  split
  · exact kept.affectsWinder (State.reexamine_affects _ j _) known
  · exact kept.affectsWinder (State.searchOn_affects _ j _) known
  · exact kept.affectsWinder (State.settlePlanned_affects _ j) known

theorem KeptByCuts.updateRecord (kept : KeptByCuts P) (index : BitVec 32) (f : RepeatRecord → RepeatRecord) (h : P s) :
    P (s.updateRecord index f) := kept.records _ h

/-! #### Stations -/

theorem KeptByLine.enterLost (kept : KeptByLine P) (i : StationId) (h : P s) : P (s.enterLost i) :=
  kept.cause _ (kept.told _ (kept.reads.frame (s.putStation_affects i _) rfl h))

theorem KeptByLine.offerBad (kept : KeptByLine P) (i : StationId) (d : ResidentDesc) (h : P s) : P (s.offerBad i d) := by
  have counted := fun x => kept.reads.frame (s.putStation_affects i x) rfl h
  unfold State.offerBad
  dsimp only
  split
  case h_4 | h_5 | h_6 => exact counted _
  all_goals
    split
    · exact kept.enterLost i (counted _)
    · exact counted _

theorem KeptByLine.offer (kept : KeptByLine P) (i : StationId) (o : StationOutcome) (h : P s) : P (s.offer i o) := by
  unfold State.offer
  split
  · split
    · split
      · exact kept.reads.frame (s.offerSample_affects i _ _) rfl h
      · exact kept.offerBad i _ h
      · exact kept.offerBad i _ h
      all_goals exact h
    · exact h
  · exact h

theorem KeptByLine.outcomeTransfer (kept : KeptByLine P) (index : BitVec 32) (kind : OriginKind)
    (formed : Vector StationOutcome 8) (h : P s) : P (s.outcomeTransfer index kind formed) := by
  have told : ∀ u : State, P u → ∀ w : Vector StationOutcome 8, P ((List.finRange 8).foldl (fun (t : State) i =>
      if (t.station i).isResident then t.putStation i { t.station i with lastOutcome := some w[i] } else t) u) :=
    fun u hu w => foldl_keeps _ (fun t i ht => by
      split
      · exact kept.reads.frame (t.putStation_affects i _) rfl ht
      · exact ht) _ hu
  unfold State.outcomeTransfer
  dsimp only
  split
  · exact foldl_keeps _ (fun t i ht => kept.offer i _ ht) _ (told _ (kept.updateRecord _ _ h) _)
  · exact told _ (kept.updateRecord _ _ h) _

theorem KeptByLine.correctingEnd (kept : KeptByLine P) (i : StationId) (h : P s) : P (s.correctingEnd i) := by
  unfold State.correctingEnd
  split
  · split
    · split
      · exact kept.enterLost i h
      · exact kept.reads.frame (s.putStation_affects i _) rfl h
    · exact h
  · exact h

theorem KeptByLine.trainDone (kept : KeptByLine P) (done : ∀ {u : State}, P u → P u.embossTrainDone) (c : ChannelId)
    (h : P s) : P (s.trainDone c) := by
  unfold State.trainDone
  split
  · exact kept.correctingEnd _ (kept.reads.frame (s.putStation_affects _ _) rfl h)
  · exact done h

theorem KeptByLine.disengage (kept : KeptByLine P) (i : StationId) (h : P s) : P (s.disengage i) := by
  have put : ∀ (u : State) x, P u → P (u.putStation i x) := fun u x hu => kept.reads.frame (u.putStation_affects i x) rfl hu
  have abort : ∀ (u : State) k, P u → P (u.abortStation k) := fun u k hu => kept.reads.frame (u.abortStation_affects k) rfl hu
  unfold State.disengage
  split
  · split
    · exact put _ _ (foldl_keeps _ abort _ (abort _ _ h))
    · exact kept.correctingEnd _ (put _ _ (abort _ _ h))
  · exact put _ _ h

/-! #### Origins -/

theorem KeptByLine.fixOrigin (kept : KeptByLine P) (j : Job) (o : Count) (kind : OriginKind) (h : P s) :
    P (s.fixOrigin j o kind) := by
  have scanned := fun m : Msc => kept.reads.frame (affects_msc s m) rfl h
  unfold State.fixOrigin State.appendRecord
  refine kept.winderAppend j _ ?_
  have window : ∀ (u : State) (r : RepeatRecord), P u → P (u.addWindow j r) := fun u r hu => by
    unfold State.addWindow
    split
    · exact kept.emboss rfl rfl rfl rfl rfl rfl hu
    · exact hu
  exact window _ _ (kept.reads.frame (State.addStart_affects _ j _) rfl (kept.records _ (scanned _)))

theorem KeptByLine.refLost (kept : KeptByLine P) (n : Nat) (h : P s) : P (s.refLost n) := by
  have set := kept.reads.frame (s.setRef_affects .lost n) rfl h
  unfold State.refLost
  refine kept.cause _ ?_
  split
  · exact kept.told _ set
  · exact set

theorem KeptByLine.referenceExpiry (kept : KeptByLine P) (j : Job) (h : P s) : P (s.referenceExpiry j) := by
  unfold State.referenceExpiry
  dsimp only
  split
  · exact h
  · refine kept.fixOrigin j _ _ ?_
    split
    · exact kept.reads.frame (s.setRef_affects _ _) rfl h
    · exact kept.refLost _ h

theorem KeptByLine.reacquisitionExpiry (kept : KeptByLine P) (j : Job) (h : P s) : P (s.reacquisitionExpiry j) := by
  unfold State.reacquisitionExpiry
  split
  · exact h
  · exact kept.fixOrigin j _ _ h

theorem KeptByLine.takeExpiry (kept : KeptByLine P) (j : Job) (h : P s) : P (s.takeExpiry j) := by
  unfold State.takeExpiry
  split
  · split
    · exact kept.referenceExpiry j h
    · exact kept.referenceExpiry j h
    · exact kept.reacquisitionExpiry j h
    · exact h
  · exact h

theorem KeptByLine.otherEdge (kept : KeptByLine P) (j : Job) (x : Count) (h : P s) : P (s.otherEdge j x) := by
  have scanned : ∀ (u : State) m, P u → P { u with msc := m } := fun u m hu => kept.reads.frame (affects_msc u m) rfl hu
  unfold State.otherEdge
  split
  · split
    · unfold State.offerEdge
      split
      · split
        · exact scanned _ _ h
        · exact scanned _ _ (kept.updateRecord _ _ h)
      · exact h
    · exact h
  · split
    · exact scanned _ _ h
    · exact h

theorem KeptByLine.takeEdge (kept : KeptByLine P) (j : Job) (x : Count) (h : P s) : P (s.takeEdge j x) := by
  have expired := kept.takeExpiry j h
  unfold State.takeEdge
  dsimp only
  split
  · exact kept.fixOrigin j _ _ (kept.reads.frame (State.setRef_affects _ _ _) rfl expired)
  · exact kept.otherEdge j x expired

theorem KeptByLine.closeCapture (kept : KeptByLine P) (j : Job) (c : Closing) (h : P s) : P (s.closeCapture j c) := by
  have scanned : ∀ (u : State) m, P u → P { u with msc := m } := fun u m hu => kept.reads.frame (affects_msc u m) rfl hu
  unfold State.closeCapture
  split
  · exact kept.outcomeTransfer _ _ _ (scanned _ _ (scanned _ _ h))
  · exact scanned _ _ h

/-! #### Printers, the head and the winder -/

theorem KeptByLine.printerOffline (kept : KeptByLine P) (p : Printer) (why : PrinterFault) (h : P s) :
    P (s.printerOffline p why) :=
  kept.cause _ (kept.told _ (kept.reads.frame (s.putPrinter_affects p _) rfl h))

theorem KeptByLine.labelJammed (kept : KeptByLine P) (x : Label) (h : P s) : P (s.labelJammed x) :=
  kept.printerOffline _ _ (kept.reads.frame (affects_lbc s _) rfl h)

theorem KeptByLine.transferEnded (kept : KeptByLine P) (t : Transfer) (b : Byte) (h : P s) : P (s.transferEnded t b) := by
  have freed := kept.reads.frame (affects_lbc s { s.lbc with channel := none }) rfl h
  unfold State.transferEnded
  refine kept.labels ?_
  dsimp only
  split
  · exact kept.reads.frame (State.labelAccepted_affects _ _ _) rfl freed
  · exact kept.reads.frame (State.labelRejected_affects _ _ _) rfl freed
  · exact kept.labelJammed _ freed

theorem KeptByLine.printerTimedOut (kept : KeptByLine P) (p : Printer) (h : P s) : P (s.printerTimedOut p) :=
  kept.labels (kept.printerOffline _ _ (kept.reads.frame (affects_lbc s _) rfl h))

theorem KeptByLine.headTimedOut (kept : KeptByLine P) (m : Measurement) (h : P s) : P (s.headTimedOut m) := by
  have absent := kept.updateRecord m.index (fun r => r.putShade .absent none) h
  have shade : ∀ (u : State) x, P u → P { u with shu := x } := fun u x hu => kept.reads.frame (affects_shu u x) rfl hu
  unfold State.headTimedOut
  dsimp only
  split
  · exact shade _ _ (shade _ _ absent)
  · exact kept.cause _ (kept.told _ (shade _ _ (shade _ _ absent)))

/-! #### Commands -/

theorem KeptByLine.encoderFault (kept : KeptByLine P) (h : P s) :
    ∃ u, exec .encoderFault s = .next u.endOfEvent ∧ P u := by
  refine ⟨_, rfl, kept.cause _ ?_⟩
  exact kept.web (s := { s with pins := { s.pins with encA := !s.pins.encA, encB := !s.pins.encB } }) rfl (kept.pins _ h)

theorem KeptByLine.markEdge (kept : KeptByLine P) (h : P s) : ∃ u, exec .markEdge s = .next u.endOfEvent ∧ P u := by
  refine ⟨_, rfl, ?_⟩
  split
  · exact withJob_keeps h fun j _ => kept.takeEdge j _ h
  · exact h

theorem KeptByLine.referenceWindowExpiry (kept : KeptByLine P) (h : P s) :
    ∃ u, exec .referenceWindowExpiry s = .next u.endOfEvent ∧ P u := by
  refine ⟨_, rfl, withJob_keeps h fun j _ => ?_⟩
  split
  · exact kept.referenceExpiry j h
  · exact h

theorem KeptByLine.captureClose (kept : KeptByLine P) (h : P s) :
    ∃ u, exec .captureClose s = .next u.endOfEvent ∧ P u := by
  refine ⟨_, rfl, withJob_keeps h fun j _ => ?_⟩
  split
  · split
    · exact kept.closeCapture j _ h
    · exact h
  · exact h

theorem KeptByLine.stepPulse (kept : KeptByLine P) (done : ∀ {u : State}, P u → P u.embossTrainDone) {c : ChannelId}
    (h : P s) :
    ∃ u, exec (.stepPulse c) s = .next u.endOfEvent ∧ P u := by
  have emitted := kept.reads.frame (s.putChan_affects c (s.chan c).emit) rfl h
  refine ⟨_, rfl, ?_⟩
  split
  · split
    · exact emitted
    · exact kept.trainDone done c emitted
  · exact h

theorem KeptByLine.splicePulse (kept : KeptByLine P) (h : P s) : ∃ u, exec .splicePulse s = .next u.endOfEvent ∧ P u := by
  refine ⟨_, rfl, ?_⟩
  split
  · exact withJob_keeps h fun j _ => kept.arrive j _ h
  · exact h

theorem KeptByLine.operatorButton (kept : KeptByLine P) (h : P s) :
    ∃ u, exec .operatorButton s = .next u.endOfEvent ∧ P u := by
  refine ⟨_, rfl, ?_⟩
  split
  · exact withJob_keeps h fun j _ => kept.arrive j _ h
  · exact h

theorem KeptByLine.defectLineRise (kept : KeptByLine P) (h : P s) :
    ∃ u, exec .defectLineRise s = .next u.endOfEvent ∧ P u := by
  have risen : P { s with pins := { s.pins with defectLine := true } } := kept.pins _ h
  refine ⟨_, rfl, ?_⟩
  split
  · exact withJob_keeps risen fun j _ => kept.openingOccasion j risen
  · exact risen

theorem KeptByLine.closeDefect (kept : KeptByLine P) (j : Job) (length : WebEvent → Nat) (h : P s) :
    P (s.closeDefect j length) := by
  unfold State.closeDefect
  split
  · exact h
  · dsimp only
    split
    · unfold State.coverClosed
      split
      · exact kept.emboss rfl rfl rfl rfl rfl rfl (kept.modifyEvent _ _ h)
      · exact kept.modifyEvent _ _ h
    · exact kept.modifyEvent _ _ h

theorem KeptByLine.defectLengthLimit (kept : KeptByLine P) (h : P s) :
    ∃ u, exec .defectLengthLimit s = .next u.endOfEvent ∧ P u := by
  refine ⟨_, rfl, withJob_keeps h fun j _ => ?_⟩
  split
  · exact kept.openingOccasion j (kept.closeDefect j _ h)
  · exact h

theorem KeptByLine.headTimeout (kept : KeptByLine P) (h : P s) : ∃ u, exec .headTimeout s = .next u.endOfEvent ∧ P u := by
  refine ⟨_, rfl, ?_⟩
  split
  · exact kept.headTimedOut _ h
  · exact h

theorem KeptByLine.overlengthCondition (kept : KeptByLine P) (h : P s) :
    ∃ u, exec .overlengthCondition s = .next u.endOfEvent ∧ P u :=
  ⟨_, rfl, withJob_keeps h fun j _ => kept.checkOverlength j h⟩

theorem KeptByLine.labelTransferEnd (kept : KeptByLine P) {b : Byte} (h : P s) :
    ∃ u, exec (.labelTransferEnd b) s = .next u.endOfEvent ∧ P u := by
  refine ⟨_, rfl, ?_⟩
  split
  · exact kept.transferEnded _ _ h
  · exact h

theorem KeptByLine.printerTimeout (kept : KeptByLine P) {p : Printer} (h : P s) :
    ∃ u, exec (.printerTimeout p) s = .next u.endOfEvent ∧ P u := by
  refine ⟨_, rfl, ?_⟩
  split
  · exact kept.printerTimedOut p h
  · exact h

theorem KeptByLine.stationDisengage (kept : KeptByLine P) (b : Byte) (h : P s) :
    P ((stationDisengageService b).act s).1 := by
  simp only [stationDisengageService, State.onStation]
  split
  · exact h
  · split
    · exact h
    · split
      · rw [done_fst]
        split
        · exact kept.disengage _ h
        · exact h
      · exact h

theorem KeptByLine.markEvent (kept : KeptByLine P) (h : P s) : P (markEventService.act s).1 := by
  simp only [markEventService]
  split
  · refine answerWithJob_keeps h fun j _ => ?_
    rw [done_fst]
    exact kept.arrive j _ h
  · exact h

end

/-! ### The law of the line is kept -/

section
variable {s : State}

theorem lineLaw_iff_of_eq {u : State} (h : u.lsc = s.lsc) (law : LineLaw s) : LineLaw u := by
  rw [lineLaw_iff] at law ⊢
  exact h ▸ law

theorem LineLaw.cause (c : HoldCause) (h : LineLaw s) : LineLaw (s.raiseCause c) := by
  rw [lineLaw_iff, State.raiseCause_lsc]
  exact ((lineLaw_iff s).mp h).raised c

theorem LineLaw.arrive (j : Job) (e : WebEvent) (h : LineLaw s) : LineLaw (s.arrive j e) := by
  unfold State.arrive
  split
  · unfold State.fullArrival
    dsimp only
    split
    · exact h
    · have flagged : LineLaw (State.updateOpenEntry { s with trk := { s.trk with eventLost := true } } fun e =>
          { e with flags := { e.flags with eventLost := true } }) :=
        lineLaw_reads.frame (State.updateOpenEntry_affects _ _) rfl h
      exact (lineLaw_reads.frame (State.evaluateNip_affects _) rfl flagged).cause .eventLost
  · exact lineLaw_reads.frame (s.enterEvent_affects j e) rfl h

theorem LineLaw.returned (job : s.lsc.job.isSome = true) (h : LineLaw s) : LineLaw s.returnToReady := by
  obtain ⟨lsc, -⟩ := s.returnToReady_spec
  rw [lineLaw_iff, lsc]
  exact Lsc.lawful_ready job ((lineLaw_iff s).mp h).mask rfl rfl rfl

theorem lineLaw_keptByLine : KeptByLine LineLaw where
  entry _ h := h
  roll _ h := h
  assign _ _ _ h := lineLaw_reads.frame (State.assignBatch_affects _ _ _ _) rfl h
  told _ h := h
  labels h := lineLaw_reads.frame (State.labelWork_affects _) rfl h
  winder _ h := h
  records _ h := h
  events _ h := h
  permit h := (lineLaw_iff _).mpr ((lineLaw_iff _).mp h).dropped
  allocate _ _ _ _ h := lineLaw_reads.frame (State.allocate_affects _ _ _ _) rfl h
  pins _ h := h
  web _ h := h
  arrive j e h := h.arrive j e
  cause c h := h.cause c
  reads := {
    congr := fun same h => lineLaw_iff_of_eq (same .lsc (by decide)) h
    links := by decide
    queue := by decide }
  emboss _ _ _ _ _ _ h := h

theorem lineLaw_keptByRuns : KeptByRuns LineLaw where
  toKeptByEvents := lineLaw_keptByLine.toKeptByEvents
  empty h := h
  returned job h := h.returned job
  withdraw seq h := lineLaw_reads.frame (State.withdrawLabel_affects _ seq) rfl h
  unattach seq h := lineLaw_reads.frame (State.unattachSent_affects _ seq) rfl h
  release _ h := h

/-- END_JOB leaves RUN or HOLD. -/
theorem LineLaw.ending (h : LineLaw s) (line : s.lsc.lineState = .run ∨ s.lsc.lineState = .hold) :
    LineLaw (s.setLineState .ending) := by
  have law := (lineLaw_iff s).mp h
  rw [lineLaw_iff, State.setLineState_lsc]
  refine ⟨fun _ => .inr rfl, fun _ => .inr rfl, (nomatch ·), ?_, law.mask⟩
  have job : s.lsc.job ≠ none := fun none => by
    rcases line with run | hold
    · exact absurd (law.noJob.mp none) (by simp [run])
    · exact absurd (law.noJob.mp none) (by simp [hold])
  simp [job]

/-- A job in RUN with nothing latched. -/
theorem lineLaw_run (job : s.lsc.job.isSome = true) (mask : s.lsc.job.isSome = s.lsc.holdMask.isSome)
    (none : s.lsc.latched = {}) :
    LineLaw (({ s with lsc := { s.lsc with runPermit := true } } : State).setLineState .run) := by
  rw [lineLaw_iff, State.setLineState_lsc]
  refine ⟨fun _ => .inl rfl, fun some => absurd none some, (nomatch ·), ?_, mask⟩
  simp [Option.isSome_iff_ne_none.mp job]

/-- A RESUME that leaves no cause latched returns to RUN; another leaves the line in HOLD. -/
theorem LineLaw.resumed (h : LineLaw s) (hold : s.lsc.lineState = .hold) :
    (s.clearLatched.lsc.latched = {} → LineLaw (({ s.clearLatched with
      lsc := { s.clearLatched.lsc with runPermit := true } } : State).setLineState .run)) ∧
    (s.clearLatched.lsc.latched ≠ {} → LineLaw s.clearLatched) := by
  have law := (lineLaw_iff s).mp h
  have job : s.lsc.job.isSome = true := by
    rw [Option.isSome_iff_ne_none]
    intro none
    simpa [hold] using law.noJob.mp none
  refine ⟨fun none => lineLaw_run job law.mask none, fun remain => ?_⟩
  exact (lineLaw_iff _).mpr ⟨law.permit, fun _ => .inl hold, fun _ => remain, law.noJob, law.mask⟩

theorem LineLaw.takeStart (j : Job) (h : LineLaw s) (ready : s.lsc.lineState = .ready) (job : s.lsc.job = some j) :
    LineLaw (s.takeStart j) := by
  have lsc : (s.startBlocks j).lsc = s.lsc := (State.lsc_of_affects (State.leadIn_affects _ j)).trans rfl
  have law := (lineLaw_iff s).mp h
  have none : s.lsc.latched = {} := by
    refine Classical.byContradiction fun latched => ?_
    rcases law.latched latched with hold | ending
    · simp [ready] at hold
    · simp [ready] at ending
  have running := lineLaw_run (s := s.startBlocks j) (by rw [lsc, job]; rfl) (by rw [lsc]; exact law.mask)
    (by rw [lsc]; exact none)
  have opening := lineLaw_keptByLine.openingOccasion j running
  have examined : ∀ {u : State} (c : HoldCause), LineLaw u → LineLaw (u.examine c) := fun {u} c hu => by
    unfold State.examine
    split
    · exact hu.cause c
    · exact hu
  have first := examined .overspeed (examined .encoder opening)
  have second := examined .printerOffline (examined .headOffline first)
  exact second

theorem LineLaw.takeJob (j : Job) (h : LineLaw s) (idle : s.lsc.lineState = .unconfigured ∨ s.lsc.lineState = .ready) :
    LineLaw (s.takeJob j) := by
  have law := (lineLaw_iff s).mp h
  have none : s.lsc.latched = {} := by
    refine Classical.byContradiction fun latched => ?_
    rcases law.latched latched with stopped | stopped <;> rcases idle with line | line <;> simp [line] at stopped
  have low : s.lsc.runPermit = false := by
    refine Classical.byContradiction fun high => ?_
    rcases law.permit (by simpa using high) with moving | moving <;> rcases idle with line | line <;> simp [line] at moving
  unfold State.takeJob
  rw [lineLaw_iff, State.setLineState_lsc, State.lsc_of_affects (State.batchLoad_affects _ j)]
  exact Lsc.lawful_ready rfl rfl none low rfl

theorem request_lineLaw {c : Instr} {l : LinkId} {tag : Byte} {x : Service} (is : requestOf c = some (l, tag, x))
    (meets : ([.lsc] : List Block).any (blocksOf c).contains = true) (h : LineLaw s) : LineLaw (x.act s).1 := by
  have law := (lineLaw_iff s).mp h
  cases c <;> cases is <;> try contradiction
  case lineStatus => exact h
  case grantService => exact h
  case revokeService => exact h
  case start =>
    simp only [startService]
    split
    next ready =>
      refine answerWithJob_keeps h fun j job => ?_
      split
      · exact h
      · split
        · exact h
        · rw [done_fst]
          exact h.takeStart j ready job
    next => exact h
  case hold =>
    simp only [holdService]
    split
    · exact h.cause .host
    · exact h
  case resume =>
    simp only [resumeService]
    split
    next hold =>
      obtain ⟨empty, remain⟩ := h.resumed hold
      split
      next none =>
        rw [done_fst]
        exact empty (beq_iff_eq.mp none)
      next some => exact remain fun none => some (beq_iff_eq.mpr none)
    next => exact h
  case endJob => exact lineLaw_keptByRuns.endJob (fun line => h.ending line) h
  case abortJob => exact lineLaw_keptByRuns.abortJob h
  case releaseEntries => exact lineLaw_keptByRuns.releaseEntries _ h
  case stationDisengage => exact lineLaw_keptByLine.stationDisengage _ h
  case markEvent => exact lineLaw_keptByLine.markEvent h
  case loadJob =>
    simp only [loadJobService]
    split
    next idle =>
      split
      · exact h
      · rw [done_fst]
        exact h.takeJob _ (by simpa using idle)
    next => exact h

theorem operation_lineLaw {c : Instr} {t : State} (is : isOperation c = true)
    (meets : ([.lsc] : List Block).any (blocksOf c).contains = true) (h : LineLaw s) (runs : exec c s = .next t) :
    LineLaw t := by
  have kept := lineLaw_keptByLine
  have keptByRuns := lineLaw_keptByRuns
  cases c <;> first | contradiction | (rename_i g; cases g <;> contradiction) | refine lineLaw_reads.ends ?_ runs
  case encoderTransition => exact keptByRuns.encoderTransition h
  case encoderFault => exact kept.encoderFault h
  case speedWindowEnd =>
    refine ⟨_, rfl, lineLaw_reads.frame (State.evaluateNip_affects _) rfl ?_⟩
    have measured : LineLaw { s with wpu := s.wpu.closeWindow } := h
    refine withJob_keeps measured fun j _ => ?_
    unfold State.checkSpeed
    dsimp only
    split
    · split
      · exact LineLaw.cause _ h
      · exact h
    · exact h
  case stoppedFlagSet => exact keptByRuns.stoppedFlagSet h
  case markEdge => exact kept.markEdge h
  case referenceWindowExpiry => exact kept.referenceWindowExpiry h
  case captureClose => exact kept.captureClose h
  case stepPulse => exact kept.stepPulse (fun hu => hu) h
  case splicePulse => exact kept.splicePulse h
  case operatorButton => exact kept.operatorButton h
  case defectLineRise => exact kept.defectLineRise h
  case defectLengthLimit => exact kept.defectLengthLimit h
  case headTimeout => exact kept.headTimeout h
  case cutDue => exact keptByRuns.cutDue h
  case doff => exact keptByRuns.doff h
  case overlengthCondition => exact kept.overlengthCondition h
  case labelTransferEnd => exact kept.labelTransferEnd h
  case printerTimeout => exact kept.printerTimeout h

theorem resetWith_lineLaw (p : Pins) (q : List Instr) : LineLaw (State.resetWith p q) := by
  simp [LineLaw, State.resetWith, Lsc.reset]

end

/-- Settles O8: causes, START, RESUME, END_JOB and the return to READY each move permit, latched causes and line state
together. -/
theorem everyStepKeepsLineLaw : Obligations.EveryStepKeepsLineLaw := fun _ _ law runs =>
  step_keeps_law lineLaw_reads lineLaw_reads (fun _ h => h) resetWith_lineLaw
    (fun _ _ _ _ _ is meets h => request_lineLaw is meets h) (fun _ _ _ is meets h runs => operation_lineLaw is meets h runs)
    (fun _ h => h) law runs

end Sys2Proof.Machine
end

section
/-! PROOFS. The law of the nip (O7): an evaluation of the close conditions restores it wherever they may have changed. -/

namespace Sys2Proof.Machine

-- one proof at a time: the joined package would else open a thread for each of them
set_option Elab.async false

/-- What the nip holds in any state: closed-since of a CLOSED nip alone, and no pressure on an open or opening one. -/
structure NipShape (s : State) : Prop where
  since : s.emb.closedSince.isSome = true ↔ s.emb.nip = .closed
  pressure : s.emb.nip = .lifted ∨ s.emb.nip = .lifting → s.emb.pwm.duty = 0 ∧ s.emb.pwm.setDuty = 0

section
variable {s : State}

theorem NipLaw.shape (h : NipLaw s) : NipShape s := ⟨h.2.1, h.2.2⟩

theorem NipLaw.mayClose (h : NipLaw s) (closing : s.emb.nip = .engaging ∨ s.emb.nip = .closed) : s.mayClose = true :=
  h.1 closing

theorem NipShape.law (h : NipShape s) (may : s.emb.nip = .engaging ∨ s.emb.nip = .closed → s.mayClose = true) : NipLaw s :=
  ⟨may, h.since, h.pressure⟩

theorem NipShape.congr {u : State} (h : NipShape s) (nip : u.emb.nip = s.emb.nip)
    (since : u.emb.closedSince = s.emb.closedSince) (pwm : u.emb.pwm = s.emb.pwm) : NipShape u := by
  refine ⟨?_, ?_⟩
  · rw [since, nip]
    exact h.since
  · rw [nip, pwm]
    exact h.pressure

theorem State.nipEngage_mayClose (s : State) (j : Job) : (s.nipEngage j).mayClose = s.mayClose :=
  State.mayClose_congr rfl rfl rfl rfl rfl rfl

theorem State.nipEngage_law (j : Job) (may : s.mayClose = true) : NipLaw (s.nipEngage j) :=
  ⟨fun _ => (s.nipEngage_mayClose j).trans may, by simp [State.nipEngage], by simp [State.nipEngage]⟩

theorem State.nipLift_law : NipLaw s.nipLift :=
  ⟨by simp [State.nipLift], by simp [State.nipLift], by simp [State.nipLift, Pwm.setTo]⟩

/-- An evaluation leaves the law, whatever has changed (R77, R78). -/
theorem NipShape.evaluated (h : NipShape s) : NipLaw s.evaluateNip := by
  unfold State.evaluateNip
  cases nip : s.emb.nip with
  | lifted =>
    dsimp only
    split
    next may =>
      unfold State.withJob
      split
      · exact h.law (by simp [nip])
      · exact s.nipEngage_law _ may
    next => exact h.law (by simp [nip])
  | lifting => exact h.law (by simp [nip])
  | engaging =>
    dsimp only
    split
    next may => exact h.law fun _ => may
    next => exact State.nipLift_law
  | closed =>
    dsimp only
    split
    next may => exact h.law fun _ => may
    next => exact State.nipLift_law

/-- What judges the nip and the nip's own items as they were. -/
theorem NipLaw.congr {u : State} (h : NipLaw s) (nip : u.emb.nip = s.emb.nip) (since : u.emb.closedSince = s.emb.closedSince)
    (pwm : u.emb.pwm = s.emb.pwm) (may : u.mayClose = s.mayClose) : NipLaw u :=
  (h.shape.congr nip since pwm).law fun closing => may.trans (h.mayClose (nip ▸ closing))

theorem NipLaw.setLineState (x : LineState) (h : NipLaw s) : NipLaw (s.setLineState x) := by
  unfold State.setLineState
  split
  · exact h
  · exact NipShape.evaluated (h.shape.congr rfl rfl rfl)

theorem NipShape.setLineState {x : LineState} (h : NipShape s) (moves : s.lsc.lineState ≠ x) :
    NipLaw (s.setLineState x) := by
  unfold State.setLineState
  rw [if_neg moves]
  exact NipShape.evaluated (h.congr rfl rfl rfl)

theorem NipLaw.cause (c : HoldCause) (h : NipLaw s) : NipLaw (s.raiseCause c) := by
  have kept : ∀ {u : State}, u.emb = s.emb → u.lsc.lineState = s.lsc.lineState → u.lsc.job = s.lsc.job → u.trk = s.trk →
      u.wpu = s.wpu → NipLaw u := fun {u} emb line job trk wpu =>
    h.congr (by rw [emb]) (by rw [emb]) (by rw [emb]) (State.mayClose_congr line job (by rw [emb]) (by rw [emb]) (by rw [trk])
      (by rw [wpu]))
  unfold State.raiseCause
  split
  · split
    · exact NipLaw.setLineState .hold (kept rfl rfl rfl rfl rfl)
    · split
      · exact h
      · exact kept rfl rfl rfl rfl rfl
    · split
      · exact kept rfl rfl rfl rfl rfl
      · exact kept rfl rfl rfl rfl rfl
    · exact kept rfl rfl rfl rfl rfl
    · exact kept rfl rfl rfl rfl rfl
  · exact kept rfl rfl rfl rfl rfl

theorem NipShape.cause (c : HoldCause) (h : NipShape s) : NipShape (s.raiseCause c) := by
  unfold State.raiseCause
  split
  · split
    next run => exact (NipShape.setLineState (s := (s.latch c).dropPermit) (h.congr rfl rfl rfl)
        (by simp [State.latch, State.dropPermit, run])).shape
    · split <;> exact h.congr rfl rfl rfl
    · split <;> exact h.congr rfl rfl rfl
    · exact h.congr rfl rfl rfl
    · exact h.congr rfl rfl rfl
  · exact h.congr rfl rfl rfl

theorem NipShape.checkSpeed (j : Job) (h : NipShape s) : NipShape (s.checkSpeed j) := by
  unfold State.checkSpeed
  dsimp only
  split
  · split
    · exact NipShape.cause .overspeed (h.congr rfl rfl rfl)
    · exact h.congr rfl rfl rfl
  · exact h.congr rfl rfl rfl

theorem nipLaw_reads : ReadsOnly [.wpu, .trk, .emb, .lsc] NipLaw where
  congr {s u} same h := by
    have emb : u.emb = s.emb := same .emb (by decide)
    have lsc : u.lsc = s.lsc := same .lsc (by decide)
    have trk : u.trk = s.trk := same .trk (by decide)
    have wpu : u.wpu = s.wpu := same .wpu (by decide)
    exact h.congr (by rw [emb]) (by rw [emb]) (by rw [emb]) (State.mayClose_congr (by rw [lsc]) (by rw [lsc]) (by rw [emb])
      (by rw [emb]) (by rw [trk]) (by rw [wpu]))
  links := by decide
  queue := by decide

/-- The nip's law over a change of the records or of the events, the EVENT_LOST condition as it was. -/
theorem NipLaw.track {t : Trk} (lost : t.eventLost = s.trk.eventLost) (h : NipLaw s) : NipLaw { s with trk := t } :=
  h.congr rfl rfl rfl (State.mayClose_congr rfl rfl rfl rfl lost rfl)

theorem NipLaw.emboss {e : Emb} (nip : e.nip = s.emb.nip) (since : e.closedSince = s.emb.closedSince)
    (pwm : e.pwm = s.emb.pwm) (lift : e.hostLift = s.emb.hostLift) (zone : e.zoneActive = s.emb.zoneActive) (h : NipLaw s) :
    NipLaw { s with emb := e } :=
  h.congr nip since pwm (State.mayClose_congr rfl rfl lift zone rfl rfl)

theorem NipLaw.coverBegin (j : Job) (n : Nat) (h : NipLaw s) : NipLaw (s.coverBegin j n) := by
  unfold State.coverBegin
  split
  · exact h
  · exact NipShape.evaluated (h.shape.congr rfl rfl rfl)

theorem NipLaw.liftCheck (j : Job) (n : Nat) (h : NipLaw s) : NipLaw (s.liftCheck j n) := by
  unfold State.liftCheck
  split
  · exact h
  · split
    · dsimp only
      split
      · exact h.congr rfl rfl rfl (State.mayClose_congr rfl rfl rfl rfl rfl rfl)
      · exact h.congr rfl rfl rfl (State.mayClose_congr rfl rfl rfl rfl rfl rfl)
    · exact h.track rfl

theorem NipLaw.coverAtInsertion (j : Job) (n : Nat) (h : NipLaw s) : NipLaw (s.coverAtInsertion j n) := by
  have first : NipLaw (if ((s.trk.events[n]?).any fun e => s.coverBeginDue j e) = true then s.coverBegin j n else s) := by
    split
    · exact h.coverBegin j n
    · exact h
  unfold State.coverAtInsertion
  dsimp only
  split at first
  next due =>
    rw [if_pos due]
    split
    · exact first.liftCheck j n
    · exact first
  next other =>
    rw [if_neg other]
    split
    · exact first.liftCheck j n
    · exact first

/-- The emptied track has no EVENT_LOST condition, as a closing nip had none before. -/
theorem NipLaw.emptyTrack (h : NipLaw s) : NipLaw s.emptyTrack := by
  refine NipShape.law (h.shape.congr rfl rfl rfl) fun closing => ?_
  obtain ⟨run, on, lift, zone, -, speed⟩ := (State.mayClose_iff s).mp (h.mayClose closing)
  exact (State.mayClose_iff _).mpr ⟨run, on, lift, zone, rfl, speed⟩

/-- An abort of the emboss train leaves the nip. -/
theorem State.abortEmboss_nip (s : State) :
    s.abortEmboss.emb.nip = s.emb.nip ∧ s.abortEmboss.emb.closedSince = s.emb.closedSince ∧
      s.abortEmboss.emb.pwm = s.emb.pwm := by
  unfold State.abortEmboss
  dsimp only
  split
  · split <;> exact ⟨rfl, rfl, rfl⟩
  · exact ⟨rfl, rfl, rfl⟩

theorem Emb.atReturn_nip (e : Emb) :
    e.atReturn.nip = e.nip ∧ e.atReturn.closedSince = e.closedSince ∧ e.atReturn.pwm = e.pwm := ⟨rfl, rfl, rfl⟩

theorem State.embossReturn_nip (s : State) :
    s.embossReturn.emb.nip = s.emb.nip ∧ s.embossReturn.emb.closedSince = s.emb.closedSince ∧
      s.embossReturn.emb.pwm = s.emb.pwm := by
  obtain ⟨nip, since, pwm⟩ := s.abortEmboss_nip
  obtain ⟨nip', since', pwm'⟩ := s.abortEmboss.emb.atReturn_nip
  rw [State.embossReturn_emb]
  exact ⟨nip'.trans nip, since'.trans since, pwm'.trans pwm⟩

/-- The last steps of the return to READY, from the state r that the blocks have left. -/
theorem NipShape.left (r : State) (h : NipShape r)
    (opened : r.lsc.lineState = .ready → ¬(r.emb.nip = .engaging ∨ r.emb.nip = .closed)) :
    ∀ a, a = (({ r with
      msc := r.msc.atBoundary, wnd := r.wnd.atReturn,
      lsc := { r.lsc with latched := {}, runPermit := false } } : State).setLineState .ready) → NipLaw a := by
  rintro a rfl
  have shape : NipShape { r with
      msc := r.msc.atBoundary, wnd := r.wnd.atReturn, lsc := { r.lsc with latched := {}, runPermit := false } } :=
    h.congr rfl rfl rfl
  by_cases ready : r.lsc.lineState = .ready
  · rw [State.setLineState_same (by exact ready)]
    exact shape.law fun closing => absurd closing (opened ready)
  · exact shape.setLineState ready

/-- The return to READY judges the nip; in READY it is open already. -/
theorem NipLaw.returned (h : NipLaw s) : NipLaw s.returnToReady := by
  have before := (s.registerReturn_affects).comp (ds := [.rlp, .stg, .emb]) s.registerReturn.embossReturn_affects
  have last := s.registerReturn.embossReturn.shadeReturn_affects
  have after := before.comp (ds := [.rlp, .stg, .emb, .shu, .trk]) last
  have same : s.registerReturn.emb = s.emb := s.registerReturn_affects.1.emb (by decide)
  obtain ⟨nip, since, pwm⟩ := s.registerReturn.embossReturn_nip
  have emb := last.1.emb (by decide)
  rw [← emb, same] at nip since pwm
  have shape : NipShape s.registerReturn.embossReturn.shadeReturn := h.shape.congr nip since pwm
  have line : s.registerReturn.embossReturn.shadeReturn.lsc = s.lsc := after.1.lsc (by decide)
  refine NipShape.left _ shape (fun ready closing => ?_) s.returnToReady (by simp only [State.returnToReady])
  rw [nip] at closing
  obtain ⟨run, -⟩ := (State.mayClose_iff s).mp (h.mayClose closing)
  rw [line, run] at ready
  cases ready

theorem nipLaw_keptByCuts : KeptByCuts NipLaw where
  entry _ h := h
  roll _ h := h
  assign _ _ _ h := nipLaw_reads.frame (State.assignBatch_affects _ _ _ _) rfl h
  told _ h := h
  labels h := nipLaw_reads.frame (State.labelWork_affects _) rfl h
  winder _ h := h
  records _ h := h.track rfl
  events _ h := h.track rfl
  permit h := h.congr rfl rfl rfl (State.mayClose_congr rfl rfl rfl rfl rfl rfl)
  allocate _ _ _ _ h := nipLaw_reads.frame (State.allocate_affects _ _ _ _) rfl h

theorem NipLaw.arrive (j : Job) (e : WebEvent) (h : NipLaw s) : NipLaw (s.arrive j e) := by
  unfold State.arrive
  split
  · unfold State.fullArrival
    dsimp only
    split
    · exact h
    · have frame := (State.updateOpenEntry_affects { s with trk := { s.trk with eventLost := true } } fun e =>
          { e with flags := { e.flags with eventLost := true } }).1.emb (by decide)
      refine NipLaw.cause (s := State.evaluateNip _) .eventLost (NipShape.evaluated (h.shape.congr ?_ ?_ ?_)) <;> rw [frame]
  · refine nipLaw_keptByCuts.judgeSplices j ?_
    have entered := h.track (t := { s.trk with events := insertSorted e s.trk.events }) rfl
    exact entered.coverAtInsertion j _

theorem nipLaw_keptByLine : KeptByLine NipLaw where
  toKeptByCuts := nipLaw_keptByCuts
  pins _ h := h
  web speed h := h.congr rfl rfl rfl (State.mayClose_congr rfl rfl rfl rfl rfl speed)
  arrive j e h := h.arrive j e
  cause c h := h.cause c
  reads := nipLaw_reads
  emboss nip since pwm lift zone _ h := h.emboss nip since pwm lift zone

theorem nipLaw_keptByRuns : KeptByRuns NipLaw where
  toKeptByEvents := nipLaw_keptByLine.toKeptByEvents
  empty h := h.emptyTrack
  returned _ h := h.returned
  withdraw seq h := nipLaw_reads.frame (State.withdrawLabel_affects _ seq) rfl h
  unattach seq h := nipLaw_reads.frame (State.unattachSent_affects _ seq) rfl h
  release _ h := h

/-! ### Commands -/

theorem NipLaw.coverEnd (h : NipLaw s) : NipLaw s.coverEnd := NipShape.evaluated (h.shape.congr rfl rfl rfl)

theorem NipLaw.attribute (n : Nat) (h : NipLaw s) : NipLaw (s.attribute n) := by
  unfold State.attribute State.updateContaining
  split
  · exact h
  · split
    · exact nipLaw_keptByCuts.modifyEvent _ _ h
    · exact nipLaw_keptByCuts.modifyEvent _ _ (nipLaw_reads.frame (State.updateEntry_affects _ _ _) rfl h)

theorem NipLaw.removeEvent (n : Nat) (h : NipLaw s) : NipLaw (s.removeEvent n) := by
  have ended : ∀ u : State, NipLaw u → NipLaw u.endEventLost := fun u hu => by
    unfold State.endEventLost
    split
    · exact NipShape.evaluated (hu.shape.congr rfl rfl rfl)
    · exact hu
  unfold State.removeEvent
  extract_lets u trk v
  have counted : NipLaw u := by
    dsimp only [u]
    split
    · exact h.attribute n
    · exact h
  have removed : NipLaw v := counted.track rfl
  split
  · exact ended v removed
  · exact removed

/-- The emboss loop's own operations leave the nip. -/
theorem NipLaw.embossMiss (j : Job) (h : NipLaw s) : NipLaw (s.embossMiss j) := by
  unfold State.embossMiss
  dsimp only
  split
  · exact h.emboss rfl rfl rfl rfl rfl
  · exact h.emboss rfl rfl rfl rfl rfl

theorem NipLaw.embossCompute (j : Job) (samples : List Int) (h : NipLaw s) : NipLaw (s.embossCompute j samples) := by
  have latched : ∀ (u : State) f, NipLaw u → NipLaw (u.latchEmboss f) := fun u f hu => by
    unfold State.latchEmboss
    dsimp only
    split <;> exact hu.emboss rfl rfl rfl rfl rfl
  have flagged := latched { s with emb := { s.emb with acc := [] } } (cauFull samples s.emb.trim j.emboss).flags
    (h.emboss rfl rfl rfl rfl rfl)
  unfold State.embossCompute
  dsimp only
  split
  · exact flagged
  · exact nipLaw_reads.frame (State.startTrain_affects _ _ _ _ _) rfl (flagged.emboss rfl rfl rfl rfl rfl)

theorem NipLaw.indexEdge (j : Job) (x : Count) (h : NipLaw s) : NipLaw (s.indexEdge j x) := by
  have offered : ∀ (u : State) e b, NipLaw u → NipLaw (u.embossOffer j e b) := fun u e b hu => by
    unfold State.embossOffer
    split
    · exact hu
    · exact hu.emboss rfl rfl rfl rfl rfl
    · split
      · dsimp only
        split
        · exact hu.emboss rfl rfl rfl rfl rfl
        · exact hu.embossCompute j _
      · exact hu
  unfold State.indexEdge
  split
  · exact offered _ _ _ (NipLaw.emboss (s := { s with emb := _ }) rfl rfl rfl rfl rfl (h.emboss rfl rfl rfl rfl rfl))
  · exact h

theorem NipLaw.closeFlywheel (c : Closing) (h : NipLaw s) : NipLaw (s.closeFlywheel c) :=
  nipLaw_keptByLine.outcomeTransfer _ _ _ (nipLaw_reads.frame (affects_msc s _) rfl h)

theorem NipLaw.startPoint (j : Job) (index : BitVec 32) (rest : List (BitVec 32 × Count)) (h : NipLaw s) :
    NipLaw (s.startPoint j index rest) := by
  have shade : ∀ (u : State) x, NipLaw u → NipLaw { u with shu := x } := fun u x hu =>
    nipLaw_reads.frame (affects_shu u x) rfl hu
  unfold State.startPoint
  dsimp only
  split
  · exact shade _ _ (shade _ _ h)
  all_goals exact shade _ _ (nipLaw_keptByCuts.updateRecord _ _ (shade _ _ h))

theorem NipLaw.readDone (j : Job) (raw : Shade) (h : NipLaw s) : NipLaw (s.readDone j raw) := by
  have shade : ∀ (u : State) x, NipLaw u → NipLaw { u with shu := x } := fun u x hu =>
    nipLaw_reads.frame (affects_shu u x) rfl hu
  unfold State.readDone
  dsimp only
  split
  · split
    · unfold State.takeSmeared
      split
      · exact shade _ _ (nipLaw_keptByCuts.updateRecord _ _ (shade _ _ (shade _ _ h)))
      · exact shade _ _ (shade _ _ h)
    · unfold State.takeReading
      dsimp only
      split
      · refine nipLaw_reads.frame (State.offerReading_affects _ _ _) rfl ?_
        exact shade _ _ (nipLaw_keptByCuts.updateRecord _ _ (shade _ _ (shade _ _ (shade _ _ h))))
      · exact shade _ _ (shade _ _ (shade _ _ h))
  · exact shade _ _ h

theorem NipLaw.takeStart (j : Job) (h : NipLaw s) (ready : s.lsc.lineState = .ready) : NipLaw (s.takeStart j) := by
  have frame := State.leadIn_affects { (s.mapStations Station.atStart).scannerStart with
    wpu := { s.wpu with faultCount := 0 }, emb := s.emb.atStart, shu := s.shu.atStart, bat := s.bat.atStart } j
  have emb : (s.startBlocks j).emb = s.emb.atStart := frame.1.emb (by decide)
  have line : (s.startBlocks j).lsc = s.lsc := frame.1.lsc (by decide)
  have shape : NipShape (s.startBlocks j) := by
    refine ⟨?_, ?_⟩
    · rw [emb]
      simp only [Emb.atStart]
      split
      next closed => exact h.shape.since
      next other => simpa using other
    · rw [emb]
      exact h.shape.pressure
  have running : NipLaw (({ s.startBlocks j with lsc := { (s.startBlocks j).lsc with runPermit := true } } : State).setLineState
      .run) := NipShape.setLineState (shape.congr rfl rfl rfl) (by simp [line, ready])
  have opening := nipLaw_keptByLine.openingOccasion j running
  have examined : ∀ {u : State} (c : HoldCause), NipLaw u → NipLaw (u.examine c) := fun {u} c hu => by
    unfold State.examine
    split
    · exact hu.cause c
    · exact hu
  have first := examined .overspeed (examined .encoder opening)
  have second := examined .printerOffline (examined .headOffline first)
  exact second

theorem nipLaw_takeJob (j : Job) : NipLaw (s.takeJob j) := by
  unfold State.takeJob
  refine NipLaw.setLineState .ready (nipLaw_reads.frame (State.batchLoad_affects _ j) rfl ?_)
  exact ⟨by simp [Emb.atLoad], by simp [Emb.atLoad], by simp [Emb.atLoad, Pwm.setTo, Pwm.configure]⟩

theorem request_nipLaw {c : Instr} {l : LinkId} {tag : Byte} {x : Service} (is : requestOf c = some (l, tag, x))
    (meets : ([.wpu, .trk, .emb, .lsc] : List Block).any (blocksOf c).contains = true) (h : NipLaw s) :
    NipLaw (x.act s).1 := by
  have kept := nipLaw_keptByLine
  cases c <;> cases is <;> try contradiction
  case lineStatus => exact h.congr rfl rfl rfl (State.mayClose_congr rfl rfl rfl rfl rfl rfl)
  case grantService => exact h.congr rfl rfl rfl (State.mayClose_congr rfl rfl rfl rfl rfl rfl)
  case revokeService => exact h.congr rfl rfl rfl (State.mayClose_congr rfl rfl rfl rfl rfl rfl)
  case embossStatus => exact h.emboss rfl rfl rfl rfl rfl
  case embossLift =>
    simp only [embossLiftService]
    split
    · exact NipShape.evaluated (h.shape.congr rfl rfl rfl)
    · exact h
  case embossClose =>
    simp only [embossCloseService]
    split
    · exact NipShape.evaluated (h.shape.congr rfl rfl rfl)
    · exact h
  case start =>
    simp only [startService]
    split
    next ready =>
      refine answerWithJob_keeps h fun j job => ?_
      split
      · exact h
      · split
        · exact h
        · rw [done_fst]
          exact h.takeStart j ready
    next => exact h
  case hold =>
    simp only [holdService]
    split
    · exact h.cause .host
    · exact h
  case resume =>
    have cleared : NipLaw s.clearLatched := h.congr rfl rfl rfl (State.mayClose_congr rfl rfl rfl rfl rfl rfl)
    simp only [resumeService]
    split
    · split
      · rw [done_fst]
        exact NipLaw.setLineState .run (cleared.congr rfl rfl rfl (State.mayClose_congr rfl rfl rfl rfl rfl rfl))
      · exact cleared
    · exact h
  case endJob => exact nipLaw_keptByRuns.endJob (fun _ => h.setLineState .ending) h
  case abortJob => exact nipLaw_keptByRuns.abortJob h
  case releaseEntries => exact nipLaw_keptByRuns.releaseEntries _ h
  case stationDisengage => exact kept.stationDisengage _ h
  case markEvent => exact kept.markEvent h
  case loadJob =>
    simp only [loadJobService]
    split
    · split
      · exact h
      · rw [done_fst]
        exact nipLaw_takeJob _
    · exact h

/-- The nip's own timed and position-driven commands. -/
theorem operation_nipLaw_nip {c : Instr} (is : isOperation c = true) (nip : c = .engageTimerExpiry ∨ c = .liftTimerExpiry ∨
    c = .liftCoverageBegin ∨ c = .liftCoverageEnd ∨ c = .liftCheck ∨ c = .pwmPeriodStart .nip) (h : NipLaw s) :
    ∃ u, exec c s = .next u.endOfEvent ∧ NipLaw u := by
  rcases nip with rfl | rfl | rfl | rfl | rfl | rfl
  · refine ⟨_, rfl, ?_⟩
    split
    next engaging =>
      refine ⟨fun _ => ?_, by simp, by simp⟩
      exact (State.mayClose_congr rfl rfl rfl rfl rfl rfl).trans (h.mayClose (.inl engaging))
    next => exact h
  · refine ⟨_, rfl, ?_⟩
    split
    next lifting =>
      refine NipShape.evaluated ⟨?_, fun _ => h.shape.pressure (.inr lifting)⟩
      have := h.shape.since
      simpa [lifting] using this
    next => exact h
  · refine ⟨_, rfl, withJob_keeps h fun j _ => ?_⟩
    split
    · exact h.coverBegin j _
    · exact h
  · refine ⟨_, rfl, withJob_keeps h fun j _ => ?_⟩
    split
    · exact h.coverEnd
    · exact h
  · refine ⟨_, rfl, withJob_keeps h fun j _ => ?_⟩
    split
    · exact h.liftCheck j _
    · exact h
  · refine ⟨_, rfl, NipShape.law ⟨h.shape.since, fun opened => ?_⟩ fun closing => ?_⟩
    · exact ⟨(h.shape.pressure opened).2, (h.shape.pressure opened).2⟩
    · exact (State.mayClose_congr rfl rfl rfl rfl rfl rfl).trans (h.mayClose closing)

theorem operation_nipLaw {c : Instr} {t : State} (is : isOperation c = true)
    (meets : ([.wpu, .trk, .emb, .lsc] : List Block).any (blocksOf c).contains = true) (h : NipLaw s)
    (runs : exec c s = .next t) : NipLaw t := by
  have kept := nipLaw_keptByLine
  cases c <;> try contradiction
  all_goals refine nipLaw_reads.ends ?_ runs
  case engageTimerExpiry | liftTimerExpiry | liftCoverageBegin | liftCoverageEnd | liftCheck =>
    exact operation_nipLaw_nip rfl (by simp) h
  case pwmPeriodStart g =>
    cases g with
    | nip => exact operation_nipLaw_nip rfl (by simp) h
    | torque => contradiction
  case encoderTransition => exact nipLaw_keptByRuns.encoderTransition h
  case encoderFault => exact kept.encoderFault h
  case speedWindowEnd =>
    refine ⟨_, rfl, NipShape.evaluated ?_⟩
    have measured : NipShape { s with wpu := s.wpu.closeWindow } := h.shape.congr rfl rfl rfl
    exact withJob_keeps measured fun j _ => measured.checkSpeed j
  case stoppedFlagSet => exact nipLaw_keptByRuns.stoppedFlagSet h
  case markEdge => exact kept.markEdge h
  case referenceWindowExpiry => exact kept.referenceWindowExpiry h
  case reacquisitionWindowExpiry =>
    refine ⟨_, rfl, withJob_keeps h fun j _ => ?_⟩
    split
    · exact kept.reacquisitionExpiry j h
    · exact h
  case captureClose => exact kept.captureClose h
  case flywheelClosing =>
    refine ⟨_, rfl, withJob_keeps h fun j _ => ?_⟩
    split
    · split
      · exact h.closeFlywheel _
      · exact h
    · exact h
  case stepPulse => exact kept.stepPulse (fun hu => hu.emboss rfl rfl rfl rfl rfl) h
  case splicePulse => exact kept.splicePulse h
  case operatorButton => exact kept.operatorButton h
  case defectLineRise => exact kept.defectLineRise h
  case defectLineFall =>
    have fallen : NipLaw { s with pins := { s.pins with defectLine := false } } := h
    exact ⟨_, rfl, withJob_keeps fallen fun j _ => kept.closeDefect j _ fallen⟩
  case defectLengthLimit => exact kept.defectLengthLimit h
  case eventAttribution =>
    refine ⟨_, rfl, withJob_keeps h fun j _ => ?_⟩
    split
    · exact h.attribute _
    · exact h
  case eventRemoval =>
    refine ⟨_, rfl, withJob_keeps h fun j _ => ?_⟩
    split
    · exact h.removeEvent _
    · exact h
  case recordFold => exact kept.recordFold h
  case embossWindowExpiry =>
    refine ⟨_, rfl, withJob_keeps h fun j _ => ?_⟩
    split
    · have dropped : NipLaw { s with emb := { s.emb with windows := s.emb.windows.drop 1 } } :=
        h.emboss rfl rfl rfl rfl rfl
      dsimp only
      split
      · exact dropped
      · exact dropped.embossMiss j
    · exact h
  case indexEdge =>
    refine ⟨_, rfl, withJob_keeps h fun j _ => ?_⟩
    split
    · exact h.indexEdge j _
    · exact h
  case embossStatusWrite =>
    refine ⟨_, rfl, withJob_keeps h fun j _ => ?_⟩
    split
    · exact kept.updateRecord _ _ h
    · exact h
  case shadeStartPoint =>
    refine ⟨_, rfl, withJob_keeps h fun j _ => ?_⟩
    split
    · exact h.startPoint j _ _
    · exact h
  case readComplete =>
    refine ⟨_, rfl, ?_⟩
    split
    · exact withJob_keeps h fun j _ => h.readDone j _
    · exact h
  case headTimeout => exact kept.headTimeout h
  case cutDue => exact nipLaw_keptByRuns.cutDue h
  case doff => exact nipLaw_keptByRuns.doff h
  case overlengthCondition => exact kept.overlengthCondition h
  case labelTransferEnd => exact kept.labelTransferEnd h
  case printerTimeout => exact kept.printerTimeout h

theorem resetWith_nipLaw (p : Pins) (q : List Instr) : NipLaw (State.resetWith p q) := by
  refine ⟨?_, ?_, ?_⟩ <;> simp [State.resetWith, Emb.reset, Pwm.reset]

theorem clockCycle_nipLaw (h : NipLaw s) : NipLaw s.clockCycle :=
  NipShape.law ⟨h.shape.since, h.shape.pressure⟩ fun closing =>
    (State.mayClose_congr rfl rfl rfl rfl rfl rfl).trans (h.mayClose closing)

end

/-- Settles O7: wherever a condition of the nip may change, the nip is evaluated, and an evaluation leaves the law. -/
theorem everyStepKeepsNipLaw : Obligations.EveryStepKeepsNipLaw := fun _ _ law runs =>
  step_keeps_law nipLaw_reads nipLaw_reads (fun _ h => h) resetWith_nipLaw
    (fun _ _ _ _ _ is meets h => request_nipLaw is meets h) (fun _ _ _ is meets h runs => operation_nipLaw is meets h runs)
    (fun _ h => clockCycle_nipLaw h) law runs

end Sys2Proof.Machine
end

section
/-! PROOFS. Between jobs nothing of a run remains (O11): while a job runs only its end leaves the running line states, and
between jobs nothing is due. -/

namespace Sys2Proof.Machine

-- one proof at a time: the joined package would else open a thread for each of them
set_option Elab.async false

section
variable {s : State}

/-! ### A job that runs goes on until it ends -/

theorem State.running_congr {u : State} (h : u.lsc.lineState = s.lsc.lineState) : u.running = s.running := by
  unfold State.running
  rw [h]

/-- A raised cause moves the line state from RUN to HOLD alone. -/
theorem Lsc.raised_lineState (l : Lsc) (c : HoldCause) :
    (l.raised c).lineState = l.lineState ∨ l.lineState = .run ∧ (l.raised c).lineState = .hold := by
  unfold Lsc.raised
  split
  next run => exact .inr ⟨run.2, rfl⟩
  next => (repeat' split) <;> exact .inl rfl

theorem State.raiseCause_running (s : State) (c : HoldCause) : (s.raiseCause c).running = s.running := by
  have line : (s.raiseCause c).lsc.lineState = (s.lsc.raised c).lineState := by rw [State.raiseCause_lsc]
  unfold State.running
  rw [line]
  rcases s.lsc.raised_lineState c with same | ⟨run, hold⟩
  · rw [same]
  · rw [run, hold]

theorem State.running_of_affects {bs : List Block} {u : State} (frame : Affects bs s u)
    (apart : bs.contains .lsc = false := by decide) : u.running = s.running :=
  State.running_congr (by rw [State.lsc_of_affects frame apart])

theorem State.arrive_running (s : State) (j : Job) (e : WebEvent) : (s.arrive j e).running = s.running := by
  unfold State.arrive
  split
  · unfold State.fullArrival
    dsimp only
    split
    · rfl
    · refine (State.raiseCause_running _ _).trans ((State.running_of_affects (State.evaluateNip_affects _)).trans ?_)
      exact (State.running_of_affects (bs := [.rlg]) (State.updateOpenEntry_affects _ _)).trans rfl
  · exact State.running_of_affects (s.enterEvent_affects j e)

theorem running_keptByLine (b : Bool) : KeptByLine fun s => s.running = b where
  entry _ h := h
  roll _ h := h
  assign _ _ _ h := (State.running_of_affects (State.assignBatch_affects _ _ _ _)).trans h
  told _ h := h
  labels h := (State.running_of_affects (State.labelWork_affects _)).trans h
  winder _ h := h
  records _ h := h
  events _ h := h
  permit h := h
  allocate _ _ _ _ h := (State.running_of_affects (State.allocate_affects _ _ _ _)).trans h
  pins _ h := h
  web _ h := h
  arrive j e h := (State.arrive_running _ j e).trans h
  cause c h := (State.raiseCause_running _ c).trans h
  reads := {
    congr := fun same h => (State.running_congr (congrArg Lsc.lineState (same .lsc (by decide)))).trans h
    links := by decide
    queue := by decide }
  emboss _ _ _ _ _ _ h := h

/-- The commands that may end a job. -/
def mayEndJob : Instr → Bool
  | .encoderTransition _ | .stoppedFlagSet | .cutDue | .doff _ => true
  | _ => false

/-- Whether a job runs changes with no operation that may not end it. -/
theorem operation_running {c : Instr} {t : State} (is : isOperation c = true) (other : mayEndJob c = false)
    (runs : exec c s = .next t) : t.running = s.running := by
  have kept := running_keptByLine s.running
  by_cases meets : ([.lsc] : List Block).any (blocksOf c).contains = true
  · cases c <;> try contradiction
    case pwmPeriodStart g => cases g <;> contradiction
    all_goals refine kept.reads.ends ?_ runs
    case encoderFault => exact kept.encoderFault rfl
    case speedWindowEnd =>
      refine ⟨_, rfl, (State.running_of_affects (State.evaluateNip_affects _)).trans ?_⟩
      refine withJob_keeps (P := fun u => u.running = s.running) rfl fun j _ => ?_
      unfold State.checkSpeed
      dsimp only
      split
      · split
        · exact State.raiseCause_running _ _
        · rfl
      · rfl
    case markEdge => exact kept.markEdge rfl
    case referenceWindowExpiry => exact kept.referenceWindowExpiry rfl
    case captureClose => exact kept.captureClose rfl
    case stepPulse => exact kept.stepPulse (fun hu => hu) rfl
    case splicePulse => exact kept.splicePulse rfl
    case operatorButton => exact kept.operatorButton rfl
    case defectLineRise => exact kept.defectLineRise rfl
    case defectLengthLimit => exact kept.defectLengthLimit rfl
    case headTimeout => exact kept.headTimeout rfl
    case overlengthCondition => exact kept.overlengthCondition rfl
    case labelTransferEnd => exact kept.labelTransferEnd rfl
    case printerTimeout => exact kept.printerTimeout rfl
  · obtain ⟨u, runs', frame⟩ := exec_sameBut c s
    cases runs'.symm.trans runs
    exact State.running_congr (congrArg Lsc.lineState (frame.lsc (by simpa using meets)))

/-! ### What rests between jobs -/

/-- Nothing of a run remains. -/
structure Rested (s : State) : Prop where
  records : s.trk.records = []
  events : s.trk.events = []
  eventLost : s.trk.eventLost = false
  origin : s.msc.origin = none
  refState : s.msc.refState = .seeking
  capture : s.msc.capture = none
  closings : s.msc.closings = []
  chan : ∀ c : ChannelId, (s.chan c).inFlight = false
  windows : s.emb.windows = []
  zone : s.emb.zoneActive = false
  phase : s.emb.phase = .idle
  meas : s.shu.meas = none
  starts : s.shu.starts = []
  active : s.wnd.active = none
  planned : s.wnd.planned = none
  plan : s.wnd.plan = none
  search : s.wnd.search = none

theorem restLaw_iff : RestLaw s ↔ (s.running = false → Rested s) := by
  constructor
  · intro h idle
    obtain ⟨a, b, c, d, e, f, g, i, k, l, m, n, o, p, q, r, t⟩ := h idle
    exact ⟨a, b, c, d, e, f, g, i, k, l, m, n, o, p, q, r, t⟩
  · intro h idle
    have rest := h idle
    exact ⟨rest.records, rest.events, rest.eventLost, rest.origin, rest.refState, rest.capture, rest.closings, rest.chan,
      rest.windows, rest.zone, rest.phase, rest.meas, rest.starts, rest.active, rest.planned, rest.plan, rest.search⟩

theorem RestLaw.of_running (running : s.running = true) : RestLaw s := fun idle => by
  rw [running] at idle
  cases idle

/-- The blocks as they are, but for items of the emboss, shade and winder blocks that no run leaves behind. -/
theorem Rested.congr {u : State} (h : Rested s) (trk : u.trk = s.trk) (msc : u.msc = s.msc) (stg : u.stg = s.stg)
    (emb : u.emb.windows = s.emb.windows ∧ u.emb.zoneActive = s.emb.zoneActive ∧ u.emb.phase = s.emb.phase)
    (shu : u.shu.meas = s.shu.meas ∧ u.shu.starts = s.shu.starts)
    (wnd : u.wnd.active = s.wnd.active ∧ u.wnd.planned = s.wnd.planned ∧ u.wnd.plan = s.wnd.plan ∧
      u.wnd.search = s.wnd.search) : Rested u := by
  obtain ⟨windows, zone, phase⟩ := emb
  obtain ⟨meas, starts⟩ := shu
  obtain ⟨active, planned, plan, search⟩ := wnd
  exact ⟨trk ▸ h.records, trk ▸ h.events, trk ▸ h.eventLost, msc ▸ h.origin, msc ▸ h.refState, msc ▸ h.capture,
    msc ▸ h.closings, fun c => by unfold State.chan; rw [stg]; exact h.chan c, windows ▸ h.windows, zone ▸ h.zone,
    phase ▸ h.phase, meas ▸ h.meas, starts ▸ h.starts, active ▸ h.active, planned ▸ h.planned, plan ▸ h.plan,
    search ▸ h.search⟩

theorem rested_reads : ReadsOnly [.trk, .msc, .stg, .emb, .shu, .wnd] Rested where
  congr {s u} same h := by
    have emb : u.emb = s.emb := same .emb (by decide)
    have shu : u.shu = s.shu := same .shu (by decide)
    have wnd : u.wnd = s.wnd := same .wnd (by decide)
    exact h.congr (same .trk (by decide)) (same .msc (by decide)) (same .stg (by decide)) (by simp [emb]) (by simp [shu])
      (by simp [wnd])
  links := by decide
  queue := by decide

theorem State.evaluateNip_rest (s : State) :
    s.evaluateNip.emb.windows = s.emb.windows ∧ s.evaluateNip.emb.zoneActive = s.emb.zoneActive ∧
      s.evaluateNip.emb.phase = s.emb.phase := by
  unfold State.evaluateNip State.withJob
  repeat' split
  all_goals exact ⟨rfl, rfl, rfl⟩

theorem Rested.evaluated (h : Rested s) : Rested s.evaluateNip := by
  have frame := s.evaluateNip_affects.1
  have shu := frame.shu (by decide)
  have wnd := frame.wnd (by decide)
  exact h.congr (frame.trk (by decide)) (frame.msc (by decide)) (frame.stg (by decide)) s.evaluateNip_rest (by simp [shu])
    (by simp [wnd])

theorem Rested.lsc (h : Rested s) (l : Lsc) : Rested { s with lsc := l } := rested_reads.frame (affects_lsc s l) rfl h

theorem Rested.setLineState (x : LineState) (h : Rested s) : Rested (s.setLineState x) := by
  unfold State.setLineState
  split
  · exact h
  · exact Rested.evaluated (rested_reads.frame (State.raiseNotice_affects _ _) rfl (h.lsc _))

theorem Rested.cause (c : HoldCause) (h : Rested s) : Rested (s.raiseCause c) := by
  have told : ∀ (u : State) n, Rested u → Rested (u.raiseNotice n) := fun u n hu =>
    rested_reads.frame (u.raiseNotice_affects n) rfl hu
  have permit : ∀ u : State, Rested u → Rested u.dropPermit := fun u hu => hu.lsc _
  have latch : ∀ u : State, Rested u → Rested (u.latch c) := fun u hu => hu.lsc _
  unfold State.raiseCause
  split
  · split
    · exact (permit _ (latch _ h)).setLineState .hold
    · split
      · exact h
      · exact told _ _ (latch _ h)
    · split
      · exact permit _ h
      · exact told _ _ (permit _ (latch _ h))
    · exact h.lsc _
    · exact h.lsc _
  · exact h.lsc _

/-- The end of a job leaves nothing of it (R187). -/
theorem State.finishJob_rested (s : State) (j : Job) (aborted : Bool) : Rested (s.finishJob j aborted) := by
  obtain ⟨-, msc, active, planned, plan, -, chan, meas, starts, windows, phase, zone, records, events, lost⟩ :=
    s.finishJob_spec j aborted
  refine ⟨records, events, lost, by rw [msc]; rfl, by rw [msc]; rfl, by rw [msc]; rfl, by rw [msc]; rfl, chan, windows, zone,
    phase, meas, starts, active, planned, plan, ?_⟩
  unfold State.finishJob
  rw [(State.returnToReady_spec _).2.2.1]
  rfl

theorem State.tailCheck_restLaw (j : Job) (running : s.running = true) : RestLaw (s.tailCheck j) := by
  unfold State.tailCheck
  split
  · exact restLaw_iff.mpr fun _ => s.finishJob_rested j false
  · exact RestLaw.of_running running

theorem Rested.tryWaiting (j : Job) (h : Rested s) : s.tryWaiting j = s := by
  unfold State.tryWaiting
  rw [h.planned]

theorem State.not_ending_of_idle (idle : s.running = false) : s.lsc.lineState ≠ .ending := fun ending => by
  unfold State.running at idle
  rw [ending] at idle
  cases idle

/-- A waiting cut or the end of a tail, after an operation that leaves the law and whether a job runs. -/
theorem RestLaw.waitingTail (j : Job) (h : RestLaw s) : RestLaw ((s.tryWaiting j).tailCheck j) := by
  cases running : s.running with
  | true => exact State.tailCheck_restLaw j ((running_keptByLine true).tryWaiting j running)
  | false =>
    have rest := restLaw_iff.mp h running
    rw [rest.tryWaiting j, State.tailCheck_line j (State.not_ending_of_idle running)]
    exact h

theorem RestLaw.tailCheck (j : Job) (h : RestLaw s) : RestLaw (s.tailCheck j) := by
  cases running : s.running with
  | true => exact State.tailCheck_restLaw j running
  | false =>
    rw [State.tailCheck_line j (State.not_ending_of_idle running)]
    exact h

/-- Blocks that the law does not read, whether a job runs among them. -/
theorem RestLaw.of_rest {u : State} (running : u.running = s.running) (rest : Rested s → Rested u) (h : RestLaw s) :
    RestLaw u :=
  restLaw_iff.mpr fun idle => rest (restLaw_iff.mp h (running ▸ idle))

theorem RestLaw.frame {bs : List Block} {u : State} (frame : Affects bs s u)
    (apart : ([.trk, .msc, .stg, .emb, .shu, .wnd, .lsc] : List Block).any bs.contains = false) (h : RestLaw s) :
    RestLaw u := restLaw_reads.frame frame apart h

theorem RestLaw.openingOccasion (j : Job) (h : RestLaw s) : RestLaw (s.openingOccasion j) := by
  cases running : s.running with
  | true => exact RestLaw.of_running ((running_keptByLine true).openingOccasion j running)
  | false =>
    unfold State.openingOccasion
    rw [if_neg (by simp [running])]
    exact h

theorem operation_mayEnd_restLaw {c : Instr} (ends : mayEndJob c = true) (h : RestLaw s) :
    ∃ u, exec c s = .next u.endOfEvent ∧ RestLaw u := by
  cases c <;> try contradiction
  case encoderTransition line =>
    refine ⟨_, rfl, ?_⟩
    have moved : RestLaw { s with pins := flipLine s.pins line, wpu := s.wpu.move (forwardChange s.pins line) } := h
    split
    · refine withJob_keeps (s := { s with pins := _, wpu := _ }) moved fun j _ => ?_
      refine RestLaw.waitingTail j ?_
      split
      · exact RestLaw.openingOccasion j h
      · exact h
    · split
      · exact h
      · exact h
  case stoppedFlagSet =>
    refine ⟨_, rfl, ?_⟩
    split
    · exact h
    · have stopped : RestLaw { s with wpu := { s.wpu with stopped := true, stoppedTime := Config.stoppedLimit } } := h
      exact withJob_keeps stopped fun j _ => stopped.tailCheck j
  case cutDue =>
    refine ⟨_, rfl, withJob_keeps h fun j _ => ?_⟩
    split
    next x due =>
      refine State.tailCheck_restLaw j ((running_keptByLine true).takeCut j _ _ _ ?_)
      refine Classical.byContradiction fun idle => ?_
      have rest := restLaw_iff.mp h (by simpa using idle)
      unfold State.cutDueAt at due
      rw [rest.planned] at due
      cases due
    next => exact h
  case doff k =>
    refine ⟨_, rfl, ?_⟩
    unfold State.takeDoff
    split
    · have emptied : RestLaw (s.putSpindle k .empty) :=
        RestLaw.of_rest (s := s) (by cases k <;> rfl) (fun rest => by
          cases k <;> exact rest.congr rfl rfl rfl ⟨rfl, rfl, rfl⟩ ⟨rfl, rfl⟩ ⟨rfl, rfl, rfl, rfl⟩) h
      have doffed : ∀ u, RestLaw u → RestLaw (u.withJob fun j => (u.tryWaiting j).tailCheck j) := fun u hu =>
        withJob_keeps hu fun j _ => hu.waitingTail j
      dsimp only
      split
      · exact doffed _ (RestLaw.frame (State.doffEntry_affects _ _) rfl emptied)
      · exact doffed _ emptied
    · exact h
    · exact h

/-! ### Between jobs nothing is due -/

/-- A command that does nothing where nothing is due. -/
theorem withJob_idle {f : Job → State} (nothing : ∀ j, f j = s) : s.withJob f = s := by
  unfold State.withJob
  split
  · rfl
  · exact nothing _

theorem Rested.pins (h : Rested s) (p : Pins) : Rested { s with pins := p } := rested_reads.frame (affects_pins s p) rfl h
theorem Rested.wpu (h : Rested s) (w : Wpu) : Rested { s with wpu := w } := rested_reads.frame (affects_wpu s w) rfl h

theorem Rested.emb {e : Emb} (same : e.windows = s.emb.windows ∧ e.zoneActive = s.emb.zoneActive ∧ e.phase = s.emb.phase)
    (h : Rested s) : Rested { s with emb := e } := h.congr rfl rfl rfl same ⟨rfl, rfl⟩ ⟨rfl, rfl, rfl, rfl⟩

theorem Rested.shu {u : Shu} (same : u.meas = s.shu.meas ∧ u.starts = s.shu.starts) (h : Rested s) :
    Rested { s with shu := u } := h.congr rfl rfl rfl ⟨rfl, rfl, rfl⟩ same ⟨rfl, rfl, rfl, rfl⟩

theorem Rested.wnd {w : Wnd} (same : w.active = s.wnd.active ∧ w.planned = s.wnd.planned ∧ w.plan = s.wnd.plan ∧
    w.search = s.wnd.search) (h : Rested s) : Rested { s with wnd := w } :=
  h.congr rfl rfl rfl ⟨rfl, rfl, rfl⟩ ⟨rfl, rfl⟩ same

theorem Rested.checkSpeed (j : Job) (h : Rested s) : Rested (s.checkSpeed j) := by
  unfold State.checkSpeed
  dsimp only
  split
  · split
    · exact (h.wpu _).cause _
    · exact h.wpu _
  · exact h.wpu _

theorem Rested.printerOffline (p : Printer) (why : PrinterFault) (h : Rested s) : Rested (s.printerOffline p why) :=
  Rested.cause _ (rested_reads.frame (State.raiseNotice_affects _ _) rfl
    (rested_reads.frame (s.putPrinter_affects p _) rfl h))

theorem Rested.labelWork (h : Rested s) : Rested s.labelWork := rested_reads.frame s.labelWork_affects rfl h

theorem Rested.transferEnded (t : Transfer) (b : Byte) (h : Rested s) : Rested (s.transferEnded t b) := by
  have freed : Rested { s with lbc := { s.lbc with channel := none } } := rested_reads.frame (affects_lbc s _) rfl h
  unfold State.transferEnded
  refine Rested.labelWork ?_
  dsimp only
  split
  · exact rested_reads.frame (State.labelAccepted_affects _ _ _) rfl freed
  · exact rested_reads.frame (State.labelRejected_affects _ _ _) rfl freed
  · exact Rested.printerOffline _ _ (rested_reads.frame (affects_lbc _ _) rfl freed)

theorem Rested.coverBeginDue (j : Job) (h : Rested s) : (s.trk.events.findIdx? fun e => s.coverBeginDue j e) = none := by
  simp [h.events]

/-- Between jobs an operation that may not end one leaves nothing of a run: what it waits for is not there. -/
theorem operation_rested {c : Instr} {t : State} (is : isOperation c = true) (other : mayEndJob c = false)
    (meets : ([.trk, .msc, .stg, .emb, .shu, .wnd] : List Block).any (blocksOf c).contains = true)
    (idle : s.running = false) (h : Rested s) (runs : exec c s = .next t) : Rested t := by
  have notDue : ∀ j, s.expiryDue j = false := fun j => by simp [State.expiryDue, Msc.expiry, h.refState]
  have noClosing : ∀ j, s.closingDue j = none := fun j => by simp [State.closingDue, h.closings]
  have nothing : ∀ f : Job → State, (∀ j, f j = s) → Rested (s.withJob f) := fun f all => (withJob_idle all).symm ▸ h
  cases c <;> try contradiction
  all_goals refine rested_reads.ends ?_ runs
  case encoderFault => exact ⟨_, rfl, ((h.pins _).wpu _).cause _⟩
  case speedWindowEnd =>
    exact ⟨_, rfl, (withJob_keeps (h.wpu s.wpu.closeWindow) fun j _ => (h.wpu s.wpu.closeWindow).checkSpeed j).evaluated⟩
  case markEdge => exact ⟨_, rfl, by rw [if_neg (by simp [idle])]; exact h⟩
  case referenceWindowExpiry => exact ⟨_, rfl, nothing _ fun j => by rw [if_neg (by simp [notDue])]⟩
  case reacquisitionWindowExpiry => exact ⟨_, rfl, nothing _ fun j => by rw [if_neg (by simp [notDue])]⟩
  case captureClose => exact ⟨_, rfl, nothing _ fun j => by rw [noClosing]⟩
  case flywheelClosing => exact ⟨_, rfl, nothing _ fun j => by rw [noClosing]⟩
  case stepPulse k => exact ⟨_, rfl, by rw [if_neg (by simp [h.chan k])]; exact h⟩
  case stepPulseEnd k =>
    refine ⟨_, rfl, { h with chan := fun c => ?_ }⟩
    rw [State.chan_putChan]
    split
    · exact h.chan k
    · exact h.chan c
  case splicePulse => exact ⟨_, rfl, by rw [if_neg (by simp [idle])]; exact h⟩
  case operatorButton => exact ⟨_, rfl, by rw [if_neg (by simp [idle])]; exact h⟩
  case defectLineRise =>
    refine ⟨_, rfl, ?_⟩
    split
    · refine withJob_keeps (h.pins _) fun j _ => ?_
      unfold State.openingOccasion
      rw [if_neg (by simp [show State.running { s with pins := { s.pins with defectLine := true } } = false from idle])]
      exact h.pins _
    · exact h.pins _
  case defectLineFall =>
    refine ⟨_, rfl, withJob_keeps (h.pins _) fun j _ => ?_⟩
    unfold State.closeDefect
    simp only [h.events, List.findIdx?_nil]
    exact h.pins _
  case defectLengthLimit => exact ⟨_, rfl, nothing _ fun j => by simp [State.defectLimitDue, h.events]⟩
  case eventAttribution => exact ⟨_, rfl, nothing _ fun j => by simp [h.events]⟩
  case eventRemoval => exact ⟨_, rfl, nothing _ fun j => by simp [h.events]⟩
  case recordFold => exact ⟨_, rfl, nothing _ fun j => by simp [State.foldDue, h.records]⟩
  case engageTimerExpiry =>
    refine ⟨_, rfl, ?_⟩
    split
    · exact h.emb ⟨rfl, rfl, rfl⟩
    · exact h
  case liftTimerExpiry =>
    refine ⟨_, rfl, ?_⟩
    split
    · exact Rested.evaluated (h.emb ⟨rfl, rfl, rfl⟩)
    · exact h
  case liftCoverageBegin => exact ⟨_, rfl, nothing _ fun j => by simp [h.events]⟩
  case liftCoverageEnd => exact ⟨_, rfl, nothing _ fun j => by simp [State.coverEndDue, h.zone]⟩
  case liftCheck => exact ⟨_, rfl, nothing _ fun j => by simp [h.events]⟩
  case indexEdge => exact ⟨_, rfl, nothing _ fun j => by simp [idle]⟩
  case embossWindowExpiry => exact ⟨_, rfl, nothing _ fun j => by simp [State.windowDue, h.windows]⟩
  case embossStatusWrite => exact ⟨_, rfl, nothing _ fun j => by simp [embossWriteDue, h.records]⟩
  case pwmPeriodStart g =>
    cases g with
    | nip => exact ⟨_, rfl, h.emb ⟨rfl, rfl, rfl⟩⟩
    | torque => exact ⟨_, rfl, h.wnd ⟨rfl, rfl, rfl, rfl⟩⟩
  case shadeStartPoint => exact ⟨_, rfl, nothing _ fun j => by simp [State.startDue, h.starts]⟩
  case triggerPulseEnd => exact ⟨_, rfl, h.shu ⟨rfl, rfl⟩⟩
  case dataReady => exact ⟨_, rfl, nothing _ fun j => by simp [h.meas]⟩
  case readComplete =>
    refine ⟨_, rfl, ?_⟩
    split
    · refine withJob_keeps h fun j _ => ?_
      unfold State.readDone
      dsimp only
      split
      next some =>
        rw [h.meas] at some
        cases some
      next => exact h.shu ⟨rfl, rfl⟩
    · exact h
  case headTimeout =>
    refine ⟨_, rfl, ?_⟩
    split
    next some =>
      rw [h.meas] at some
      cases some
    next => exact h
  case overlengthCondition => exact ⟨_, rfl, nothing _ fun j => by simp [State.checkOverlength, State.overlengthDue, h.active]⟩
  case transferTimerExpiry => exact ⟨_, rfl, h.wnd ⟨rfl, rfl, rfl, rfl⟩⟩
  case knifePulseEnd => exact ⟨_, rfl, h.wnd ⟨rfl, rfl, rfl, rfl⟩⟩
  case turretPulseEnd => exact ⟨_, rfl, h.wnd ⟨rfl, rfl, rfl, rfl⟩⟩
  case torqueUpdate => exact ⟨_, rfl, nothing _ fun j => by simp [State.torqueDue, h.active]⟩
  case labelTransferEnd =>
    refine ⟨_, rfl, ?_⟩
    split
    · exact h.transferEnded _ _
    · exact h
  case printerTimeout =>
    refine ⟨_, rfl, ?_⟩
    split
    · exact Rested.labelWork (Rested.printerOffline _ _ (rested_reads.frame (affects_lbc s _) rfl h))
    · exact h

theorem operation_restLaw {c : Instr} {t : State} (is : isOperation c = true) (h : RestLaw s) (runs : exec c s = .next t) :
    RestLaw t := by
  cases ends : mayEndJob c with
  | true => exact restLaw_reads.ends (operation_mayEnd_restLaw ends h) runs
  | false =>
    have running := operation_running is ends runs
    refine restLaw_iff.mpr fun idle => ?_
    rw [running] at idle
    have rest := restLaw_iff.mp h idle
    by_cases meets : ([.trk, .msc, .stg, .emb, .shu, .wnd] : List Block).any (blocksOf c).contains = true
    · exact operation_rested is ends meets idle rest runs
    · obtain ⟨u, runs', frame⟩ := exec_sameBut c s
      cases runs'.symm.trans runs
      exact rested_reads.sameBut frame (by simpa using meets) rest

/-! ### Requests -/

theorem State.setLineState_running {x : LineState} (running : x = .run ∨ x = .hold ∨ x = .ending) :
    (s.setLineState x).running = true := by
  unfold State.running
  rw [State.setLineState_lsc]
  rcases running with rfl | rfl | rfl <;> rfl

theorem State.examine_running (s : State) (c : HoldCause) : (s.examine c).running = s.running := by
  unfold State.examine
  split
  · exact s.raiseCause_running c
  · rfl

theorem State.takeStart_running (s : State) (j : Job) : (s.takeStart j).running = true := by
  have running : (({ s.startBlocks j with lsc := { (s.startBlocks j).lsc with runPermit := true } } : State).setLineState
      .run).running = true := State.setLineState_running (.inl rfl)
  have opening := (running_keptByLine true).openingOccasion j running
  unfold State.takeStart
  dsimp only
  rw [State.examine_running, State.examine_running, State.examine_running, State.examine_running]
  exact opening

theorem Rested.takeJob (j : Job) (h : Rested s) : Rested (s.takeJob j) := by
  unfold State.takeJob
  have table : ∀ u : State, Rested u → Rested ((u.batchLoad j).setLineState .ready) := fun u hu => by
    refine Rested.setLineState .ready ?_
    have frame := (u.batchLoad_affects j).1
    have line : ∀ (v : State) b, (v.reportLineBatch b).shu.meas = v.shu.meas ∧
        (v.reportLineBatch b).shu.starts = v.shu.starts := fun v b => by
      unfold State.reportLineBatch
      split <;> exact ⟨rfl, rfl⟩
    have emb := frame.emb (by decide)
    have wnd := frame.wnd (by decide)
    refine hu.congr (frame.trk (by decide)) (frame.msc (by decide)) (frame.stg (by decide)) (by simp [emb]) ?_ (by simp [wnd])
    unfold State.batchLoad
    dsimp only
    split
    · split <;> exact ⟨rfl, rfl⟩
    · rw [(line _ _).1, (line _ _).2]
      split <;> exact ⟨rfl, rfl⟩
  refine table _ ?_
  exact ⟨h.records, h.events, h.eventLost, rfl, rfl, rfl, rfl, h.chan, rfl, rfl, rfl, h.meas, h.starts, h.active, h.planned,
    h.plan, h.search⟩

theorem Rested.reportLineBatch (b : Option LineBatch) (h : Rested s) : Rested (s.reportLineBatch b) := by
  unfold State.reportLineBatch
  split
  · exact h
  · exact h.shu ⟨rfl, rfl⟩

theorem RestLaw.bat (b : Bat) (h : RestLaw s) : RestLaw { s with bat := b } := RestLaw.frame (affects_bat s b) rfl h

theorem RestLaw.reportLineBatch (b : Option LineBatch) (h : RestLaw s) : RestLaw (s.reportLineBatch b) :=
  h.of_rest (State.running_of_affects (s.reportLineBatch_affects b)) fun rest => rest.reportLineBatch b

theorem request_restLaw {c : Instr} {l : LinkId} {tag : Byte} {x : Service} (is : requestOf c = some (l, tag, x))
    (meets : ([.trk, .msc, .stg, .emb, .shu, .wnd, .lsc] : List Block).any (blocksOf c).contains = true) (h : RestLaw s) :
    RestLaw (x.act s).1 := by
  cases c <;> cases is <;> try contradiction
  case lineStatus => exact h
  case grantService => exact h
  case revokeService => exact h
  case embossStatus => exact h
  case shadeStatus => exact h
  case headReset => exact h
  case embossLift =>
    simp only [embossLiftService]
    split
    next running =>
      rw [done_fst]
      exact RestLaw.of_running ((State.running_of_affects (State.evaluateNip_affects _)).trans running)
    next => exact h
  case embossClose =>
    simp only [embossCloseService]
    split
    next running =>
      rw [done_fst]
      exact RestLaw.of_running ((State.running_of_affects (State.evaluateNip_affects _)).trans running)
    next => exact h
  case start =>
    simp only [startService]
    split
    next ready =>
      refine answerWithJob_keeps h fun j job => ?_
      split
      · exact h
      · split
        · exact h
        · rw [done_fst]
          exact RestLaw.of_running (s.takeStart_running j)
    next => exact h
  case hold =>
    simp only [holdService]
    split
    next run =>
      rw [done_fst]
      exact RestLaw.of_running ((s.raiseCause_running _).trans (by simp [State.running, run]))
    next => exact h
  case resume =>
    simp only [resumeService]
    split
    next hold =>
      have running : s.clearLatched.running = true := by simp [State.running, State.clearLatched, hold]
      split
      · rw [done_fst]
        exact RestLaw.of_running (State.setLineState_running (.inl rfl))
      · exact RestLaw.of_running running
    next => exact h
  case endJob =>
    simp only [endJobService]
    split
    · refine answerWithJob_keeps h fun j _ => ?_
      rw [done_fst]
      have ending : (s.setLineState .ending).running = true := State.setLineState_running (.inr (.inr rfl))
      refine State.tailCheck_restLaw j ?_
      unfold State.prepareTail
      split
      · exact ending
      · split <;> exact ending
    · exact h
  case abortJob =>
    simp only [abortJobService]
    split
    · refine answerWithJob_keeps h fun j _ => ?_
      rw [done_fst]
      exact restLaw_iff.mpr fun _ => s.finishJob_rested j true
    · exact h
  case releaseEntries n =>
    simp only [releaseService, done_fst]
    have released : RestLaw { s with rlg := s.rlg.release n } := h
    unfold State.takeRelease
    dsimp only
    split
    · exact released
    · exact withJob_keeps released fun j _ => released.waitingTail j
  case stationDisengage b =>
    have kept := (running_keptByLine s.running).stationDisengage b rfl
    refine restLaw_iff.mpr fun idle => ?_
    rw [kept] at idle
    have rest := restLaw_iff.mp h idle
    simp only [stationDisengageService, State.onStation]
    split
    · exact rest
    · split
      · exact rest
      · split
        · rw [done_fst]
          split
          · unfold State.disengage
            rw [if_neg (by simp [idle])]
            exact rested_reads.frame (s.putStation_affects _ _) rfl rest
          · exact rest
        · exact rest
  case markEvent =>
    have kept := (running_keptByLine s.running).markEvent rfl
    cases running : s.running with
    | true => exact RestLaw.of_running (kept.trans running)
    | false =>
      simp only [markEventService]
      rw [if_neg (by simp [running])]
      exact h
  case closeBatch =>
    simp only [closeBatchService]
    split
    · split
      · exact h
      · rw [done_fst]
        unfold State.closeBatchAt
        dsimp only
        split
        · exact RestLaw.reportLineBatch _ (RestLaw.bat _ h)
        · exact h
    · exact h
  case loadJob =>
    simp only [loadJobService]
    split
    next idle =>
      split
      · exact h
      · rw [done_fst]
        refine restLaw_iff.mpr fun _ => (restLaw_iff.mp h ?_).takeJob _
        simp only [Bool.or_eq_true, decide_eq_true_eq] at idle
        unfold State.running
        rcases idle with line | line <;> rw [line]
    next => exact h
  case pinBatch =>
    simp only [pinBatchService]
    split
    · exact h
    · split
      · exact h
      · rw [done_fst]
        unfold State.pinAt
        dsimp only
        split
        · exact RestLaw.reportLineBatch _ (RestLaw.bat _ h)
        · exact h

theorem resetWith_restLaw (p : Pins) (q : List Instr) : RestLaw (State.resetWith p q) := by
  refine restLaw_iff.mpr fun _ => ⟨rfl, rfl, rfl, rfl, rfl, rfl, rfl, fun c => ?_, rfl, rfl, rfl, rfl, rfl, rfl, rfl, rfl, rfl⟩
  simp [State.chan, State.resetWith, Stg.reset, Channel.reset]

theorem clockCycle_restLaw (h : RestLaw s) : RestLaw s.clockCycle := by
  refine restLaw_iff.mpr fun idle => ?_
  have rest := restLaw_iff.mp h idle
  refine ⟨rest.records, rest.events, rest.eventLost, rest.origin, rest.refState, rest.capture, rest.closings, fun c => ?_,
    rest.windows, rest.zone, rest.phase, ?_, rest.starts, rest.active, rest.planned, rest.plan, rest.search⟩
  · have ticked := rest.chan c
    simp only [State.chan, State.clockCycle, Fin.getElem_fin, Vector.getElem_map] at ticked ⊢
    exact ticked
  · simp [State.clockCycle, rest.meas]

end

/-- Settles O11: a running job goes on until its end, which clears it; between jobs nothing is due. -/
theorem everyStepKeepsRestLaw : Obligations.EveryStepKeepsRestLaw := fun _ _ law runs =>
  step_keeps_law restLaw_reads restLaw_reads (fun _ h => h) resetWith_restLaw
    (fun _ _ _ _ _ is meets h => request_restLaw is meets h) (fun _ _ _ is _ h runs => operation_restLaw is h runs)
    (fun _ h => clockCycle_restLaw h) law runs

end Sys2Proof.Machine
end

section
/-! PROOFS. What leaves the items of the emboss loop and the job in force as they are: every operation but a train's step, an
index sample or miss, and the end of a job. -/

namespace Sys2Proof.Machine

-- one proof at a time: the joined package would else open a thread for each of them
set_option Elab.async false

/-- The emboss loop's items and the job in force. -/
def State.loopJob (s : State) : (EmbPhase × Option TrainNote × Int × List Int) × Option Job := (s.emb.loop, s.lsc.job)

section
variable {s : State}

theorem State.loopJob_items {u : State} (same : u.loopJob = s.loopJob) :
    u.emb.phase = s.emb.phase ∧ u.emb.train = s.emb.train ∧ u.emb.trim = s.emb.trim ∧ u.emb.acc = s.emb.acc ∧
      u.lsc.job = s.lsc.job := by
  simp only [State.loopJob, Emb.loop, Prod.mk.injEq] at same
  obtain ⟨⟨phase, train, trim, acc⟩, job⟩ := same
  exact ⟨phase, train, trim, acc, job⟩

theorem State.loopJob_of_affects {bs : List Block} {u : State} (frame : Affects bs s u)
    (apart : ([.emb, .lsc] : List Block).any bs.contains = false := by decide) : u.loopJob = s.loopJob := by
  simp only [List.any_cons, List.any_nil, Bool.or_false, Bool.or_eq_false_iff] at apart
  have emb : u.emb = s.emb := frame.1.emb (by simpa using apart.1)
  have lsc : u.lsc = s.lsc := frame.1.lsc (by simpa using apart.2)
  simp only [State.loopJob, emb, lsc]

theorem State.evaluateNip_loopJob (s : State) : s.evaluateNip.loopJob = s.loopJob := by
  unfold State.evaluateNip State.withJob
  repeat' split
  all_goals rfl

theorem State.setLineState_loopJob (s : State) (x : LineState) : (s.setLineState x).loopJob = s.loopJob := by
  unfold State.setLineState
  split
  · rfl
  · exact (State.evaluateNip_loopJob _).trans rfl

theorem State.raiseCause_loopJob (s : State) (c : HoldCause) : (s.raiseCause c).loopJob = s.loopJob := by
  unfold State.raiseCause
  split
  · split
    · exact (State.setLineState_loopJob _ _).trans rfl
    · split <;> rfl
    · split <;> rfl
    · rfl
    · rfl
  · rfl

theorem State.coverBegin_loopJob (s : State) (j : Job) (n : Nat) : (s.coverBegin j n).loopJob = s.loopJob := by
  unfold State.coverBegin
  split
  · rfl
  · exact (State.evaluateNip_loopJob _).trans rfl

theorem State.liftCheck_loopJob (s : State) (j : Job) (n : Nat) : (s.liftCheck j n).loopJob = s.loopJob := by
  unfold State.liftCheck
  split
  · rfl
  · split
    · dsimp only
      split <;> rfl
    · rfl

theorem State.coverAtInsertion_loopJob (s : State) (j : Job) (n : Nat) : (s.coverAtInsertion j n).loopJob = s.loopJob := by
  have checked : ∀ u : State, (if ((u.trk.events[n]?).any fun e => u.liftCheckDue j e) = true then u.liftCheck j n
      else u).loopJob = u.loopJob := fun u => by
    split
    · exact u.liftCheck_loopJob j n
    · rfl
  unfold State.coverAtInsertion
  refine (checked _).trans ?_
  split
  · exact s.coverBegin_loopJob j n
  · rfl

theorem State.arrive_loopJob (s : State) (j : Job) (e : WebEvent) : (s.arrive j e).loopJob = s.loopJob := by
  unfold State.arrive
  split
  · unfold State.fullArrival
    dsimp only
    split
    · rfl
    · refine (State.raiseCause_loopJob _ _).trans ((State.evaluateNip_loopJob _).trans ?_)
      exact (State.loopJob_of_affects (bs := [.rlg]) (State.updateOpenEntry_affects _ _)).trans rfl
  · refine (State.loopJob_of_affects (State.judgeSplices_affects _ j)).trans ?_
    exact (State.coverAtInsertion_loopJob _ j _).trans rfl

theorem State.removeEvent_loopJob (s : State) (n : Nat) : (s.removeEvent n).loopJob = s.loopJob := by
  unfold State.removeEvent
  extract_lets u trk v
  have counted : u.loopJob = s.loopJob := by
    dsimp only [u]
    split
    · exact State.loopJob_of_affects (s.attribute_affects n)
    · rfl
  have removed : v.loopJob = s.loopJob := counted
  split
  · unfold State.endEventLost
    split
    · exact (State.evaluateNip_loopJob _).trans removed
    · exact removed
  · exact removed

theorem loopJob_keptByLine (L : (EmbPhase × Option TrainNote × Int × List Int) × Option Job) :
    KeptByLine fun s => s.loopJob = L where
  entry _ h := h
  roll _ h := h
  assign _ _ _ h := (State.loopJob_of_affects (State.assignBatch_affects _ _ _ _)).trans h
  told _ h := h
  labels h := (State.loopJob_of_affects (State.labelWork_affects _)).trans h
  winder _ h := h
  records _ h := h
  events _ h := h
  permit h := h
  allocate _ _ _ _ h := (State.loopJob_of_affects (State.allocate_affects _ _ _ _)).trans h
  pins _ h := h
  web _ h := h
  arrive j e h := (State.arrive_loopJob _ j e).trans h
  cause c h := (State.raiseCause_loopJob _ c).trans h
  reads := {
    congr := fun {s u} same h => by
      have emb : u.emb = s.emb := same .emb (by decide)
      have lsc : u.lsc = s.lsc := same .lsc (by decide)
      simp only [State.loopJob, emb, lsc] at h ⊢
      exact h
    links := by decide
    queue := by decide }
  emboss _ _ _ _ _ loop h := (congrArg (Prod.mk · _) loop).trans h

end

/-! ### An encoder transition ends no job: the web moves -/

theorem KeptByEvents.advance {P : State → Prop} (kept : KeptByEvents P) {s : State} (moving : s.wpu.stopped = false)
    (h : P s) : P s.advance := by
  have moved : P { s with wpu := { s.wpu with h := s.wpu.w, reversed := false } } := kept.web rfl h
  refine withJob_keeps moved fun j _ => ?_
  have cut : ∀ u : State, u.wpu.stopped = false → P u → P ((u.tryWaiting j).tailCheck j) := fun u goes hu => by
    have wpu := (u.tryWaiting_affects j).1.wpu (by decide)
    rw [State.tailCheck_moving j (by rw [wpu]; exact goes)]
    exact kept.tryWaiting j hu
  dsimp only
  split
  · refine cut _ ?_ (kept.openingOccasion j moved)
    rw [(State.openingOccasion_affects _ j).1.wpu (by decide)]
    exact moving
  · exact cut _ moving moved

theorem KeptByEvents.encoderTransition {P : State → Prop} (kept : KeptByEvents P) {s : State} {line : EncoderLine} (h : P s) :
    ∃ u, exec (.encoderTransition line) s = .next u.endOfEvent ∧ P u := by
  have moved : P { s with pins := flipLine s.pins line, wpu := s.wpu.move (forwardChange s.pins line) } :=
    kept.web (s := { s with pins := flipLine s.pins line }) rfl (kept.pins _ h)
  refine ⟨_, rfl, ?_⟩
  split
  · exact kept.advance rfl moved
  · split
    · exact kept.web rfl moved
    · exact moved

/-- The operations that move the emboss loop, or may end a job at once. -/
def movesLoop : Instr → Bool
  | .stoppedFlagSet | .cutDue | .doff _ | .stepPulse _ | .indexEdge | .embossWindowExpiry => true
  | _ => false

/-- Every other operation leaves the emboss loop and the job in force. -/
theorem operation_loopJob {c : Instr} {s t : State} (is : isOperation c = true) (other : movesLoop c = false)
    (runs : exec c s = .next t) : t.loopJob = s.loopJob := by
  have kept := loopJob_keptByLine s.loopJob
  have holds : s.loopJob = s.loopJob := rfl
  by_cases meets : ([.emb, .lsc] : List Block).any (blocksOf c).contains = true
  · cases c <;> try contradiction
    all_goals refine kept.reads.ends ?_ runs
    case encoderTransition => exact kept.toKeptByEvents.encoderTransition holds
    case encoderFault => exact kept.encoderFault holds
    case speedWindowEnd =>
      refine ⟨_, rfl, (State.evaluateNip_loopJob _).trans ?_⟩
      refine withJob_keeps (P := fun u => u.loopJob = s.loopJob) rfl fun j _ => ?_
      unfold State.checkSpeed
      dsimp only
      split
      · split
        · exact (State.raiseCause_loopJob _ _).trans rfl
        · rfl
      · rfl
    case markEdge => exact kept.markEdge holds
    case referenceWindowExpiry => exact kept.referenceWindowExpiry holds
    case reacquisitionWindowExpiry =>
      refine ⟨_, rfl, withJob_keeps (P := fun u => u.loopJob = s.loopJob) rfl fun j _ => ?_⟩
      split
      · exact kept.reacquisitionExpiry j holds
      · rfl
    case captureClose => exact kept.captureClose holds
    case splicePulse => exact kept.splicePulse holds
    case operatorButton => exact kept.operatorButton holds
    case defectLineRise => exact kept.defectLineRise holds
    case defectLineFall =>
      exact ⟨_, rfl, withJob_keeps (P := fun u => u.loopJob = s.loopJob) rfl fun j _ => kept.closeDefect j _ rfl⟩
    case defectLengthLimit => exact kept.defectLengthLimit holds
    case eventRemoval =>
      refine ⟨_, rfl, withJob_keeps (P := fun u => u.loopJob = s.loopJob) rfl fun j _ => ?_⟩
      split
      · exact s.removeEvent_loopJob _
      · rfl
    case engageTimerExpiry =>
      refine ⟨_, rfl, ?_⟩
      split <;> rfl
    case liftTimerExpiry =>
      refine ⟨_, rfl, ?_⟩
      split
      · exact (State.evaluateNip_loopJob _).trans rfl
      · rfl
    case liftCoverageBegin =>
      refine ⟨_, rfl, withJob_keeps (P := fun u => u.loopJob = s.loopJob) rfl fun j _ => ?_⟩
      split
      · exact s.coverBegin_loopJob j _
      · rfl
    case liftCoverageEnd =>
      refine ⟨_, rfl, withJob_keeps (P := fun u => u.loopJob = s.loopJob) rfl fun j _ => ?_⟩
      split
      · exact (State.evaluateNip_loopJob _).trans rfl
      · rfl
    case liftCheck =>
      refine ⟨_, rfl, withJob_keeps (P := fun u => u.loopJob = s.loopJob) rfl fun j _ => ?_⟩
      split
      · exact s.liftCheck_loopJob j _
      · rfl
    case pwmPeriodStart g => cases g <;> exact ⟨_, rfl, rfl⟩
    case headTimeout => exact kept.headTimeout holds
    case overlengthCondition => exact kept.overlengthCondition holds
    case labelTransferEnd => exact kept.labelTransferEnd holds
    case printerTimeout => exact kept.printerTimeout holds
  · obtain ⟨u, runs', frame⟩ := exec_sameBut c s
    cases runs'.symm.trans runs
    have emb : t.emb = s.emb := frame.emb fun touched => meets (by simp [touched])
    have lsc : t.lsc = s.lsc := frame.lsc fun touched => meets (by simp [touched])
    simp only [State.loopJob, emb, lsc]

end Sys2Proof.Machine
end

section
/-! PROOFS. Trains, their notes and the station that corrects (O13). -/

namespace Sys2Proof.Machine

-- one proof at a time: the joined package would else open a thread for each of them
set_option Elab.async false

section
variable {s u : State}

/-! ### The law with one leader's end of CORRECTING left open -/

/-- The law of trains, but that the station `l` may be CORRECTING still when the last train it waits for has stopped. -/
structure TrainsBut (l : Option StationId) (s : State) : Prop where
  note : ∀ i : StationId, (s.station i).train.isSome = (s.chan (channelOf i)).inFlight
  begins : ∀ k, (s.station k).isResident = true → ∀ i, s.leaderOf i = k → (s.chan (channelOf i)).inFlight = true →
    (s.station k).st = .correcting
  engaged : ∀ k, (s.station k).isResident = true → (s.station k).st = .correcting → (s.station k).engaged = true
  ends : ∀ k, (s.station k).isResident = true → l ≠ some k → (s.station k).st = .correcting →
    ∃ i, s.leaderOf i = k ∧ (s.chan (channelOf i)).inFlight = true
  phase : s.emb.phase = .inFlight ↔ (s.chan embossChannel).inFlight = true
  emboss : s.emb.train.isSome = (s.chan embossChannel).inFlight

theorem trainLaw_iff : TrainLaw s ↔ TrainsBut none s := by
  constructor
  · rintro ⟨note, leads, phase, emboss⟩
    exact ⟨note, fun k res i lead flight => (leads k res).1.mpr ⟨i, lead, flight⟩, fun k res => (leads k res).2,
      fun k res _ => (leads k res).1.mp, phase, emboss⟩
  · intro h
    exact ⟨h.note, fun k res => ⟨⟨h.ends k res (by simp), fun ⟨i, lead, flight⟩ => h.begins k res i lead flight⟩,
      h.engaged k res⟩, h.phase, h.emboss⟩

theorem TrainsBut.weaken {l : Option StationId} (h : TrainsBut none s) : TrainsBut l s :=
  ⟨h.note, h.begins, h.engaged, fun k res _ => h.ends k res (by simp), h.phase, h.emboss⟩

/-- What the law reads as it was: of each station its note, whether it corrects, and its place among the others. -/
structure SameTrains (s u : State) : Prop where
  train : ∀ i, (u.station i).train.isSome = (s.station i).train.isSome
  flight : ∀ c : ChannelId, (u.chan c).inFlight = (s.chan c).inFlight
  st : ∀ i, (u.station i).st = .correcting ↔ (s.station i).st = .correcting
  engaged : ∀ i, (s.station i).isResident = true → (s.station i).st = .correcting → (s.station i).engaged = true →
    (u.station i).engaged = true
  resident : ∀ i, (u.station i).isResident = (s.station i).isResident
  leader : ∀ i, u.leaderOf i = s.leaderOf i
  phase : u.emb.phase = .inFlight ↔ s.emb.phase = .inFlight
  note : u.emb.train.isSome = s.emb.train.isSome

theorem TrainsBut.congr {l : Option StationId} (h : TrainsBut l s) (same : SameTrains s u) : TrainsBut l u := by
  refine ⟨fun i => ?_, fun k res i lead flight => ?_, fun k res st => ?_, fun k res ne st => ?_, ?_, ?_⟩
  · rw [same.train, same.flight]
    exact h.note i
  · rw [same.resident] at res
    rw [same.leader] at lead
    rw [same.flight] at flight
    exact (same.st k).mpr (h.begins k res i lead flight)
  · rw [same.resident] at res
    have st := (same.st k).mp st
    exact same.engaged k res st (h.engaged k res st)
  · rw [same.resident] at res
    obtain ⟨i, lead, flight⟩ := h.ends k res ne ((same.st k).mp st)
    exact ⟨i, (same.leader i).trans lead, (same.flight _).trans flight⟩
  · rw [same.phase, same.flight]
    exact h.phase
  · rw [same.note, same.flight]
    exact h.emboss

theorem TrainLaw.congr (h : TrainLaw s) (same : SameTrains s u) : TrainLaw u :=
  trainLaw_iff.mpr ((trainLaw_iff.mp h).congr same)

/-- Stations, channels and the emboss loop as they were. -/
theorem SameTrains.of_blocks (rlp : u.rlp = s.rlp) (stg : u.stg = s.stg) (phase : u.emb.phase = s.emb.phase)
    (train : u.emb.train = s.emb.train) : SameTrains s u := by
  have station : ∀ i, u.station i = s.station i := fun i => by
    unfold State.station
    rw [rlp]
  refine ⟨fun i => by rw [station], fun c => ?_, fun i => by rw [station], fun i _ _ => by rw [station]; exact id,
    fun i => by rw [station], fun i => ?_, by rw [phase], by rw [train]⟩
  · unfold State.chan
    rw [stg]
  · unfold State.leaderOf
    rw [station]

/-- The channels and the emboss loop as they were, and the stations in what the law reads of each. -/
theorem SameTrains.of_stations (stg : u.stg = s.stg) (emb : u.emb = s.emb)
    (same : ∀ i, (u.station i).train.isSome = (s.station i).train.isSome ∧
      ((u.station i).st = .correcting ↔ (s.station i).st = .correcting) ∧
      ((s.station i).isResident = true → (s.station i).st = .correcting →
        (u.station i).engaged = (s.station i).engaged) ∧
      (u.station i).isResident = (s.station i).isResident ∧ u.leaderOf i = s.leaderOf i) : SameTrains s u :=
  ⟨fun i => (same i).1, fun c => by unfold State.chan; rw [stg], fun i => (same i).2.1,
    fun i res st engaged => ((same i).2.2.1 res st).trans engaged, fun i => (same i).2.2.2.1, fun i => (same i).2.2.2.2,
    by rw [emb], by rw [emb]⟩

theorem State.leaderOf_congr {i : StationId} (desc : (u.station i).desc = (s.station i).desc) : u.leaderOf i = s.leaderOf i := by
  unfold State.leaderOf
  rw [desc]

theorem Station.isResident_congr {x y : Station} (desc : y.desc = x.desc) : y.isResident = x.isResident := by
  unfold Station.isResident
  rw [desc]

/-- One station written, its note and its descriptor kept, with its part in CORRECTING as it was. -/
theorem SameTrains.putStation (i : StationId) {x : Station} (train : x.train.isSome = (s.station i).train.isSome)
    (st : x.st = .correcting ↔ (s.station i).st = .correcting)
    (engaged : (s.station i).isResident = true → (s.station i).st = .correcting → x.engaged = (s.station i).engaged)
    (desc : x.desc = (s.station i).desc) :
    SameTrains s (s.putStation i x) := by
  refine SameTrains.of_stations rfl rfl fun k => ?_
  have leader : (s.putStation i x).leaderOf k = s.leaderOf k := State.leaderOf_congr (by
    rw [State.station_putStation]
    split
    next is => rw [is, desc]
    next => rfl)
  refine ⟨?_, ?_, ?_, ?_, leader⟩ <;> rw [State.station_putStation] <;> split
  all_goals first | rfl | exact fun _ _ => rfl | skip
  next is => rw [is]; exact train
  next is => rw [is]; exact st
  next is => rw [is]; exact engaged
  next is => rw [is]; exact Station.isResident_congr desc

/-- No train anywhere. -/
theorem trainLaw_of_idle (train : ∀ i, (s.station i).train = none) (flight : ∀ c : ChannelId, (s.chan c).inFlight = false)
    (st : ∀ k, (s.station k).isResident = true → (s.station k).st ≠ .correcting) (phase : s.emb.phase ≠ .inFlight)
    (note : s.emb.train = none) : TrainLaw s :=
  ⟨fun i => by rw [train, flight]; rfl,
    fun k res => ⟨⟨fun is => absurd is (st k res), fun ⟨i, _, is⟩ => by rw [flight] at is; cases is⟩,
      fun is => absurd is (st k res)⟩,
    by rw [flight]; simp [phase], by rw [flight, note]; rfl⟩

/-! ### A train stops -/

theorem channelOf_injective {i k : StationId} (h : channelOf i = channelOf k) : i = k := by
  have := congrArg Fin.val h
  exact Fin.ext this

theorem channelOf_ne_emboss (i : StationId) : channelOf i ≠ embossChannel := fun h => by
  have := congrArg Fin.val h
  have := i.isLt
  simp only [channelOf, embossChannel] at *
  omega

/-- Station i's train stops and its note goes: its leader's CORRECTING may end now. -/
theorem TrainsBut.stopped {l : Option StationId} (h : TrainsBut l s) (i : StationId) (open_ : l = none ∨ l = some (s.leaderOf i))
    (other : ∀ k, k ≠ i → u.station k = s.station k) (train : (u.station i).train = none)
    (st : (u.station i).st = (s.station i).st) (engaged : (u.station i).engaged = (s.station i).engaged)
    (desc : (u.station i).desc = (s.station i).desc) (own : (u.chan (channelOf i)).inFlight = false)
    (flight : ∀ c, c ≠ channelOf i → (u.chan c).inFlight = (s.chan c).inFlight) (emb : u.emb = s.emb) :
    TrainsBut (some (s.leaderOf i)) u := by
  have all : ∀ k, (u.station k).st = (s.station k).st ∧ (u.station k).engaged = (s.station k).engaged ∧
      (u.station k).desc = (s.station k).desc := fun k => by
    by_cases is : k = i
    · subst is
      exact ⟨st, engaged, desc⟩
    · rw [other k is]
      exact ⟨rfl, rfl, rfl⟩
  have leader : ∀ k, u.leaderOf k = s.leaderOf k := fun k => State.leaderOf_congr (all k).2.2
  have resident : ∀ k, (u.station k).isResident = (s.station k).isResident := fun k => Station.isResident_congr (all k).2.2
  have flew : ∀ k, (u.chan (channelOf k)).inFlight = true → k ≠ i ∧ (s.chan (channelOf k)).inFlight = true := by
    intro k is
    have ne : k ≠ i := fun same => by
      subst same
      rw [own] at is
      cases is
    exact ⟨ne, flight _ (fun h => ne (channelOf_injective h)) ▸ is⟩
  have emboss := flight embossChannel (channelOf_ne_emboss i).symm
  refine ⟨fun k => ?_, fun k res m lead is => ?_, fun k res is => ?_, fun k res ne is => ?_, ?_, ?_⟩
  · by_cases is : k = i
    · subst is
      rw [train, own]
      rfl
    · rw [other k is, flight _ fun h => is (channelOf_injective h)]
      exact h.note k
  · rw [(all k).1]
    exact h.begins k (resident k ▸ res) m (leader m ▸ lead) (flew m is).2
  · rw [(all k).2.1]
    exact h.engaged k (resident k ▸ res) ((all k).1 ▸ is)
  · have notOpen : l ≠ some k := fun same => by
      rcases open_ with rfl | rfl
      · cases same
      · exact ne same
    obtain ⟨m, lead, was⟩ := h.ends k (resident k ▸ res) notOpen ((all k).1 ▸ is)
    have other' : m ≠ i := fun same => ne (congrArg some (same ▸ lead))
    exact ⟨m, (leader m).trans lead, (flight _ fun h => other' (channelOf_injective h)).trans was⟩
  · rw [emb, emboss]
    exact h.phase
  · rw [emb, emboss]
    exact h.emboss

/-- A resident leader's trains in flight are its own and its followers'. -/
theorem State.trainsInFlight_iff {l : StationId} (res : (s.station l).isResident = true) :
    s.trainsInFlight l = true ↔ ∃ i, s.leaderOf i = l ∧ (s.chan (channelOf i)).inFlight = true := by
  have own : s.leaderOf l = l := by
    unfold State.leaderOf
    unfold Station.isResident at res
    split at res
    next is => rw [is]
    next => cases res
  have follows : ∀ i, i ∈ s.followers l ↔ ∃ d, (s.station i).desc = .indirect d ∧ d.target = l := fun i => by
    simp only [State.followers, List.mem_filter, List.mem_finRange, true_and]
    split
    next d is => simp [is]
    next other =>
      simp only [Bool.false_eq_true, false_iff, not_exists, not_and]
      exact fun d is => absurd is (other d)
  unfold State.trainsInFlight
  simp only [List.any_cons, Bool.or_eq_true, List.any_eq_true]
  constructor
  · rintro (is | ⟨i, follower, is⟩)
    · exact ⟨l, own, is⟩
    · obtain ⟨d, desc, target⟩ := (follows i).mp follower
      refine ⟨i, ?_, is⟩
      unfold State.leaderOf
      rw [desc]
      exact target
  · rintro ⟨i, lead, is⟩
    unfold State.leaderOf at lead
    split at lead
    next d desc => exact .inr ⟨i, (follows i).mpr ⟨d, desc, lead⟩, is⟩
    next => exact .inl (lead ▸ is)

theorem SameTrains.cause (c : HoldCause) : SameTrains s (s.raiseCause c) := by
  have frame := (s.raiseCause_affects c).1
  obtain ⟨phase, train, -⟩ := State.loopJob_items (s.raiseCause_loopJob c)
  exact .of_blocks (frame.rlp (by decide)) (frame.stg (by decide)) phase train

theorem TrainLaw.cause (c : HoldCause) (h : TrainLaw s) : TrainLaw (s.raiseCause c) := h.congr (.cause c)

theorem trainLaw_reads : ReadsOnly [.rlp, .stg, .emb] TrainLaw where
  congr {s u} same h := by
    have emb : u.emb = s.emb := same .emb (by decide)
    exact h.congr (.of_blocks (same .rlp (by decide)) (same .stg (by decide)) (by rw [emb]) (by rw [emb]))
  links := by decide
  queue := by decide

/-- A leader that is not CORRECTING any more, with no train of its in flight. -/
theorem TrainsBut.settled {l : StationId} (h : TrainsBut (some l) s)
    (idle : ∀ i, s.leaderOf i = l → (s.chan (channelOf i)).inFlight = false) {x : Station}
    (train : x.train = (s.station l).train) (st : x.st ≠ .correcting) (desc : x.desc = (s.station l).desc) :
    TrainLaw (s.putStation l x) := by
  have station : ∀ k, k ≠ l → (s.putStation l x).station k = s.station k := fun k ne => by
    rw [State.station_putStation, if_neg ne]
  have own : (s.putStation l x).station l = x := s.station_putStation_self l x
  have leader : ∀ k, (s.putStation l x).leaderOf k = s.leaderOf k := fun k => State.leaderOf_congr (by
    by_cases is : k = l
    · rw [is, own, desc]
    · rw [station k is])
  have resident : ∀ k, ((s.putStation l x).station k).isResident = (s.station k).isResident := fun k => by
    by_cases is : k = l
    · rw [is, own]
      exact Station.isResident_congr desc
    · rw [station k is]
  refine trainLaw_iff.mpr ⟨fun k => ?_, fun k res i lead flight => ?_, fun k res is => ?_, fun k res _ is => ?_, h.phase,
    h.emboss⟩
  · by_cases is : k = l
    · rw [is, own, train]
      exact h.note l
    · rw [station k is]
      exact h.note k
  · rw [leader] at lead
    have ne : k ≠ l := fun same => by
      have := idle i (lead.trans same)
      rw [State.chan_putStation] at flight
      rw [this] at flight
      cases flight
    rw [station k ne]
    exact h.begins k (resident k ▸ res) i lead flight
  · by_cases same : k = l
    · rw [same, own] at is
      exact absurd is st
    · rw [station k same] at is ⊢
      exact h.engaged k (resident k ▸ res) is
  · by_cases same : k = l
    · rw [same, own] at is
      exact absurd is st
    · rw [station k same] at is
      obtain ⟨i, lead, flight⟩ := h.ends k (resident k ▸ res) (fun e => same (Option.some.inj e).symm) is
      exact ⟨i, (leader i).trans lead, flight⟩

theorem TrainsBut.closed {l : StationId} (h : TrainsBut (some l) s)
    (fits : (s.station l).isResident = true → (s.station l).st = .correcting →
      ∃ i, s.leaderOf i = l ∧ (s.chan (channelOf i)).inFlight = true) : TrainLaw s :=
  trainLaw_iff.mpr ⟨h.note, h.begins, h.engaged, fun k res _ is => by
    by_cases same : k = l
    · subst same
      exact fits res is
    · exact h.ends k res (fun e => same (Option.some.inj e).symm) is, h.phase, h.emboss⟩

/-- CORRECTING ends with the last train (R64). -/
theorem TrainsBut.correctingEnd {l : StationId} (h : TrainsBut (some l) s) : TrainLaw (s.correctingEnd l) := by
  have resident : ∀ {d}, (s.station l).desc = .resident d → (s.station l).isResident = true := fun is => by
    unfold Station.isResident
    rw [is]
  unfold State.correctingEnd
  split
  next d desc =>
    split
    next last =>
      simp only [Bool.and_eq_true, decide_eq_true_eq, Bool.not_eq_true'] at last
      obtain ⟨-, none⟩ := last
      have idle : ∀ i, s.leaderOf i = l → (s.chan (channelOf i)).inFlight = false := fun i lead => by
        refine Classical.byContradiction fun flies => ?_
        have := (State.trainsInFlight_iff (resident desc)).mpr ⟨i, lead, by simpa using flies⟩
        rw [none] at this
        cases this
      split
      · have lost := h.settled (x := { s.station l with st := .lost, acc := [], settleEnd := Option.none }) idle rfl
          (by simp) rfl
        exact TrainLaw.cause .stationLost (trainLaw_reads.frame (State.raiseNotice_affects _ (.stationAlarm l)) rfl lost)
      · exact h.settled idle rfl (by simp) rfl
    next other =>
      refine h.closed fun res is => (State.trainsInFlight_iff res).mp ?_
      refine Classical.byContradiction fun none => ?_
      exact other (by simp [is, none])
  next other =>
    refine h.closed fun res _ => ?_
    unfold Station.isResident at res
    split at res
    next is => exact absurd is (other _)
    next => cases res

/-- Channel c has made its last step. -/
theorem TrainLaw.trainDone {c : ChannelId} {ch : Channel} (h : TrainLaw s) (done : ch.inFlight = false) :
    TrainLaw ((s.putChan c ch).trainDone c) := by
  have law := trainLaw_iff.mp h
  have stopped : ∀ k, k ≠ c → ((s.putChan c ch).chan k).inFlight = (s.chan k).inFlight := fun k ne => by
    rw [State.chan_putChan, if_neg ne]
  unfold State.trainDone
  split
  next small =>
    have chan : channelOf ⟨c.val, small⟩ = c := rfl
    refine TrainsBut.correctingEnd ?_
    refine law.stopped ⟨c.val, small⟩ (.inl rfl) (fun k ne => ?_) ?_ ?_ ?_ ?_ ?_ (fun k ne => ?_) rfl
    · rw [State.station_putStation, if_neg ne, State.station_putChan]
    · rw [State.station_putStation_self]
    · rw [State.station_putStation_self, State.station_putChan]
    · rw [State.station_putStation_self, State.station_putChan]
    · rw [State.station_putStation_self, State.station_putChan]
    · rw [State.chan_putStation, chan, State.chan_putChan_self]
      exact done
    · rw [State.chan_putStation]
      exact stopped k ne
  next large =>
    have is : c = embossChannel := by
      have := c.isLt
      refine Fin.ext ?_
      simp only [embossChannel]
      omega
    subst is
    have others : ∀ i, ((s.putChan embossChannel ch).embossTrainDone.chan (channelOf i)).inFlight =
        (s.chan (channelOf i)).inFlight := fun i => stopped _ (channelOf_ne_emboss i)
    have own : ((s.putChan embossChannel ch).embossTrainDone.chan embossChannel).inFlight = false := by
      show ((s.putChan embossChannel ch).chan embossChannel).inFlight = false
      rw [State.chan_putChan_self]
      exact done
    refine trainLaw_iff.mpr ⟨fun i => (law.note i).trans (others i).symm, fun k res i lead flight => ?_, law.engaged,
      fun k res ne is => ?_, ?_, ?_⟩
    · exact law.begins k res i lead (others i ▸ flight)
    · obtain ⟨i, lead, flight⟩ := law.ends k res ne is
      exact ⟨i, lead, (others i).trans flight⟩
    · rw [own]
      simp [State.embossTrainDone]
    · rw [own]
      rfl

/-! ### Trains are aborted -/

/-- What an abort leaves of each station besides its trim and its note. -/
theorem State.abortStation_station (s : State) (i k : StationId) :
    ((s.abortStation i).station k).st = (s.station k).st ∧ ((s.abortStation i).station k).engaged = (s.station k).engaged ∧
      ((s.abortStation i).station k).desc = (s.station k).desc ∧ (k ≠ i → (s.abortStation i).station k = s.station k) := by
  unfold State.abortStation
  dsimp only
  split
  · split
    · exact ⟨rfl, rfl, rfl, fun _ => rfl⟩
    · rw [State.station_putStation]
      split
      next is => exact ⟨by rw [is]; rfl, by rw [is]; rfl, by rw [is]; rfl, fun ne => absurd is ne⟩
      next => exact ⟨rfl, rfl, rfl, fun _ => rfl⟩
  · exact ⟨rfl, rfl, rfl, fun _ => rfl⟩

/-- An abort leaves no note. -/
theorem State.abortStation_train (s : State) (i : StationId)
    (note : (s.station i).train.isSome = (s.chan (channelOf i)).inFlight) : ((s.abortStation i).station i).train = none := by
  unfold State.abortStation
  dsimp only
  split
  · split
    next is => exact is
    next => rw [State.station_putStation_self]
  next idle =>
    simp only [Bool.not_eq_true] at idle
    rw [idle] at note
    simpa using note

theorem TrainsBut.abort {l : Option StationId} (h : TrainsBut l s) (i : StationId)
    (open_ : l = none ∨ l = some (s.leaderOf i)) : TrainsBut (some (s.leaderOf i)) (s.abortStation i) := by
  refine h.stopped i open_ (fun k ne => (s.abortStation_station i k).2.2.2 ne) (s.abortStation_train i (h.note i))
    (s.abortStation_station i i).1 (s.abortStation_station i i).2.1 (s.abortStation_station i i).2.2.1 ?_ (fun c ne => ?_)
    ((s.abortStation_affects i).1.emb (by decide))
  · rw [State.abortStation_chan]
    simp
  · rw [State.abortStation_chan]
    simp [ne]

/-- Aborts of a list of stations with one leader. -/
theorem TrainsBut.abortAll {leader : StationId} (l : List StationId) (h : TrainsBut (some leader) s)
    (led : ∀ i ∈ l, s.leaderOf i = leader) :
    TrainsBut (some leader) (l.foldl State.abortStation s) ∧
      (∀ k, ((l.foldl State.abortStation s).station k).desc = (s.station k).desc) ∧
      ∀ c, ((l.foldl State.abortStation s).chan c).inFlight = ((s.chan c).inFlight && !(l.any fun i => c == channelOf i)) := by
  induction l generalizing s with
  | nil => exact ⟨h, fun _ => rfl, fun c => by simp⟩
  | cons i l ih =>
    have lead := led i List.mem_cons_self
    have first := lead ▸ h.abort i (.inr (by rw [lead]))
    have desc : ∀ k, ((s.abortStation i).station k).desc = (s.station k).desc := fun k => (s.abortStation_station i k).2.2.1
    obtain ⟨law, descs, flights⟩ := ih first fun k member =>
      (State.leaderOf_congr (desc k)).trans (led k (List.mem_cons_of_mem _ member))
    refine ⟨law, fun k => (descs k).trans (desc k), fun c => ?_⟩
    rw [List.foldl_cons, flights, State.abortStation_chan]
    simp [Bool.and_assoc]

/-! ### Trains start -/

theorem State.commitTrain_station (s : State) (f : StationId) (n : Nat) (c : Int) (rate : Nat) (k : StationId) :
    (s.commitTrain f n c rate).station k =
      if k = f then { s.station f with
        train := some { before := (s.station f).trim, c := c }, trim := (s.station f).trim + c, lastC := some c }
      else s.station k := by
  simp only [State.commitTrain, State.startTrain, State.station_putChan, State.station_putStation]

theorem State.commitTrain_flight (s : State) (f : StationId) (n : Nat) (c : Int) (rate : Nat) (k : ChannelId) :
    ((s.commitTrain f n c rate).chan k).inFlight = if k = channelOf f then true else (s.chan k).inFlight := by
  simp only [State.commitTrain, State.startTrain, State.chan_putChan, State.chan_putStation]
  split <;> rfl

/-- A train starts on the channel of a station whose leader is CORRECTING, or has become it. -/
theorem TrainLaw.started {f : StationId} (h : TrainLaw s) (train : ∀ k, (u.station k).train.isSome = if k = f then true
      else (s.station k).train.isSome)
    (flight : ∀ c, (u.chan c).inFlight = if c = channelOf f then true else (s.chan c).inFlight)
    (desc : ∀ k, (u.station k).desc = (s.station k).desc)
    (engaged : ∀ k, (u.station k).engaged = (s.station k).engaged)
    (st : ∀ k, (u.station k).st = if k = s.leaderOf f ∧ (s.station k).isResident = true then .correcting else (s.station k).st)
    (able : (s.station (s.leaderOf f)).isResident = true → (s.station (s.leaderOf f)).engaged = true)
    (emb : u.emb = s.emb) : TrainLaw u := by
  have law := trainLaw_iff.mp h
  have leader : ∀ k, u.leaderOf k = s.leaderOf k := fun k => State.leaderOf_congr (desc k)
  have resident : ∀ k, (u.station k).isResident = (s.station k).isResident := fun k => Station.isResident_congr (desc k)
  have emboss : (u.chan embossChannel).inFlight = (s.chan embossChannel).inFlight := by
    rw [flight, if_neg (channelOf_ne_emboss f).symm]
  refine trainLaw_iff.mpr ⟨fun k => ?_, fun k res i lead flies => ?_, fun k res is => ?_, fun k res _ is => ?_, ?_, ?_⟩
  · rw [train, flight, law.note]
    by_cases same : k = f
    · simp [same]
    · rw [if_neg same, if_neg fun e => same (channelOf_injective e)]
  · rw [resident] at res
    rw [leader] at lead
    rw [st]
    split
    · rfl
    next other =>
      rw [flight] at flies
      split at flies
      next same => exact absurd ⟨(channelOf_injective same ▸ lead).symm, res⟩ other
      next => exact law.begins k res i lead flies
  · rw [resident] at res
    rw [engaged]
    rw [st] at is
    split at is
    next leads => exact leads.1 ▸ able (leads.1 ▸ res)
    next => exact law.engaged k res is
  · rw [resident] at res
    rw [st] at is
    split at is
    next leads => exact ⟨f, (leader f).trans leads.1.symm, by rw [flight, if_pos rfl]⟩
    next =>
      obtain ⟨i, lead, flies⟩ := law.ends k res (by simp) is
      refine ⟨i, (leader i).trans lead, ?_⟩
      rw [flight, flies]
      simp
  · rw [emb, emboss]
    exact law.phase
  · rw [emb, emboss]
    exact law.emboss

theorem TrainLaw.commitTrain {f : StationId} (h : TrainLaw s) (n : Nat) (c : Int) (rate : Nat)
    (leads : (s.station (s.leaderOf f)).isResident = true → (s.station (s.leaderOf f)).st = .correcting) :
    TrainLaw (s.commitTrain f n c rate) := by
  have law := trainLaw_iff.mp h
  refine h.started (f := f) (fun k => ?_) (s.commitTrain_flight f n c rate) (fun k => ?_) (fun k => ?_) (fun k => ?_)
    (fun res => law.engaged _ res (leads res)) rfl
  · rw [State.commitTrain_station]
    split <;> rfl
  · rw [State.commitTrain_station]
    split
    next is => rw [is]
    next => rfl
  · rw [State.commitTrain_station]
    split
    next is => rw [is]
    next => rfl
  · have kept : ((s.commitTrain f n c rate).station k).st = (s.station k).st := by
      rw [State.commitTrain_station]
      split
      next is => rw [is]
      next => rfl
    rw [kept]
    split
    next is => exact is.1 ▸ leads (is.1 ▸ is.2)
    next => rfl

theorem State.latchStation_station (s : State) (i : StationId) (f : CauFlags) (k : StationId) :
    (s.latchStation i f).station k =
      if k = i then { s.station i with flags := (s.station i).flags.latch f } else s.station k := by
  unfold State.latchStation
  dsimp only
  split <;> exact s.station_putStation i k _

theorem SameTrains.latchStation (i : StationId) (f : CauFlags) : SameTrains s (s.latchStation i f) := by
  have put : SameTrains s (s.putStation i { s.station i with flags := (s.station i).flags.latch f }) :=
    .putStation i rfl Iff.rfl (fun _ _ => rfl) rfl
  unfold State.latchStation
  dsimp only
  split
  · exact ⟨put.train, put.flight, put.st, put.engaged, put.resident, put.leader, put.phase, put.note⟩
  · exact put

/-- What a follower's share leaves of every station. -/
theorem State.startFollower_station (s : State) (c : Int) (f k : StationId) :
    ((s.startFollower c f).station k).desc = (s.station k).desc ∧ ((s.startFollower c f).station k).st = (s.station k).st := by
  have latched : ∀ flags, ((s.latchStation f flags).station k).desc = (s.station k).desc ∧
      ((s.latchStation f flags).station k).st = (s.station k).st := fun flags => by
    rw [State.latchStation_station]
    split
    next is => exact ⟨by rw [is], by rw [is]⟩
    next => exact ⟨rfl, rfl⟩
  unfold State.startFollower
  split
  · split
    · dsimp only
      split
      · exact latched _
      · rw [State.commitTrain_station]
        split
        next is =>
          subst is
          exact latched _
        next => exact latched _
    · exact ⟨rfl, rfl⟩
  · exact ⟨rfl, rfl⟩

theorem TrainLaw.startFollower {f : StationId} (h : TrainLaw s) (c : Int)
    (leads : (s.station (s.leaderOf f)).st = .correcting) : TrainLaw (s.startFollower c f) := by
  unfold State.startFollower
  split
  next d desc =>
    split
    · dsimp only
      have same := SameTrains.latchStation (s := s) f
        (cauFinish c (s.station f).trim d.stepLimit d.trimLimit d.ratio).flags
      split
      · exact h.congr same
      · refine (h.congr same).commitTrain _ _ _ fun _ => ?_
        rw [same.leader]
        exact (same.st _).mpr leads
    · exact h
  · exact h

/-- A train of a RESIDENT station in TRACKING, with its followers' (R62, R63). -/
theorem TrainLaw.startStationTrain {i : StationId} (h : TrainLaw s) (res : (s.station i).isResident = true)
    (engaged : (s.station i).engaged = true) (n : Nat) (c : Int) (rate : Nat) :
    TrainLaw (s.startStationTrain i n c rate) := by
  have own : s.leaderOf i = i := by
    unfold State.leaderOf
    unfold Station.isResident at res
    split at res
    next is => rw [is]
    next => cases res
  unfold State.startStationTrain
  extract_lets committed src correcting
  have stations : ∀ k, correcting.station k = if k = i then { committed.station i with st := .correcting }
      else committed.station k := fun k => State.station_putStation _ _ _ _
  have first : TrainLaw correcting := by
    refine h.started (f := i) (fun k => ?_) (s.commitTrain_flight i n c rate) (fun k => ?_) (fun k => ?_) (fun k => ?_)
      (by rw [own]; exact fun _ => engaged) rfl
    all_goals
      rw [stations]
      dsimp only [committed]
      rw [State.commitTrain_station, State.commitTrain_station]
      by_cases is : k = i
      · subst is
        simp [own, res]
      · simp [is, own]
  have led : (correcting.station i).st = .correcting := by
    rw [stations, if_pos rfl]
  have follow : ∀ (l : List StationId) (v : State), TrainLaw v → (v.station i).st = .correcting →
      (∀ f ∈ l, v.leaderOf f = i) → TrainLaw (l.foldl (fun s f => s.startFollower c f) v) := by
    intro l
    induction l with
    | nil => exact fun _ hv _ _ => hv
    | cons f l ih =>
      intro v hv st led
      refine ih _ (hv.startFollower c ?_) ?_ fun k member => ?_
      · rw [led f List.mem_cons_self]
        exact st
      · rw [(v.startFollower_station c f i).2]
        exact st
      · rw [State.leaderOf_congr (v.startFollower_station c f k).1]
        exact led k (List.mem_cons_of_mem _ member)
  refine follow _ _ first led fun f member => ?_
  have := (List.mem_filter.mp member).2
  unfold State.leaderOf
  split at this
  next => exact beq_iff_eq.mp this
  next => cases this

/-! ### The station machine -/

/-- A write that leaves a station's note, its descriptor and its part in CORRECTING. -/
theorem TrainLaw.putStation (h : TrainLaw s) (i : StationId) {x : Station} (train : x.train = (s.station i).train)
    (st : x.st = .correcting ↔ (s.station i).st = .correcting) (engaged : x.engaged = (s.station i).engaged)
    (desc : x.desc = (s.station i).desc) : TrainLaw (s.putStation i x) :=
  h.congr (.putStation i (by rw [train]) st (fun _ _ => engaged) desc)

theorem TrainLaw.told (n : Notice) (h : TrainLaw s) : TrainLaw (s.raiseNotice n) :=
  trainLaw_reads.frame (s.raiseNotice_affects n) rfl h

theorem TrainLaw.enterLost (i : StationId) (h : TrainLaw s) (st : (s.station i).st ≠ .correcting) :
    TrainLaw (s.enterLost i) :=
  TrainLaw.cause _ (TrainLaw.told _ (h.putStation i rfl (by simp [st]) rfl rfl))

theorem TrainLaw.stationCompute {i : StationId} (h : TrainLaw s) (res : (s.station i).isResident = true)
    (engaged : (s.station i).engaged = true) (d : ResidentDesc) (samples : List Int) :
    TrainLaw (s.stationCompute i d samples) := by
  unfold State.stationCompute
  extract_lets r src emptied latched
  clear_value r
  have first : SameTrains s emptied := .putStation i rfl Iff.rfl (fun _ _ => rfl) rfl
  have second : SameTrains emptied latched := .latchStation i r.flags
  have law : TrainLaw latched := (h.congr first).congr second
  have able : (latched.station i).engaged = true := by
    have flagged : (latched.station i).engaged = (emptied.station i).engaged :=
      by
        dsimp only [latched]
        rw [State.latchStation_station, if_pos rfl]
    have kept : (emptied.station i).engaged = (s.station i).engaged := by
      dsimp only [emptied]
      rw [State.station_putStation_self]
    exact flagged.trans (kept.trans engaged)
  split
  · exact law
  · exact law.startStationTrain ((second.resident i).trans ((first.resident i).trans res)) able _ _ _

theorem TrainLaw.offerSample {i : StationId} (h : TrainLaw s) (res : (s.station i).isResident = true)
    (engaged : (s.station i).engaged = true) (d : ResidentDesc) (e : Int) : TrainLaw (s.offerSample i d e) := by
  unfold State.offerSample
  extract_lets src x
  have counted : TrainLaw (s.putStation i x) := h.putStation i rfl Iff.rfl rfl rfl
  have resident : ((s.putStation i x).station i).isResident = true := by
    rw [State.station_putStation_self]
    exact res
  have able : ((s.putStation i x).station i).engaged = true := by
    rw [State.station_putStation_self]
    exact engaged
  have st : x.st = (s.station i).st := rfl
  have same : x.train = (s.station i).train ∧ x.engaged = (s.station i).engaged ∧ x.desc = (s.station i).desc := ⟨rfl, rfl, rfl⟩
  clear_value x
  obtain ⟨train, on, desc⟩ := same
  have moved : ∀ {y : Station}, y.train = x.train → x.st ≠ .correcting → y.st ≠ .correcting → y.engaged = x.engaged →
      y.desc = x.desc → TrainLaw (s.putStation i y) := fun {y} train' no no' on' desc' =>
    h.putStation i (train'.trans train) ⟨fun is => absurd is no', fun is => absurd (st.trans is) no⟩ (on'.trans on)
      (desc'.trans desc)
  split
  next was => exact moved rfl (by simp [was]) (by simp) rfl rfl
  next was => exact moved rfl (by simp [was]) (by simp) rfl rfl
  next was =>
    split
    · exact moved rfl (by simp [was]) (by simp [was]) rfl rfl
    · exact counted.stationCompute resident able d _
  all_goals exact counted

theorem TrainLaw.offerBad {i : StationId} (h : TrainLaw s) (d : ResidentDesc) : TrainLaw (s.offerBad i d) := by
  unfold State.offerBad
  extract_lets bad src counted
  have law : TrainLaw counted := h.putStation i rfl Iff.rfl rfl rfl
  split
  case h_4 | h_5 | h_6 => exact law
  all_goals
    next st =>
      split
      · exact law.enterLost i (by rw [st]; simp)
      · exact law

theorem TrainLaw.offer {i : StationId} (h : TrainLaw s) (o : StationOutcome) : TrainLaw (s.offer i o) := by
  unfold State.offer
  split
  next d desc =>
    split
    next engaged =>
      split
      · refine h.offerSample ?_ engaged d _
        unfold Station.isResident
        rw [desc]
      · exact h.offerBad d
      · exact h.offerBad d
      all_goals exact h
    next => exact h
  next => exact h

theorem TrainLaw.outcomeTransfer (h : TrainLaw s) (index : BitVec 32) (kind : OriginKind) (formed : Vector StationOutcome 8) :
    TrainLaw (s.outcomeTransfer index kind formed) := by
  have told : ∀ v : State, TrainLaw v → ∀ w : Vector StationOutcome 8, TrainLaw ((List.finRange 8).foldl
      (fun (t : State) i =>
        if (t.station i).isResident then t.putStation i { t.station i with lastOutcome := some w[i] } else t) v) :=
    fun v hv w => foldl_keeps _ (fun t i ht => by
      split
      · exact ht.putStation i rfl Iff.rfl rfl rfl
      · exact ht) _ hv
  have written : ∀ f, TrainLaw (s.updateRecord index f) := fun f =>
    trainLaw_reads.frame (s.updateRecord_affects index f) rfl h
  unfold State.outcomeTransfer
  dsimp only
  split
  · exact foldl_keeps _ (fun t i ht => ht.offer _) _ (told _ (written _) _)
  · exact told _ (written _) _

theorem TrainLaw.settleEnd {i : StationId} (h : TrainLaw s) :
    ∃ v, exec (.settleEnd i) s = .next v.endOfEvent ∧ TrainLaw v := by
  refine ⟨_, rfl, ?_⟩
  split
  next due =>
    simp only [State.settleDue, Bool.and_eq_true, beq_iff_eq] at due
    exact h.putStation i rfl (by simp [due.1]) rfl rfl
  next => exact h

theorem TrainLaw.stepPulse {c : ChannelId} (h : TrainLaw s) :
    ∃ v, exec (.stepPulse c) s = .next v.endOfEvent ∧ TrainLaw v := by
  refine ⟨_, rfl, ?_⟩
  split
  next flies =>
    split
    next more =>
      have flight : ∀ k, ((s.putChan c (s.chan c).emit).chan k).inFlight = (s.chan k).inFlight := fun k => by
        rw [State.chan_putChan]
        split
        next is => rw [is, more, flies]
        next => rfl
      exact h.congr ⟨fun _ => rfl, flight, fun _ => Iff.rfl, fun _ _ _ => id, fun _ => rfl, fun _ => rfl, Iff.rfl, rfl⟩
    next last => exact h.trainDone (by simpa using last)
  next => exact h

theorem TrainLaw.stepPulseEnd {c : ChannelId} (h : TrainLaw s) :
    ∃ v, exec (.stepPulseEnd c) s = .next v.endOfEvent ∧ TrainLaw v := by
  refine ⟨_, rfl, h.congr ⟨fun _ => rfl, fun k => ?_, fun _ => Iff.rfl, fun _ _ _ => id, fun _ => rfl, fun _ => rfl, Iff.rfl,
    rfl⟩⟩
  rw [State.chan_putChan]
  split
  next is => rw [is]
  next => rfl

/-! ### The emboss loop -/

/-- A change of the emboss block that keeps its phase in or out of flight, and its note. -/
theorem TrainLaw.emboss {e : Emb} (h : TrainLaw s) (phase : e.phase = .inFlight ↔ s.emb.phase = .inFlight)
    (train : e.train = s.emb.train) : TrainLaw { s with emb := e } :=
  h.congr ⟨fun _ => rfl, fun _ => rfl, fun _ => Iff.rfl, fun _ _ _ => id, fun _ => rfl, fun _ => rfl, phase,
    congrArg Option.isSome train⟩

/-- A train starts on the emboss channel. -/
theorem TrainLaw.embossStarted {e : Emb} (h : TrainLaw s) (phase : e.phase = .inFlight) (train : e.train.isSome = true)
    (n : Nat) (c : Int) (rate : Nat) :
    TrainLaw (({ s with emb := e } : State).startTrain embossChannel n c rate) := by
  have law := trainLaw_iff.mp h
  have others : ∀ i, ((({ s with emb := e } : State).startTrain embossChannel n c rate).chan (channelOf i)).inFlight =
      (s.chan (channelOf i)).inFlight := fun i => by
    unfold State.startTrain
    rw [State.chan_putChan, if_neg (channelOf_ne_emboss i)]
    rfl
  have own : ((({ s with emb := e } : State).startTrain embossChannel n c rate).chan embossChannel).inFlight = true := by
    unfold State.startTrain
    rw [State.chan_putChan_self]
  refine trainLaw_iff.mpr ⟨fun i => (law.note i).trans (others i).symm, fun k res i lead flight => ?_, law.engaged,
    fun k res ne is => ?_, ?_, ?_⟩
  · exact law.begins k res i lead (others i ▸ flight)
  · obtain ⟨i, lead, flight⟩ := law.ends k res ne is
    exact ⟨i, lead, (others i).trans flight⟩
  · rw [own]
    exact ⟨fun _ => rfl, fun _ => phase⟩
  · rw [own]
    exact train

theorem TrainLaw.embossCompute (j : Job) (samples : List Int) (h : TrainLaw s) : TrainLaw (s.embossCompute j samples) := by
  have latched : ∀ (v : State) f, TrainLaw v → TrainLaw (v.latchEmboss f) := fun v f hv => by
    unfold State.latchEmboss
    dsimp only
    split <;> exact hv.emboss Iff.rfl rfl
  unfold State.embossCompute
  extract_lets r emb emptied flagged
  clear_value r
  have law : TrainLaw flagged := latched emptied _ (h.emboss Iff.rfl rfl)
  split
  · exact law
  · exact law.embossStarted rfl rfl _ _ _

theorem TrainLaw.indexEdge (j : Job) (x : Count) (h : TrainLaw s) : TrainLaw (s.indexEdge j x) := by
  have offered : ∀ (v : State) e b, TrainLaw v → TrainLaw (v.embossOffer j e b) := fun v e b hv => by
    unfold State.embossOffer
    split
    · exact hv
    next phase => exact hv.emboss (by simp [phase]) rfl
    · split
      · dsimp only
        split
        · exact hv.emboss Iff.rfl rfl
        · exact hv.embossCompute j _
      · exact hv
  unfold State.indexEdge
  split
  · exact offered _ _ _ (TrainLaw.emboss (s := { s with emb := _ }) (h.emboss Iff.rfl rfl) Iff.rfl rfl)
  · exact h

theorem TrainLaw.embossMiss (j : Job) (h : TrainLaw s) : TrainLaw (s.embossMiss j) := by
  unfold State.embossMiss
  dsimp only
  split
  · exact h.emboss Iff.rfl rfl
  · exact h.emboss Iff.rfl rfl

/-! ### The end of a job, START and the requests on stations -/

/-- An operation that leaves stations, channels and the emboss loop. -/
theorem TrainLaw.of_loop (h : TrainLaw s) (rlp : u.rlp = s.rlp) (stg : u.stg = s.stg) (loop : u.loopJob = s.loopJob) :
    TrainLaw u := by
  obtain ⟨phase, train, -⟩ := State.loopJob_items loop
  exact h.congr (.of_blocks rlp stg phase train)

/-- The notes of the station channels, through the aborts of any stations. -/
theorem State.abortAll_notes (l : List StationId)
    (note : ∀ i : StationId, (s.station i).train.isSome = (s.chan (channelOf i)).inFlight) (i : StationId) :
    ((l.foldl State.abortStation s).station i).train.isSome = ((l.foldl State.abortStation s).chan (channelOf i)).inFlight := by
  induction l generalizing s with
  | nil => exact note i
  | cons k l ih =>
    refine ih fun m => ?_
    rw [State.abortStation_chan]
    by_cases is : m = k
    · subst is
      rw [State.abortStation_train s m (note m)]
      simp
    · rw [(s.abortStation_station k m).2.2.2 is, note m]
      have ne : channelOf m ≠ channelOf k := fun e => is (channelOf_injective e)
      simp [ne]

theorem State.mapStations_station (s : State) (f : Station → Station) (i : StationId) :
    (s.mapStations f).station i = f (s.station i) := by
  simp [State.mapStations, State.station]

theorem Station.startState_ne (x : Station) (res : x.isResident = true) : x.startState ≠ .correcting := by
  unfold Station.startState
  rw [if_pos res]
  split <;> simp

theorem Station.atReturn_desc (x : Station) : x.atReturn.desc = x.desc ∧ x.atReturn.train = x.train := by
  unfold Station.atReturn
  split <;> exact ⟨rfl, rfl⟩

theorem Station.atReturn_st (x : Station) (res : x.isResident = true) : x.atReturn.st ≠ .correcting := by
  unfold Station.atReturn
  rw [if_pos (by simp [res])]
  exact x.startState_ne res

theorem State.abortEmboss_train (s : State) (note : s.emb.train.isSome = (s.chan embossChannel).inFlight) :
    s.abortEmboss.emb.train = none := by
  unfold State.abortEmboss
  dsimp only
  split
  · split
    next is => exact is
    next => rfl
  next idle =>
    simp only [Bool.not_eq_true] at idle
    rw [idle] at note
    simpa using note

/-- The last steps of the return to READY leave the stations and the emboss loop. -/
theorem State.left_rlp (r : State) :
    ∀ a, a = (({ r with
      msc := r.msc.atBoundary, wnd := r.wnd.atReturn,
      lsc := { r.lsc with latched := {}, runPermit := false } } : State)).setLineState .ready →
      a.rlp = r.rlp ∧ a.stg = r.stg ∧ a.loopJob = r.loopJob := by
  rintro a rfl
  have frame := (State.setLineState_affects { r with
    msc := r.msc.atBoundary, wnd := r.wnd.atReturn, lsc := { r.lsc with latched := {}, runPermit := false } } .ready).1
  exact ⟨(frame.rlp (by decide)).trans rfl, (frame.stg (by decide)).trans rfl,
    (State.setLineState_loopJob _ _).trans rfl⟩

theorem Emb.atReturn_train (e : Emb) : e.atReturn.train = e.train ∧ e.atReturn.trim = e.trim := ⟨rfl, rfl⟩

theorem State.returnToReady_stations (s : State) :
    (∀ i, s.returnToReady.station i = (s.abortStations.station i).atReturn) ∧
      s.returnToReady.emb.train = s.registerReturn.abortEmboss.emb.train ∧
      s.returnToReady.emb.trim = s.registerReturn.abortEmboss.emb.trim := by
  obtain ⟨rlp, -, loop⟩ := State.left_rlp s.registerReturn.embossReturn.shadeReturn s.returnToReady
    (by simp only [State.returnToReady])
  have shade := s.registerReturn.embossReturn.shadeReturn_affects.1
  have emboss := s.registerReturn.embossReturn_affects.1
  obtain ⟨-, train', trim', -⟩ := State.loopJob_items loop
  have same : s.registerReturn.embossReturn.shadeReturn.emb = s.registerReturn.abortEmboss.emb.atReturn :=
    (shade.emb (by decide)).trans (State.embossReturn_emb _)
  obtain ⟨train, trim⟩ := s.registerReturn.abortEmboss.emb.atReturn_train
  refine ⟨fun i => ?_, ?_, ?_⟩
  · have stations : s.returnToReady.rlp = s.registerReturn.rlp :=
      rlp.trans ((shade.rlp (by decide)).trans (emboss.rlp (by decide)))
    refine Eq.trans ?_ (s.abortStations.mapStations_station Station.atReturn i)
    exact congrArg (fun r : Rlp => r.stations[i]) stations
  · rw [train', same, train]
  · rw [trim', same, trim]

theorem State.registerReturn_emboss (s : State) :
    (s.registerReturn.chan embossChannel).inFlight = (s.chan embossChannel).inFlight := by
  rw [State.registerReturn_chan, State.abortStations_chan]
  exact Bool.and_true _

theorem TrainLaw.returned (h : TrainLaw s) : TrainLaw s.returnToReady := by
  have law := trainLaw_iff.mp h
  obtain ⟨-, -, -, flight, -, -, -, phase, -⟩ := s.returnToReady_spec
  obtain ⟨stations, note, -⟩ := s.returnToReady_stations
  have chans : ∀ i : StationId, (s.abortStations.chan (channelOf i)).inFlight = false := fun i => by
    rw [State.abortStations_chan]
    have : (channelOf i).val < 8 := i.isLt
    simp [this]
  refine trainLaw_of_idle (fun i => ?_) flight (fun k res => ?_) (by rw [phase]; simp) ?_
  · rw [stations, (Station.atReturn_desc _).2]
    have := State.abortAll_notes (List.finRange 8) law.note i
    rw [show List.foldl _ s _ = s.abortStations from rfl, chans i] at this
    simpa using this
  · rw [stations] at res ⊢
    exact Station.atReturn_st _ ((Station.isResident_congr (Station.atReturn_desc _).1).symm.trans res)
  · rw [note]
    refine State.abortEmboss_train _ ?_
    rw [s.registerReturn_emboss, s.registerReturn_affects.1.emb (by decide)]
    exact law.emboss

theorem trainLaw_keptByEvents : KeptByEvents TrainLaw where
  entry _ h := h
  roll _ h := h
  assign _ _ _ h := trainLaw_reads.frame (State.assignBatch_affects _ _ _ _) rfl h
  told _ h := h
  labels h := trainLaw_reads.frame (State.labelWork_affects _) rfl h
  winder _ h := h
  records _ h := h
  events _ h := h
  permit h := h
  allocate _ _ _ _ h := trainLaw_reads.frame (State.allocate_affects _ _ _ _) rfl h
  pins _ h := h
  web _ h := h
  arrive {s} j e h := by
    have frame := (s.arrive_affects j e).1
    exact h.of_loop (frame.rlp (by decide)) (frame.stg (by decide)) (s.arrive_loopJob j e)
  cause c h := h.cause c

theorem trainLaw_keptByRuns : KeptByRuns TrainLaw where
  toKeptByEvents := trainLaw_keptByEvents
  empty h := h
  returned _ h := h.returned
  withdraw seq h := trainLaw_reads.frame (State.withdrawLabel_affects _ seq) rfl h
  unattach seq h := trainLaw_reads.frame (State.unattachSent_affects _ seq) rfl h
  release _ h := h

/-- Between jobs no train is in flight and no station corrects. -/
theorem TrainLaw.rested (h : TrainLaw s) (rest : Rested s) :
    (∀ i, (s.station i).train = none) ∧ (∀ k, (s.station k).isResident = true → (s.station k).st ≠ .correcting) ∧
      s.emb.train = none := by
  have law := trainLaw_iff.mp h
  refine ⟨fun i => ?_, fun k res is => ?_, ?_⟩
  · have := law.note i
    rw [rest.chan] at this
    simpa using this
  · obtain ⟨i, -, flight⟩ := law.ends k res (by simp) is
    rw [rest.chan] at flight
    cases flight
  · have := law.emboss
    rw [rest.chan] at this
    simpa using this

theorem TrainLaw.takeStart (j : Job) (h : TrainLaw s) (rest : Rested s) : TrainLaw (s.takeStart j) := by
  obtain ⟨train, st, note⟩ := h.rested rest
  have frame := (State.leadIn_affects { (s.mapStations Station.atStart).scannerStart with
    wpu := { s.wpu with faultCount := 0 }, emb := s.emb.atStart, shu := s.shu.atStart, bat := s.bat.atStart } j).1
  have emb : (s.startBlocks j).emb = s.emb.atStart := frame.emb (by decide)
  have stations : ∀ i, (s.startBlocks j).station i = (s.station i).atStart := fun i => by
    have rlp : (s.startBlocks j).rlp = (s.mapStations Station.atStart).rlp := frame.rlp (by decide)
    refine Eq.trans ?_ (s.mapStations_station Station.atStart i)
    exact congrArg (fun r : Rlp => r.stations[i]) rlp
  have stg : (s.startBlocks j).stg = s.stg := frame.stg (by decide)
  have atStart : ∀ x : Station, x.atStart.desc = x.desc ∧ (x.train = none → x.atStart.train = none) ∧
      (x.isResident = true → x.atStart.st ≠ .correcting) := fun x => by
    unfold Station.atStart
    split
    · exact ⟨rfl, fun _ => rfl, x.startState_ne⟩
    next other => exact ⟨rfl, id, fun res => absurd (by simp [res]) other⟩
  have blocks : TrainLaw (s.startBlocks j) := by
    refine trainLaw_of_idle (fun i => ?_) (fun c => ?_) (fun k res => ?_) ?_ ?_
    · rw [stations]
      exact (atStart _).2.1 (train i)
    · unfold State.chan
      rw [stg]
      exact rest.chan c
    · rw [stations] at res ⊢
      exact (atStart _).2.2 ((Station.isResident_congr (atStart _).1).symm.trans res)
    · rw [emb]
      simp [Emb.atStart]
    · rw [emb]
      rfl
  have line : ∀ {v : State} (x : LineState), TrainLaw v → TrainLaw (v.setLineState x) := fun {v} x hv => by
    have frame := (v.setLineState_affects x).1
    exact hv.of_loop (frame.rlp (by decide)) (frame.stg (by decide)) (v.setLineState_loopJob x)
  have opening := trainLaw_keptByEvents.openingOccasion j (line .run (trainLaw_reads.frame
    (affects_lsc (s.startBlocks j) { (s.startBlocks j).lsc with runPermit := true }) rfl blocks))
  have examined : ∀ {v : State} (c : HoldCause), TrainLaw v → TrainLaw (v.examine c) := fun {v} c hv => by
    unfold State.examine
    split
    · exact hv.cause c
    · exact hv
  have first := examined .overspeed (examined .encoder opening)
  have second := examined .printerOffline (examined .headOffline first)
  exact second

theorem State.leaderOf_resident {i : StationId} (res : (s.station i).isResident = true) : s.leaderOf i = i := by
  unfold State.leaderOf
  unfold Station.isResident at res
  split at res
  next is => rw [is]
  next => cases res

theorem State.leaderOf_follower {i f : StationId} (member : f ∈ s.followers i) : s.leaderOf f = i := by
  have follows := (List.mem_filter.mp member).2
  unfold State.leaderOf
  split at follows
  next => exact beq_iff_eq.mp follows
  next => cases follows

/-- STATION_DISENGAGE aborts the station's train and its followers', and ends its leader's CORRECTING (R69). -/
theorem TrainLaw.disengage (i : StationId) (h : TrainLaw s) (rest : RestLaw s) : TrainLaw (s.disengage i) := by
  have law := trainLaw_iff.mp h
  unfold State.disengage
  split
  · split
    next d desc =>
      have res : (s.station i).isResident = true := by
        unfold Station.isResident
        rw [desc]
      have own := State.leaderOf_resident res
      have first := law.abort i (.inl rfl)
      rw [own] at first
      have descs : ∀ k, ((s.abortStation i).station k).desc = (s.station k).desc := fun k =>
        (s.abortStation_station i k).2.2.1
      have led : ∀ f ∈ (s.abortStation i).followers i, (s.abortStation i).leaderOf f = i := fun f member =>
        State.leaderOf_follower member
      obtain ⟨all, desc', flight⟩ := first.abortAll _ led
      refine all.settled (fun k lead => ?_) rfl (by simp) rfl
      rw [State.leaderOf_congr (desc' k)] at lead
      rw [flight, State.abortStation_chan]
      by_cases same : k = i
      · simp [same]
      · have follower : k ∈ (s.abortStation i).followers i := by
          simp only [State.followers, List.mem_filter, List.mem_finRange, true_and]
          unfold State.leaderOf at lead
          split at lead
          next => simp [lead]
          next => exact absurd lead same
        have among : (((s.abortStation i).followers i).any fun m => channelOf k == channelOf m) = true :=
          List.any_eq_true.mpr ⟨k, follower, by simp⟩
        simp [among]
    next other =>
      have first := law.abort i (.inl rfl)
      have notResident : ((s.abortStation i).station i).isResident = false := by
        rw [Station.isResident_congr (s.abortStation_station i i).2.2.1]
        unfold Station.isResident
        split
        next is => exact absurd is (other _)
        next => rfl
      have same : SameTrains (s.abortStation i)
          ((s.abortStation i).putStation i { (s.abortStation i).station i with engaged := false }) :=
        .putStation i rfl Iff.rfl (fun res => by rw [notResident] at res; cases res) rfl
      have second := first.congr same
      have leader : State.leaderOf ((s.abortStation i).putStation i { (s.abortStation i).station i with engaged := false }) i =
          s.leaderOf i := (same.leader i).trans (State.leaderOf_congr (s.abortStation_station i i).2.2.1)
      dsimp only
      rw [leader]
      exact second.correctingEnd
  next idle =>
    obtain ⟨-, st, -⟩ := h.rested (restLaw_iff.mp rest (by simpa using idle))
    exact h.congr (.putStation i rfl Iff.rfl (fun res is => absurd is (st i res)) rfl)

/-- STATION_ENGAGE of a station that is disengaged, and so not CORRECTING (R70). -/
theorem TrainLaw.engage (i : StationId) (h : TrainLaw s) (off : (s.station i).engaged = false) : TrainLaw (s.engage i) := by
  have still : (s.station i).isResident = true → (s.station i).st ≠ .correcting := fun res is => by
    have := (trainLaw_iff.mp h).engaged i res is
    rw [off] at this
    cases this
  unfold State.engage
  dsimp only
  split
  next able =>
    simp only [Bool.and_eq_true] at able
    refine h.congr (.putStation i rfl ?_ (fun res is => absurd is (still res)) rfl)
    have := still able.2
    simp [this]
  next => exact h.congr (.putStation i rfl Iff.rfl (fun res is => absurd is (still res)) rfl)

/-- TUNE_STATION keeps the station RESIDENT (R71). -/
theorem TrainLaw.tune {i : StationId} {d d' : ResidentDesc} (h : TrainLaw s) (desc : (s.station i).desc = .resident d) :
    TrainLaw (s.putStation i { s.station i with desc := .resident d' }) := by
  refine h.congr (.of_stations rfl rfl fun k => ?_)
  by_cases is : k = i
  · subst is
    have resident : (s.station k).isResident = true := by
      unfold Station.isResident
      rw [desc]
    refine ⟨?_, ?_, fun _ _ => ?_, ?_, ?_⟩
    · rw [State.station_putStation_self]
    · rw [State.station_putStation_self]
    · rw [State.station_putStation_self]
    · rw [State.station_putStation_self, resident]
      rfl
    · rw [State.leaderOf_resident resident]
      refine State.leaderOf_resident ?_
      rw [State.station_putStation_self]
      rfl
  · have same : (s.putStation i { s.station i with desc := .resident d' }).station k = s.station k := by
      rw [State.station_putStation, if_neg is]
    exact ⟨by rw [same], by rw [same], fun _ _ => by rw [same], by rw [same], State.leaderOf_congr (by rw [same])⟩

/-- What a new descriptor leaves of a station: its note, a trim of 0, and a starting state (R41). -/
theorem Station.setTo_rest (x : Station) (d : Descriptor) :
    (x.setTo d).desc = d ∧ (x.setTo d).train = x.train ∧ (x.setTo d).trim = 0 ∧
      ((x.setTo d).isResident = true → (x.setTo d).st ≠ .correcting) := by
  unfold Station.setTo
  extract_lets a b c e
  have engaged : b.desc = d ∧ b.train = x.train ∧ b.trim = 0 := by
    dsimp only [b]
    split <;> exact ⟨rfl, rfl, rfl⟩
  have flagged : c.desc = d ∧ c.train = x.train ∧ c.trim = 0 := by
    dsimp only [c]
    split <;> exact engaged
  have told : e.desc = d ∧ e.train = x.train ∧ e.trim = 0 := by
    dsimp only [e]
    split <;> exact flagged
  exact ⟨told.1, told.2.1, told.2.2, fun res => e.startState_ne res⟩

/-- SET_STATION, in READY (R41). -/
theorem TrainLaw.setStation (i : StationId) (d : Descriptor) (h : TrainLaw s) (rest : Rested s) :
    TrainLaw (s.putStation i ((s.station i).setTo d)) := by
  obtain ⟨train, st, note⟩ := h.rested rest
  obtain ⟨-, train', -, st'⟩ := (s.station i).setTo_rest d
  refine trainLaw_of_idle (fun k => ?_) rest.chan (fun k res => ?_) ?_ note
  · rw [State.station_putStation]
    split
    · exact train'.trans (train i)
    · exact train k
  · rw [State.station_putStation] at res ⊢
    split at res
    next is =>
      rw [if_pos is]
      exact st' res
    next is =>
      rw [if_neg is]
      exact st k res
  · show s.emb.phase ≠ .inFlight
    rw [rest.phase]
    simp

theorem State.batchLoad_loopJob (s : State) (j : Job) : (s.batchLoad j).loopJob = s.loopJob :=
  State.loopJob_of_affects (s.batchLoad_affects j)

/-- LOAD_JOB, between jobs, empties the station table (R74, R181). -/
theorem trainLaw_takeJob (j : Job) (rest : Rested s) : TrainLaw (s.takeJob j) := by
  unfold State.takeJob
  extract_lets lsc msc rlg wnd u
  have loaded : TrainLaw u := by
    refine trainLaw_of_idle (fun i => ?_) rest.chan (fun k res => ?_) ?_ rfl
    · simp [u, State.station, Rlp.reset, Station.reset]
    · simp [u, State.station, Rlp.reset, Station.reset]
    · simp [u, Emb.atLoad]
  have table : TrainLaw (u.batchLoad j) := trainLaw_reads.frame (u.batchLoad_affects j) rfl loaded
  have frame := ((u.batchLoad j).setLineState_affects .ready).1
  exact table.of_loop (frame.rlp (by decide)) (frame.stg (by decide)) (State.setLineState_loopJob _ _)

theorem request_trainLaw {c : Instr} {l : LinkId} {tag : Byte} {x : Service} (is : requestOf c = some (l, tag, x))
    (meets : ([.rlp, .stg, .emb] : List Block).any (blocksOf c).contains = true) (rest : RestLaw s) (h : TrainLaw s) :
    TrainLaw (x.act s).1 := by
  have kept := trainLaw_keptByRuns
  have line : ∀ {v : State} (x : LineState), TrainLaw v → TrainLaw (v.setLineState x) := fun {v} x hv => by
    have frame := (v.setLineState_affects x).1
    exact hv.of_loop (frame.rlp (by decide)) (frame.stg (by decide)) (v.setLineState_loopJob x)
  have evaluated : ∀ {v : State}, TrainLaw v → TrainLaw v.evaluateNip := fun {v} hv => by
    have frame := v.evaluateNip_affects.1
    exact hv.of_loop (frame.rlp (by decide)) (frame.stg (by decide)) v.evaluateNip_loopJob
  have idle : ∀ {x : LineState}, s.lsc.lineState = x → (x = .ready ∨ x = .unconfigured) → Rested s := fun is rests => by
    refine restLaw_iff.mp rest ?_
    unfold State.running
    rw [is]
    rcases rests with rfl | rfl <;> rfl
  cases c <;> cases is <;> try contradiction
  case stationStatus =>
    simp only [stationStatusService]
    split
    · exact h
    · exact h.putStation _ rfl Iff.rfl rfl rfl
  case embossStatus => exact h.emboss Iff.rfl rfl
  case embossLift =>
    simp only [embossLiftService]
    split
    · exact evaluated (h.emboss Iff.rfl rfl)
    · exact h
  case embossClose =>
    simp only [embossCloseService]
    split
    · exact evaluated (h.emboss Iff.rfl rfl)
    · exact h
  case start =>
    simp only [startService]
    split
    next ready =>
      refine answerWithJob_keeps h fun j _ => ?_
      split
      · exact h
      · split
        · exact h
        · rw [done_fst]
          exact h.takeStart j (idle ready (.inl rfl))
    next => exact h
  case hold =>
    simp only [holdService]
    split
    · exact h.cause .host
    · exact h
  case resume =>
    simp only [resumeService]
    split
    · split
      · rw [done_fst]
        exact line .run h
      · exact h
    · exact h
  case endJob => exact kept.endJob (fun _ => line .ending h) h
  case abortJob => exact kept.abortJob h
  case releaseEntries => exact kept.releaseEntries _ h
  case markEvent =>
    simp only [markEventService]
    split
    · refine answerWithJob_keeps h fun j _ => ?_
      rw [done_fst]
      exact kept.arrive j _ h
    · exact h
  case stationEngage =>
    simp only [stationEngageService, State.onStation]
    split
    · exact h
    · split
      · exact h
      · split
        · rw [done_fst]
          split
          · exact h
          next off => exact h.engage _ (by simpa using off)
        · exact h
  case stationDisengage =>
    simp only [stationDisengageService, State.onStation]
    split
    · exact h
    · split
      · exact h
      · split
        · rw [done_fst]
          split
          · exact h.disengage _ rest
          · exact h
        · exact h
  case tuneStation =>
    simp only [tuneStationService]
    split
    · exact h
    · split
      · exact h
      · split
        next desc =>
          split
          · exact h
          · rw [done_fst]
            exact h.tune desc
        next => exact h
  case setStation =>
    simp only [setStationService]
    split
    next ready =>
      refine answerWithJob_keeps h fun j _ => ?_
      split
      · exact h
      · rw [done_fst]
        exact h.setStation _ _ (idle ready (.inl rfl))
    next => exact h
  case loadJob =>
    simp only [loadJobService]
    split
    next unloaded =>
      split
      · exact h
      · rw [done_fst]
        refine trainLaw_takeJob _ ?_
        simp only [Bool.or_eq_true, decide_eq_true_eq] at unloaded
        rcases unloaded with is | is
        · exact idle is (.inr rfl)
        · exact idle is (.inl rfl)
    next => exact h

/-- The operations that move stations, channels or the emboss loop, or may end a job. -/
theorem operation_trainLaw {c : Instr} {t : State} (is : isOperation c = true)
    (meets : ([.rlp, .stg, .emb] : List Block).any (blocksOf c).contains = true) (h : TrainLaw s)
    (runs : exec c s = .next t) : TrainLaw t := by
  have kept := trainLaw_keptByRuns
  by_cases moves : ([.rlp, .stg] : List Block).any (blocksOf c).contains = true
  · cases c <;> try contradiction
    case pwmPeriodStart g => cases g <;> contradiction
    all_goals refine trainLaw_reads.ends ?_ runs
    case stoppedFlagSet => exact kept.stoppedFlagSet h
    case cutDue => exact kept.cutDue h
    case doff => exact kept.doff h
    case settleEnd => exact h.settleEnd
    case stepPulse => exact h.stepPulse
    case stepPulseEnd => exact h.stepPulseEnd
    case indexEdge =>
      refine ⟨_, rfl, withJob_keeps h fun j _ => ?_⟩
      split
      · exact h.indexEdge j _
      · exact h
    case captureClose =>
      refine ⟨_, rfl, withJob_keeps h fun j _ => ?_⟩
      split
      · split
        · unfold State.closeCapture
          split
          · exact TrainLaw.outcomeTransfer (trainLaw_reads.frame (affects_msc _ _) rfl
              (trainLaw_reads.frame s.popClosing_affects rfl h)) _ _ _
          · exact trainLaw_reads.frame s.popClosing_affects rfl h
        · exact h
      · exact h
    case flywheelClosing =>
      refine ⟨_, rfl, withJob_keeps h fun j _ => ?_⟩
      split
      · split
        · exact TrainLaw.outcomeTransfer (trainLaw_reads.frame s.popClosing_affects rfl h) _ _ _
        · exact h
      · exact h
  · obtain ⟨u, runs', frame⟩ := exec_sameBut c s
    cases runs'.symm.trans runs
    have rlp : t.rlp = s.rlp := frame.rlp fun touched => moves (by simp [touched])
    have stg : t.stg = s.stg := frame.stg fun touched => moves (by simp [touched])
    by_cases loop : movesLoop c = true
    · cases c <;> try contradiction
      refine trainLaw_reads.ends ?_ runs
      refine ⟨_, rfl, withJob_keeps h fun j _ => ?_⟩
      split
      · have dropped : TrainLaw { s with emb := { s.emb with windows := s.emb.windows.drop 1 } } := h.emboss Iff.rfl rfl
        dsimp only
        split
        · exact dropped
        · exact dropped.embossMiss j
      · exact h
    · exact h.of_loop rlp stg (operation_loopJob is (by simpa using loop) runs)

theorem resetWith_trainLaw (p : Pins) (q : List Instr) : TrainLaw (State.resetWith p q) := by
  refine trainLaw_of_idle (fun i => ?_) (fun c => ?_) (fun k res => ?_) ?_ rfl
  · simp [State.station, State.resetWith, Rlp.reset, Station.reset]
  · simp [State.chan, State.resetWith, Stg.reset, Channel.reset]
  · simp [State.station, State.resetWith, Rlp.reset, Station.reset]
  · simp [State.resetWith, Emb.reset]

theorem clockCycle_trainLaw (h : TrainLaw s) : TrainLaw s.clockCycle := by
  have flight : ∀ c, (s.clockCycle.chan c).inFlight = (s.chan c).inFlight := fun c => by
    simp only [State.chan, State.clockCycle, Fin.getElem_fin, Vector.getElem_map]
    rfl
  exact h.congr ⟨fun _ => rfl, flight, fun _ => Iff.rfl, fun _ _ _ => id, fun _ => rfl, fun _ => rfl, Iff.rfl, rfl⟩

end

/-- Settles O13: a train's start, last step and abort each move its note, its channel and its leader's CORRECTING. -/
theorem everyStepKeepsTrainLaw : Obligations.EveryStepKeepsTrainLaw := fun _ _ rest law runs =>
  step_keeps_law (restLaw_reads.and trainLaw_reads) trainLaw_reads (fun _ h => h.2) resetWith_trainLaw
    (fun _ _ _ _ _ is meets h => request_trainLaw is meets h.1 h.2)
    (fun _ _ _ is meets h runs => operation_trainLaw is meets h.2 runs) (fun _ h => clockCycle_trainLaw h.2) ⟨rest, law⟩ runs

end Sys2Proof.Machine
end

section
/-! PROOFS. What each station and the emboss loop hold of trims, trains and samples, kept by every step: the trim limits
(O14), and the accumulators' share of the capacities (O9). -/

namespace Sys2Proof.Machine

-- one proof at a time: the joined package would else open a thread for each of them
set_option Elab.async false

/-! ### The bounds of the correction arithmetic -/

/-- Stage 7 leaves the trim within its limit (R50). -/
theorem cauTrimLimit_bound (c trim : Int) (limit : Nat) : (trim + (cauTrimLimit c trim limit).1).natAbs ≤ limit := by
  unfold cauTrimLimit
  split
  next =>
    have cancel : trim + ((trim + c).sign * limit - trim) = (trim + c).sign * limit := by omega
    rw [cancel, Int.natAbs_mul, Int.natAbs_natCast]
    rcases Int.lt_trichotomy (trim + c) 0 with neg | zero | pos
    · simp [Int.sign_eq_neg_one_of_neg neg]
    · simp [zero]
    · simp [Int.sign_eq_one_of_pos pos]
  next fits => exact Nat.le_of_not_lt fits

theorem cauFinish_bound {c trim : Int} {stepLimit trimLimit ratio n : Nat} {d : Int}
    (train : (cauFinish c trim stepLimit trimLimit ratio).train = some (n, d)) : (trim + d).natAbs ≤ trimLimit := by
  have bound := cauTrimLimit_bound (cauStepLimit c stepLimit).1 trim trimLimit
  unfold cauFinish at train
  dsimp only at train
  split at train
  · cases train
  · split at train
    · cases train
    · cases train
      exact bound

theorem cauFull_bound {samples : List Int} {trim : Int} {t : Tuning} {n : Nat} {d : Int}
    (train : (cauFull samples trim t).train = some (n, d)) : (trim + d).natAbs ≤ t.trimLimit := by
  unfold cauFull at train
  dsimp only at train
  split at train
  · cases train
  · exact cauFinish_bound train

/-- An abort leaves the trim between those before and after the train (R55). -/
theorem prorate_between (note : TrainNote) (k m : Nat) :
    (note.before ≤ prorate note k (k + m) ∧ prorate note k (k + m) ≤ note.before + note.c) ∨
      (note.before + note.c ≤ prorate note k (k + m) ∧ prorate note k (k + m) ≤ note.before) := by
  have share : note.c.natAbs * k / (k + m) ≤ note.c.natAbs := by
    refine Nat.div_le_of_le_mul ?_
    rw [Nat.mul_comm]
    exact Nat.mul_le_mul_right _ (Nat.le_add_right k m)
  unfold prorate
  generalize note.c.natAbs * k / (k + m) = q at share ⊢
  rcases Int.lt_trichotomy note.c 0 with neg | zero | pos
  · rw [Int.sign_eq_neg_one_of_neg neg]
    omega
  · rw [zero, Int.sign_zero]
    omega
  · rw [Int.sign_eq_one_of_pos pos]
    omega

theorem prorate_bound {note : TrainNote} {limit : Nat} (k m : Nat) (before : note.before.natAbs ≤ limit)
    (after : (note.before + note.c).natAbs ≤ limit) : (prorate note k (k + m)).natAbs ≤ limit := by
  have := prorate_between note k m
  omega

/-! ### What one station and the emboss loop hold -/

/-- A predicate of each station, and one of the emboss loop under the job in force. -/
def DriveLaw (Q : Station → Prop) (E : (EmbPhase × Option TrainNote × Int × List Int) × Option Job → Prop) (s : State) :
    Prop := (∀ i, Q (s.station i)) ∧ E s.loopJob

/-- A station whose descriptor, trim and train stay, and whose samples stay or go. -/
structure SameDrive (x y : Station) : Prop where
  desc : y.desc = x.desc
  trim : y.trim = x.trim
  train : y.train = x.train
  acc : y.acc = x.acc ∨ y.acc = []

/-- A station whose descriptor stays and that holds nothing of a run. -/
structure ClearedDrive (x y : Station) : Prop where
  desc : y.desc = x.desc
  trim : y.trim = 0
  train : y.train = none
  acc : y.acc = []

theorem Station.atReturn_same (x : Station) : SameDrive x x.atReturn := by
  unfold Station.atReturn
  split
  · exact ⟨rfl, rfl, rfl, .inr rfl⟩
  · exact ⟨rfl, rfl, rfl, .inl rfl⟩

theorem Emb.atReturn_loop (e : Emb) : e.atReturn.loop = (.idle, e.train, e.trim, []) := rfl

/-- What the model does to one station's trim, train and samples, and to the emboss loop's, keeps the predicates. -/
structure DriveKept (Q : Station → Prop) (E : (EmbPhase × Option TrainNote × Int × List Int) × Option Job → Prop) :
    Prop where
  moved : ∀ {x y : Station}, SameDrive x y → Q x → Q y
  gathered : ∀ {x : Station} {d : ResidentDesc} (e : Int), x.desc = .resident d →
    x.acc.length + 1 < d.tuning.averaging → Q x → Q { x with acc := x.acc ++ [e] }
  committed : ∀ {x : Station} {c : Int}, (∀ limit, x.trimLimit? = some limit → (x.trim + c).natAbs ≤ limit) → Q x →
    Q { x with train := some { before := x.trim, c := c }, trim := x.trim + c, lastC := some c }
  ended : ∀ {x : Station}, Q x → Q { x with train := none }
  aborted : ∀ {x : Station} {note : TrainNote} (k m : Nat), x.train = some note → Q x →
    Q { x with trim := prorate note k (k + m), train := none }
  cleared : ∀ {x y : Station}, ClearedDrive x y → Q x → Q y
  tuned : ∀ {x : Station} {d d' : ResidentDesc}, x.desc = .resident d → d'.tuning.trimLimit = d.tuning.trimLimit →
    d'.tuning.averaging ≤ Config.accumulatorCap → Q x → Q { x with desc := .resident d' }
  unset : Q Station.reset
  loopMoved : ∀ {p p' : EmbPhase} {n : Option TrainNote} {trim : Int} {acc acc' : List Int} {j : Option Job},
    acc' = acc ∨ acc' = [] → E ((p, n, trim, acc), j) → E ((p', n, trim, acc'), j)
  loopGathered : ∀ {p : EmbPhase} {n : Option TrainNote} {trim : Int} {acc : List Int} {j : Job} (e : Int),
    acc.length + 1 < j.emboss.averaging → E ((p, n, trim, acc), some j) → E ((p, n, trim, acc ++ [e]), some j)
  loopCommitted : ∀ {p : EmbPhase} {n : Option TrainNote} {trim c : Int} {acc : List Int} {j : Job},
    (trim + c).natAbs ≤ j.emboss.trimLimit → E ((p, n, trim, acc), some j) →
    E ((p, some { before := trim, c := c }, trim + c, acc), some j)
  loopEnded : ∀ {p : EmbPhase} {n : Option TrainNote} {trim : Int} {acc : List Int} {j : Option Job},
    E ((p, n, trim, acc), j) → E ((p, none, trim, acc), j)
  loopAborted : ∀ {p : EmbPhase} {note : TrainNote} {trim : Int} {acc : List Int} {j : Option Job} (k m : Nat),
    E ((p, some note, trim, acc), j) → E ((p, none, prorate note k (k + m), acc), j)
  loopStarted : ∀ {l : EmbPhase × Option TrainNote × Int × List Int} {j : Option Job}, E (l, j) →
    E ((.idle, none, 0, []), j)
  loopLoaded : ∀ {p : List Byte}, jobFails p = none → E ((.idle, none, 0, []), some (jobOf p))
  loopUnset : E ((.idle, none, 0, []), none)

section
variable {Q : Station → Prop} {E : (EmbPhase × Option TrainNote × Int × List Int) × Option Job → Prop} {s u : State}

theorem DriveLaw.of_loop (h : DriveLaw Q E s) (rlp : u.rlp = s.rlp) (loop : u.loopJob = s.loopJob) : DriveLaw Q E u := by
  refine ⟨fun i => ?_, loop ▸ h.2⟩
  unfold State.station
  rw [rlp]
  exact h.1 i

theorem driveLaw_reads : ReadsOnly [.rlp, .emb, .lsc] (DriveLaw Q E) where
  congr {s u} same h := by
    have emb : u.emb = s.emb := same .emb (by decide)
    have lsc : u.lsc = s.lsc := same .lsc (by decide)
    exact h.of_loop (same .rlp (by decide)) (by simp only [State.loopJob, emb, lsc])
  links := by decide
  queue := by decide

theorem DriveLaw.put {i : StationId} {x : Station} (hx : Q x) (h : DriveLaw Q E s) : DriveLaw Q E (s.putStation i x) := by
  refine ⟨fun k => ?_, h.2⟩
  rw [State.station_putStation]
  split
  · exact hx
  · exact h.1 k

theorem DriveLaw.told (n : Notice) (h : DriveLaw Q E s) : DriveLaw Q E (s.raiseNotice n) :=
  driveLaw_reads.frame (s.raiseNotice_affects n) rfl h

theorem DriveLaw.cause (c : HoldCause) (h : DriveLaw Q E s) : DriveLaw Q E (s.raiseCause c) :=
  h.of_loop ((s.raiseCause_affects c).1.rlp (by decide)) (s.raiseCause_loopJob c)

theorem DriveLaw.line (x : LineState) (h : DriveLaw Q E s) : DriveLaw Q E (s.setLineState x) :=
  h.of_loop ((s.setLineState_affects x).1.rlp (by decide)) (s.setLineState_loopJob x)

theorem DriveLaw.nip (h : DriveLaw Q E s) : DriveLaw Q E s.evaluateNip :=
  h.of_loop (s.evaluateNip_affects.1.rlp (by decide)) s.evaluateNip_loopJob

/-- A station written whose descriptor, trim, train and samples stay. -/
theorem DriveLaw.same (kept : DriveKept Q E) (i : StationId) {x : Station} (same : SameDrive (s.station i) x)
    (h : DriveLaw Q E s) : DriveLaw Q E (s.putStation i x) := h.put (kept.moved same (h.1 i))

/-- The emboss block written. -/
theorem DriveLaw.emboss {e : Emb} (loop : E (e.loop, s.lsc.job)) (h : DriveLaw Q E s) : DriveLaw Q E { s with emb := e } :=
  ⟨h.1, loop⟩

/-! ### Station trains -/

theorem DriveLaw.commit (kept : DriveKept Q E) {i : StationId} {n : Nat} {c : Int} {rate : Nat}
    (bound : ∀ limit, (s.station i).trimLimit? = some limit → ((s.station i).trim + c).natAbs ≤ limit)
    (h : DriveLaw Q E s) : DriveLaw Q E (s.commitTrain i n c rate) := by
  refine ⟨fun k => ?_, h.2⟩
  rw [State.commitTrain_station]
  split
  · exact kept.committed bound (h.1 i)
  · exact h.1 k

theorem DriveLaw.latch (kept : DriveKept Q E) (i : StationId) (f : CauFlags) (h : DriveLaw Q E s) :
    DriveLaw Q E (s.latchStation i f) := by
  have put := h.same kept i (x := { s.station i with flags := (s.station i).flags.latch f }) ⟨rfl, rfl, rfl, .inl rfl⟩
  unfold State.latchStation
  dsimp only
  split
  · exact put.told _
  · exact put

theorem DriveLaw.startFollower (kept : DriveKept Q E) (c : Int) (f : StationId) (h : DriveLaw Q E s) :
    DriveLaw Q E (s.startFollower c f) := by
  unfold State.startFollower
  split
  next d desc =>
    split
    · dsimp only
      have law := h.latch kept f (cauFinish c (s.station f).trim d.stepLimit d.trimLimit d.ratio).flags
      split
      · exact law
      next n c' train =>
        refine law.commit kept fun limit is => ?_
        rw [State.latchStation_station, if_pos rfl] at is ⊢
        have same : some d.trimLimit = some limit := by
          rw [← is]
          unfold Station.trimLimit?
          dsimp only
          rw [desc]
        cases same
        exact cauFinish_bound train
    · exact h
  · exact h

theorem DriveLaw.startStationTrain (kept : DriveKept Q E) {i : StationId} {n : Nat} {c : Int} {rate : Nat}
    (bound : ∀ limit, (s.station i).trimLimit? = some limit → ((s.station i).trim + c).natAbs ≤ limit)
    (h : DriveLaw Q E s) : DriveLaw Q E (s.startStationTrain i n c rate) := by
  unfold State.startStationTrain
  exact foldl_keeps _ (fun v f hv => hv.startFollower kept c f) _
    ((h.commit kept bound).same kept i ⟨rfl, rfl, rfl, .inl rfl⟩)

theorem DriveLaw.stationCompute (kept : DriveKept Q E) {i : StationId} {d : ResidentDesc} (samples : List Int)
    (desc : (s.station i).desc = .resident d) (h : DriveLaw Q E s) : DriveLaw Q E (s.stationCompute i d samples) := by
  have bound : ∀ {n c}, (cauFull (samples.drop (samples.length - d.tuning.averaging)) (s.station i).trim d.tuning).train =
      some (n, c) → ((s.station i).trim + c).natAbs ≤ d.tuning.trimLimit := cauFull_bound
  unfold State.stationCompute
  extract_lets r src emptied latched
  have bound : ∀ {n c}, r.train = some (n, c) → ((s.station i).trim + c).natAbs ≤ d.tuning.trimLimit := bound
  clear_value r
  have law : DriveLaw Q E latched := DriveLaw.latch kept i r.flags (s := emptied) (h.same kept i ⟨rfl, rfl, rfl, .inr rfl⟩)
  split
  · exact law
  next n c train =>
    have own : latched.station i =
        { s.station i with acc := [], flags := (s.station i).flags.latch r.flags } := by
      dsimp only [latched]
      rw [State.latchStation_station, if_pos rfl, State.station_putStation_self]
    refine law.startStationTrain kept fun limit is => ?_
    rw [own] at is ⊢
    have same : some d.tuning.trimLimit = some limit := by
      rw [← is]
      unfold Station.trimLimit?
      dsimp only
      rw [desc]
    cases same
    exact bound train

/-! ### The station machine -/

theorem DriveLaw.enterLost (kept : DriveKept Q E) (i : StationId) (h : DriveLaw Q E s) : DriveLaw Q E (s.enterLost i) :=
  have emptied : DriveLaw Q E (s.putStation i { s.station i with st := .lost, acc := [], settleEnd := none }) :=
    h.same kept i ⟨rfl, rfl, rfl, .inr rfl⟩
  (emptied.told _).cause _

theorem DriveLaw.offerSample (kept : DriveKept Q E) {i : StationId} {d : ResidentDesc} (e : Int)
    (desc : (s.station i).desc = .resident d) (h : DriveLaw Q E s) : DriveLaw Q E (s.offerSample i d e) := by
  unfold State.offerSample
  dsimp only
  split
  · exact h.same kept i ⟨rfl, rfl, rfl, .inr rfl⟩
  · exact h.same kept i ⟨rfl, rfl, rfl, .inr rfl⟩
  · split
    next more =>
      exact h.put (kept.moved (x := { s.station i with acc := (s.station i).acc ++ [e] }) ⟨rfl, rfl, rfl, .inl rfl⟩
        (kept.gathered e desc more (h.1 i)))
    next full =>
      have counted : DriveLaw Q E (s.putStation i { s.station i with bad := 0 }) :=
        h.same kept i ⟨rfl, rfl, rfl, .inl rfl⟩
      refine counted.stationCompute kept _ ?_
      rw [State.station_putStation_self]
      exact desc
  all_goals exact h.same kept i ⟨rfl, rfl, rfl, .inl rfl⟩

theorem DriveLaw.offerBad (kept : DriveKept Q E) {i : StationId} {d : ResidentDesc} (h : DriveLaw Q E s) :
    DriveLaw Q E (s.offerBad i d) := by
  have counted : ∀ bad, DriveLaw Q E (s.putStation i { s.station i with bad := bad }) := fun bad =>
    h.same kept i ⟨rfl, rfl, rfl, .inl rfl⟩
  unfold State.offerBad
  dsimp only
  split
  case h_4 | h_5 | h_6 => exact counted _
  all_goals
    split
    · exact (counted _).enterLost kept i
    · exact counted _

theorem DriveLaw.offer (kept : DriveKept Q E) (i : StationId) (o : StationOutcome) (h : DriveLaw Q E s) :
    DriveLaw Q E (s.offer i o) := by
  unfold State.offer
  split
  next d desc =>
    split
    · split
      · exact h.offerSample kept _ desc
      · exact h.offerBad kept
      · exact h.offerBad kept
      all_goals exact h
    · exact h
  · exact h

theorem DriveLaw.outcomeTransfer (kept : DriveKept Q E) (index : BitVec 32) (kind : OriginKind)
    (formed : Vector StationOutcome 8) (h : DriveLaw Q E s) : DriveLaw Q E (s.outcomeTransfer index kind formed) := by
  have told : ∀ (v : State) (w : Vector StationOutcome 8), DriveLaw Q E v → DriveLaw Q E ((List.finRange 8).foldl
      (fun (t : State) i =>
        if (t.station i).isResident then t.putStation i { t.station i with lastOutcome := some w[i] } else t) v) :=
    fun v w hv => foldl_keeps _ (fun t i ht => by
      split
      · exact ht.same kept i ⟨rfl, rfl, rfl, .inl rfl⟩
      · exact ht) _ hv
  have written : ∀ f, DriveLaw Q E (s.updateRecord index f) := fun f =>
    driveLaw_reads.frame (s.updateRecord_affects index f) rfl h
  unfold State.outcomeTransfer
  dsimp only
  split
  · exact foldl_keeps _ (fun t i ht => ht.offer kept i _) _ (told _ _ (written _))
  · exact told _ _ (written _)

theorem DriveLaw.correctingEnd (kept : DriveKept Q E) (l : StationId) (h : DriveLaw Q E s) :
    DriveLaw Q E (s.correctingEnd l) := by
  unfold State.correctingEnd
  split
  · split
    · split
      · exact h.enterLost kept l
      · exact h.same kept l ⟨rfl, rfl, rfl, .inl rfl⟩
    · exact h
  · exact h

theorem DriveLaw.trainDone (kept : DriveKept Q E) (c : ChannelId) (h : DriveLaw Q E s) : DriveLaw Q E (s.trainDone c) := by
  unfold State.trainDone
  split
  · exact (h.put (kept.ended (h.1 _))).correctingEnd kept _
  · exact h.emboss (kept.loopMoved (.inl rfl) (kept.loopEnded h.2))

theorem DriveLaw.abort (kept : DriveKept Q E) (i : StationId) (h : DriveLaw Q E s) : DriveLaw Q E (s.abortStation i) := by
  unfold State.abortStation
  dsimp only
  split
  · split
    · exact driveLaw_reads.frame (s.stopTrain_affects _) rfl h
    next note train =>
      exact DriveLaw.put (kept.aborted _ _ train (h.1 i)) (driveLaw_reads.frame (s.stopTrain_affects _) rfl h)
  · exact h

/-! ### The emboss loop -/

theorem DriveLaw.embossCompute (kept : DriveKept Q E) {j : Job} (job : s.lsc.job = some j) (samples : List Int)
    (h : DriveLaw Q E s) : DriveLaw Q E (s.embossCompute j samples) := by
  have bound : ∀ {n c}, (cauFull samples s.emb.trim j.emboss).train = some (n, c) →
      (s.emb.trim + c).natAbs ≤ j.emboss.trimLimit := cauFull_bound
  unfold State.embossCompute
  extract_lets r emb emptied flagged
  have bound : ∀ {n c}, r.train = some (n, c) → (s.emb.trim + c).natAbs ≤ j.emboss.trimLimit := bound
  clear_value r
  have first : DriveLaw Q E emptied := h.emboss (kept.loopMoved (.inr rfl) h.2)
  have same : flagged.loopJob = emptied.loopJob ∧ flagged.rlp = emptied.rlp ∧ flagged.lsc = s.lsc ∧
      flagged.emb.trim = s.emb.trim := by
    dsimp only [flagged, State.latchEmboss]
    split <;> exact ⟨rfl, rfl, rfl, rfl⟩
  obtain ⟨loop, rlp, lsc, trim⟩ := same
  have law : DriveLaw Q E flagged := first.of_loop rlp loop
  have inForce : flagged.lsc.job = some j := by rw [lsc, job]
  clear_value flagged
  split
  · exact law
  next n c train =>
    have started : E ((EmbPhase.inFlight, some { before := flagged.emb.trim, c := c }, flagged.emb.trim + c, flagged.emb.acc),
        flagged.lsc.job) := by
      have held := law.2
      unfold State.loopJob at held
      rw [inForce] at held ⊢
      exact kept.loopMoved (.inl rfl) (kept.loopCommitted (by rw [trim]; exact bound train) held)
    exact driveLaw_reads.frame (affects_stg _ _) rfl (law.emboss started)

theorem DriveLaw.embossOffer (kept : DriveKept Q E) {j : Job} (job : s.lsc.job = some j) (e : Int) (eligible : Bool)
    (h : DriveLaw Q E s) : DriveLaw Q E (s.embossOffer j e eligible) := by
  unfold State.embossOffer
  split
  · exact h
  · exact h.emboss (kept.loopMoved (.inl rfl) h.2)
  · split
    · dsimp only
      split
      next more =>
        refine h.emboss ?_
        have held := h.2
        unfold State.loopJob at held
        rw [job] at held ⊢
        exact kept.loopGathered e (by simpa using more) held
      · exact h.embossCompute kept job _
    · exact h

theorem DriveLaw.indexEdge (kept : DriveKept Q E) {j : Job} (job : s.lsc.job = some j) (x : Count) (h : DriveLaw Q E s) :
    DriveLaw Q E (s.indexEdge j x) := by
  unfold State.indexEdge
  split
  · refine DriveLaw.embossOffer kept ?_ _ _ (DriveLaw.emboss (s := { s with emb := _ }) ?_ (h.emboss ?_))
    · exact job
    · exact h.2
    · exact h.2
  · exact h

theorem DriveLaw.embossMiss (kept : DriveKept Q E) (j : Job) (h : DriveLaw Q E s) : DriveLaw Q E (s.embossMiss j) := by
  unfold State.embossMiss
  dsimp only
  split
  · exact driveLaw_reads.frame (State.raiseNotice_affects _ .embossAlarm) rfl
      (DriveLaw.emboss (s := { s with emb := _ }) (kept.loopMoved (.inr rfl) h.2) (h.emboss h.2))
  · exact h.emboss h.2

/-! ### The job boundaries -/

theorem DriveLaw.abortEmboss (kept : DriveKept Q E) (h : DriveLaw Q E s) : DriveLaw Q E s.abortEmboss := by
  have stopped : DriveLaw Q E (s.stopTrain embossChannel) := driveLaw_reads.frame (s.stopTrain_affects _) rfl h
  unfold State.abortEmboss
  dsimp only
  split
  · split
    · exact stopped.emboss (kept.loopMoved (.inl rfl) stopped.2)
    next note train =>
      refine stopped.emboss ?_
      have held : E ((s.emb.phase, s.emb.train, s.emb.trim, s.emb.acc), s.lsc.job) := h.2
      rw [show s.emb.train = some note from train] at held
      exact kept.loopMoved (.inl rfl) (kept.loopAborted _ _ held)
  · exact h

theorem DriveLaw.returned (kept : DriveKept Q E) (h : DriveLaw Q E s) : DriveLaw Q E s.returnToReady := by
  obtain ⟨-, -, loop⟩ := State.left_rlp s.registerReturn.embossReturn.shadeReturn s.returnToReady
    (by simp only [State.returnToReady])
  have aborted : DriveLaw Q E s.abortStations := foldl_keeps _ (fun v i hv => hv.abort kept i) _ h
  refine ⟨fun i => ?_, ?_⟩
  · rw [s.returnToReady_stations.1]
    exact kept.moved (Station.atReturn_same _) (aborted.1 i)
  · have registered : DriveLaw (fun _ => True) E s.registerReturn :=
      ⟨fun _ => trivial, (State.loopJob_of_affects s.registerReturn_affects).symm ▸ h.2⟩
    have emptied : E s.registerReturn.abortEmboss.loopJob := by
      have weak : DriveKept (fun _ => True) E := { kept with
        moved := fun _ _ => trivial
        gathered := fun _ _ _ _ => trivial
        committed := fun _ _ => trivial
        ended := fun _ => trivial
        aborted := fun _ _ _ _ => trivial
        cleared := fun _ _ => trivial
        tuned := fun _ _ _ _ => trivial
        unset := trivial }
      exact (registered.abortEmboss weak).2
    rw [loop, State.loopJob_of_affects s.registerReturn.embossReturn.shadeReturn_affects]
    unfold State.loopJob
    rw [State.embossReturn_emb, Emb.atReturn_loop, s.registerReturn.embossReturn_affects.1.lsc (by decide)]
    have lsc := s.registerReturn.abortEmboss_affects.1.lsc (by decide)
    unfold State.loopJob at emptied
    rw [lsc] at emptied
    exact kept.loopMoved (.inr rfl) emptied

theorem driveLaw_keptByEvents : KeptByEvents (DriveLaw Q E) where
  entry _ h := h
  roll _ h := h
  assign _ _ _ h := driveLaw_reads.frame (State.assignBatch_affects _ _ _ _) rfl h
  told _ h := h
  labels h := driveLaw_reads.frame (State.labelWork_affects _) rfl h
  winder _ h := h
  records _ h := h
  events _ h := h
  permit h := h
  allocate _ _ _ _ h := driveLaw_reads.frame (State.allocate_affects _ _ _ _) rfl h
  pins _ h := h
  web _ h := h
  arrive {s} j e h := h.of_loop ((s.arrive_affects j e).1.rlp (by decide)) (s.arrive_loopJob j e)
  cause c h := h.cause c

theorem DriveKept.runs (kept : DriveKept Q E) : KeptByRuns (DriveLaw Q E) where
  toKeptByEvents := driveLaw_keptByEvents
  empty h := h
  returned _ h := h.returned kept
  withdraw seq h := driveLaw_reads.frame (State.withdrawLabel_affects _ seq) rfl h
  unattach seq h := driveLaw_reads.frame (State.unattachSent_affects _ seq) rfl h
  release _ h := h

theorem DriveLaw.takeStart (kept : DriveKept Q E) (j : Job) (h : DriveLaw Q E s) : DriveLaw Q E (s.takeStart j) := by
  have frame := (State.leadIn_affects { (s.mapStations Station.atStart).scannerStart with
    wpu := { s.wpu with faultCount := 0 }, emb := s.emb.atStart, shu := s.shu.atStart, bat := s.bat.atStart } j).1
  have emb : (s.startBlocks j).emb = s.emb.atStart := frame.emb (by decide)
  have lsc : (s.startBlocks j).lsc = s.lsc := frame.lsc (by decide)
  have blocks : DriveLaw Q E (s.startBlocks j) := by
    refine ⟨fun i => ?_, ?_⟩
    · have rlp : (s.startBlocks j).rlp = (s.mapStations Station.atStart).rlp := frame.rlp (by decide)
      have station : (s.startBlocks j).station i = (s.station i).atStart :=
        Eq.trans (congrArg (fun r : Rlp => r.stations[i]) rlp) (s.mapStations_station Station.atStart i)
      rw [station]
      unfold Station.atStart
      split
      · exact kept.cleared (x := s.station i) ⟨rfl, rfl, rfl, rfl⟩ (h.1 i)
      · exact h.1 i
    · unfold State.loopJob
      rw [emb, lsc]
      exact kept.loopStarted h.2
  have permitted : DriveLaw Q E { s.startBlocks j with lsc := { (s.startBlocks j).lsc with runPermit := true } } := blocks
  have opening := driveLaw_keptByEvents.openingOccasion j (permitted.line .run)
  have examined : ∀ {v : State} (c : HoldCause), DriveLaw Q E v → DriveLaw Q E (v.examine c) := fun {v} c hv => by
    unfold State.examine
    split
    · exact hv.cause c
    · exact hv
  have first := examined .overspeed (examined .encoder opening)
  have second := examined .printerOffline (examined .headOffline first)
  exact second

theorem DriveLaw.disengage (kept : DriveKept Q E) (i : StationId) (h : DriveLaw Q E s) : DriveLaw Q E (s.disengage i) := by
  unfold State.disengage
  split
  · split
    · exact (foldl_keeps _ (fun v k hv => hv.abort kept k) _ (h.abort kept i)).same kept i ⟨rfl, rfl, rfl, .inr rfl⟩
    · have off : DriveLaw Q E ((s.abortStation i).putStation i { (s.abortStation i).station i with engaged := false }) :=
        (h.abort kept i).same kept i ⟨rfl, rfl, rfl, .inl rfl⟩
      exact off.correctingEnd kept _
  · exact h.same kept i ⟨rfl, rfl, rfl, .inl rfl⟩

theorem DriveLaw.engage (kept : DriveKept Q E) (i : StationId) (h : DriveLaw Q E s) : DriveLaw Q E (s.engage i) := by
  unfold State.engage
  dsimp only
  split
  · exact h.same kept i ⟨rfl, rfl, rfl, .inr rfl⟩
  · exact h.same kept i ⟨rfl, rfl, rfl, .inl rfl⟩

/-- LOAD_JOB empties the station table and the emboss loop (R74, R96, R181). -/
theorem DriveKept.takeJob (kept : DriveKept Q E) {p : List Byte} (passes : jobFails p = none) (s : State) :
    DriveLaw Q E (s.takeJob (jobOf p)) := by
  unfold State.takeJob
  extract_lets lsc msc rlg wnd u
  have loaded : DriveLaw Q E u := by
    refine ⟨fun i => ?_, kept.loopLoaded passes⟩
    have : u.station i = Station.reset := by simp [u, State.station, Rlp.reset]
    rw [this]
    exact kept.unset
  exact DriveLaw.line .ready (driveLaw_reads.frame (u.batchLoad_affects (jobOf p)) rfl loaded)

theorem DriveKept.resetWith (kept : DriveKept Q E) (p : Pins) (q : List Instr) : DriveLaw Q E (State.resetWith p q) := by
  refine ⟨fun i => ?_, kept.loopUnset⟩
  have : (State.resetWith p q).station i = Station.reset := by simp [State.station, State.resetWith, Rlp.reset]
  rw [this]
  exact kept.unset


theorem DriveKept.request (kept : DriveKept Q E) {c : Instr} {l : LinkId} {tag : Byte} {x : Service}
    (is : requestOf c = some (l, tag, x)) (meets : ([.rlp, .emb, .lsc] : List Block).any (blocksOf c).contains = true)
    (set : ∀ p j i, s.lsc.lineState = .ready → firstFailing (stationChecks p j) = none →
      Q ((s.station i).setTo (descriptorOf p)))
    (h : DriveLaw Q E s) : DriveLaw Q E (x.act s).1 := by
  have runs := kept.runs
  cases c <;> cases is <;> try contradiction
  case lineStatus => exact h
  case stationStatus =>
    simp only [stationStatusService]
    split
    · exact h
    · exact h.same kept _ ⟨rfl, rfl, rfl, .inl rfl⟩
  case embossStatus => exact h
  case embossLift =>
    simp only [embossLiftService]
    split
    · exact DriveLaw.nip (h.emboss h.2)
    · exact h
  case embossClose =>
    simp only [embossCloseService]
    split
    · exact DriveLaw.nip (h.emboss h.2)
    · exact h
  case start =>
    simp only [startService]
    split
    · refine answerWithJob_keeps h fun j _ => ?_
      split
      · exact h
      · split
        · exact h
        · rw [done_fst]
          exact h.takeStart kept j
    · exact h
  case hold =>
    simp only [holdService]
    split
    · exact h.cause .host
    · exact h
  case resume =>
    simp only [resumeService]
    split
    · split
      · rw [done_fst]
        exact DriveLaw.line .run (s := { s with lsc := _ }) h
      · exact h
    · exact h
  case endJob => exact runs.endJob (fun _ => h.line .ending) h
  case abortJob => exact runs.abortJob h
  case releaseEntries => exact runs.releaseEntries _ h
  case markEvent =>
    simp only [markEventService]
    split
    · refine answerWithJob_keeps h fun j _ => ?_
      rw [done_fst]
      exact runs.arrive j _ h
    · exact h
  case stationEngage =>
    simp only [stationEngageService, State.onStation]
    split
    · exact h
    · split
      · exact h
      · split
        · rw [done_fst]
          split
          · exact h
          · exact h.engage kept _
        · exact h
  case stationDisengage =>
    simp only [stationDisengageService, State.onStation]
    split
    · exact h
    · split
      · exact h
      · split
        · rw [done_fst]
          split
          · exact h.disengage kept _
          · exact h
        · exact h
  case tuneStation =>
    simp only [tuneStationService]
    split
    · exact h
    · split
      · exact h
      · split
        next desc =>
          split
          · exact h
          next passes =>
            rw [done_fst]
            refine h.put (kept.tuned desc rfl ?_ (h.1 _))
            have averaging := firstFailing_none passes (8, _) (.tail _ (.tail _ (.head _)))
            simp only [within, Bool.and_eq_true, decide_eq_true_eq] at averaging
            exact averaging.2
        next => exact h
  case setStation =>
    simp only [setStationService]
    split
    next ready =>
      refine answerWithJob_keeps h fun j _ => ?_
      split
      · exact h
      next passes =>
        rw [done_fst]
        exact h.put (set _ _ _ ready passes)
    next => exact h
  case loadJob =>
    simp only [loadJobService]
    split
    · split
      · exact h
      next passes =>
        rw [done_fst]
        exact kept.takeJob passes s
    · exact h
  case grantService => exact h
  case revokeService => exact h

theorem DriveKept.operation (kept : DriveKept Q E) {c : Instr} {t : State} (is : isOperation c = true)
    (meets : ([.rlp, .emb, .lsc] : List Block).any (blocksOf c).contains = true) (h : DriveLaw Q E s)
    (ran : exec c s = .next t) : DriveLaw Q E t := by
  have runs := kept.runs
  by_cases moves : ([.rlp] : List Block).any (blocksOf c).contains = true
  · cases c <;> try contradiction
    case pwmPeriodStart g => cases g <;> contradiction
    all_goals refine driveLaw_reads.ends ?_ ran
    case stoppedFlagSet => exact runs.stoppedFlagSet h
    case cutDue => exact runs.cutDue h
    case doff => exact runs.doff h
    case settleEnd =>
      refine ⟨_, rfl, ?_⟩
      split
      · exact h.same kept _ ⟨rfl, rfl, rfl, .inr rfl⟩
      · exact h
    case stepPulse =>
      refine ⟨_, rfl, ?_⟩
      split
      · split
        · exact h
        · exact DriveLaw.trainDone (s := s.putChan _ _) kept _ h
      · exact h
    case captureClose =>
      refine ⟨_, rfl, withJob_keeps h fun j _ => ?_⟩
      split
      · split
        · unfold State.closeCapture
          split
          · exact DriveLaw.outcomeTransfer (s := { s.popClosing with msc := _ }) kept _ _ _ h
          · exact h
        · exact h
      · exact h
    case flywheelClosing =>
      refine ⟨_, rfl, withJob_keeps h fun j _ => ?_⟩
      split
      · split
        · exact DriveLaw.outcomeTransfer (s := s.popClosing) kept _ _ _ h
        · exact h
      · exact h
  · obtain ⟨u, ran', frame⟩ := exec_sameBut c s
    cases ran'.symm.trans ran
    have rlp : t.rlp = s.rlp := frame.rlp fun touched => moves (by simp [touched])
    by_cases loop : movesLoop c = true
    · cases c <;> try contradiction
      all_goals refine driveLaw_reads.ends ?_ ran
      case indexEdge =>
        refine ⟨_, rfl, withJob_keeps h fun j job => ?_⟩
        split
        · exact h.indexEdge kept job _
        · exact h
      case embossWindowExpiry =>
        refine ⟨_, rfl, withJob_keeps h fun j _ => ?_⟩
        split
        · have dropped : DriveLaw Q E { s with emb := { s.emb with windows := s.emb.windows.drop 1 } } := h
          dsimp only
          split
          · exact dropped
          · exact dropped.embossMiss kept j
        · exact h
    · exact h.of_loop rlp (operation_loopJob is (by simpa using loop) ran)

theorem DriveLaw.clock (h : DriveLaw Q E s) : DriveLaw Q E s.clockCycle := h

end

/-! ### The trim limits (O14) -/

/-- A station's trim, and its train's, within its trim limit. -/
def Station.TrimBound (x : Station) : Prop := ∀ limit, x.trimLimit? = some limit → trimWithin limit x.trim x.train

/-- The emboss trim, and its train's, within the limit of the job in force. -/
def embossTrimBound (l : (EmbPhase × Option TrainNote × Int × List Int) × Option Job) : Prop :=
  ∀ j, l.2 = some j → trimWithin j.emboss.trimLimit l.1.2.2.1 l.1.2.1

theorem trimLaw_iff {s : State} : TrimLaw s ↔ DriveLaw Station.TrimBound embossTrimBound s := Iff.rfl

theorem trimWithin.committed {limit : Nat} {trim c : Int} {n : Option TrainNote} (h : trimWithin limit trim n)
    (bound : (trim + c).natAbs ≤ limit) : trimWithin limit (trim + c) (some { before := trim, c := c }) :=
  ⟨bound, fun _ is => by cases is; exact ⟨h.1, bound⟩⟩

theorem trimWithin.ended {limit : Nat} {trim : Int} {n : Option TrainNote} (h : trimWithin limit trim n) :
    trimWithin limit trim none := ⟨h.1, fun _ is => by cases is⟩

theorem trimWithin.aborted {limit : Nat} {trim : Int} {note : TrainNote} (k m : Nat)
    (h : trimWithin limit trim (some note)) : trimWithin limit (prorate note k (k + m)) none := by
  obtain ⟨before, after⟩ := h.2 note rfl
  exact ⟨prorate_bound k m before after, fun _ is => by cases is⟩

theorem trimWithin_zero (limit : Nat) : trimWithin limit 0 none := ⟨Nat.zero_le _, fun _ is => by cases is⟩

theorem Station.trimLimit?_congr {x y : Station} (desc : y.desc = x.desc) : y.trimLimit? = x.trimLimit? := by
  unfold Station.trimLimit?
  rw [desc]

theorem trimBound_kept : DriveKept Station.TrimBound embossTrimBound where
  moved same h limit is := by
    rw [same.trim, same.train]
    exact h limit ((Station.trimLimit?_congr same.desc).symm.trans is)
  gathered _ _ _ h := h
  committed bound h limit is := (h limit is).committed (bound limit is)
  ended h limit is := (h limit is).ended
  aborted k m train h limit is := trimWithin.aborted k m (train ▸ h limit is)
  cleared same _ limit _ := by
    rw [same.trim, same.train]
    exact trimWithin_zero limit
  tuned {x d d'} desc limits _ h limit is := by
    refine h limit ?_
    unfold Station.trimLimit? at is ⊢
    rw [desc]
    simp only at is ⊢
    rw [← limits]
    exact is
  unset _ is := by cases is
  loopMoved _ h := h
  loopGathered _ _ h := h
  loopCommitted bound h j is := by
    cases is
    exact (h _ rfl).committed bound
  loopEnded h j is := (h j is).ended
  loopAborted k m h j is := trimWithin.aborted k m (h j is)
  loopStarted _ j _ := trimWithin_zero _
  loopLoaded _ j _ := trimWithin_zero _
  loopUnset _ _ := trimWithin_zero _

/-- Settles O14: each start is clipped by stage 7, and an abort leaves the trim between two that are within the limit. -/
theorem everyStepKeepsTrimLaw : Obligations.EveryStepKeepsTrimLaw := fun _ _ rest trains law runs =>
  step_keeps_law ((restLaw_reads.and trainLaw_reads).and driveLaw_reads) driveLaw_reads (fun _ h => h.2)
    trimBound_kept.resetWith
    (fun _ _ _ _ s is meets h => trimBound_kept.request is meets (fun p _ i ready _ limit _ => by
      have rested : Rested s := restLaw_iff.mp h.1.1 (by unfold State.running; rw [ready])
      obtain ⟨-, train, trim, -⟩ := (s.station i).setTo_rest (descriptorOf p)
      rw [train, trim, (h.1.2.rested rested).1]
      exact trimWithin_zero limit) h.2)
    (fun _ _ _ is meets h runs => trimBound_kept.operation is meets h.2 runs) (fun _ h => h.2.clock)
    ⟨⟨rest, trains⟩, law⟩ runs

end Sys2Proof.Machine
end

section
/-! PROOFS. The capacities (O9): the event list, the roll log and its numbering, the labels, the drift window and the
captures, each list a law of its own. -/

namespace Sys2Proof.Machine

-- one proof at a time: the joined package would else open a thread for each of them
set_option Elab.async false

/-- START, its blocks, its line state and its examined conditions kept. -/
theorem KeptByEvents.takeStart {P : State → Prop} (kept : KeptByEvents P) {s : State} (j : Job)
    (entered : P (({ s.startBlocks j with lsc := { (s.startBlocks j).lsc with runPermit := true } }).setLineState .run)) :
    P (s.takeStart j) := by
  have examined : ∀ {v : State} (c : HoldCause), P v → P (v.examine c) := fun {v} c hv => by
    unfold State.examine
    split
    · exact kept.cause c hv
    · exact hv
  have first := examined .overspeed (examined .encoder (kept.openingOccasion j entered))
  have second := examined .printerOffline (examined .headOffline first)
  exact second

/-! ### The event list -/

/-- The event list within its capacity (R15). -/
def EventRoom (s : State) : Prop := s.trk.events.length ≤ Config.eventCap

section
variable {s u : State}

theorem eventRoom_reads : ReadsOnly [.trk] EventRoom where
  congr {s u} same h := by
    have trk : u.trk = s.trk := same .trk (by decide)
    unfold EventRoom at h ⊢
    rw [trk]
    exact h
  links := by decide
  queue := by decide

theorem EventRoom.of_length (h : EventRoom s) (length : u.trk.events.length = s.trk.events.length) : EventRoom u := by
  unfold EventRoom at h ⊢
  rw [length]
  exact h

/-- The state's events are as many as before. -/
theorem State.modifyEvent_length (s : State) (n : Nat) (f : WebEvent → WebEvent) :
    (s.modifyEvent n f).trk.events.length = s.trk.events.length := by
  simp [State.modifyEvent]

theorem State.coverBegin_length (s : State) (j : Job) (n : Nat) :
    (s.coverBegin j n).trk.events.length = s.trk.events.length := by
  unfold State.coverBegin
  split
  · rfl
  · rw [(State.evaluateNip_affects _).1.trk (by decide)]
    exact s.modifyEvent_length n _

theorem State.liftCheck_length (s : State) (j : Job) (n : Nat) :
    (s.liftCheck j n).trk.events.length = s.trk.events.length := by
  unfold State.liftCheck
  split
  · rfl
  · split
    · dsimp only
      split <;> exact s.modifyEvent_length n _
    · exact s.modifyEvent_length n _

theorem State.coverAtInsertion_length (s : State) (j : Job) (n : Nat) :
    (s.coverAtInsertion j n).trk.events.length = s.trk.events.length := by
  have checked : ∀ u : State, (if ((u.trk.events[n]?).any fun e => u.liftCheckDue j e) = true then u.liftCheck j n
      else u).trk.events.length = u.trk.events.length := fun u => by
    split
    · exact u.liftCheck_length j n
    · rfl
  unfold State.coverAtInsertion
  refine (checked _).trans ?_
  split
  · exact s.coverBegin_length j n
  · rfl

theorem length_insertSorted (e : WebEvent) (es : List WebEvent) : (insertSorted e es).length = es.length + 1 := by
  induction es with
  | nil => rfl
  | cons x xs ih =>
    unfold insertSorted
    split
    · rfl
    · rw [List.length_cons, ih, List.length_cons]

theorem eventRoom_keptByCuts : KeptByCuts EventRoom where
  entry _ h := h
  roll _ h := h
  assign _ _ _ h := eventRoom_reads.frame (State.assignBatch_affects _ _ _ _) rfl h
  told _ h := h
  labels h := eventRoom_reads.frame (State.labelWork_affects _) rfl h
  winder _ h := h
  records _ h := h
  events length h := h.of_length length
  permit h := h
  allocate _ _ _ _ h := eventRoom_reads.frame (State.allocate_affects _ _ _ _) rfl h

theorem EventRoom.arrive (j : Job) (e : WebEvent) (h : EventRoom s) : EventRoom (s.arrive j e) := by
  unfold State.arrive
  split
  · unfold State.fullArrival
    dsimp only
    split
    · exact h
    · have lost : EventRoom { s with trk := { s.trk with eventLost := true } } := h
      have flagged := eventRoom_reads.frame (bs := [.rlg])
        (State.updateOpenEntry_affects _ fun e => { e with flags := { e.flags with eventLost := true } }) rfl lost
      exact eventRoom_reads.frame (State.raiseNotice_affects _ .eventListFull) rfl
        (eventRoom_reads.frame (State.raiseCause_affects _ .eventLost) rfl
          (eventRoom_reads.frame (State.evaluateNip_affects _) rfl flagged))
  next room =>
    refine eventRoom_keptByCuts.judgeSplices j ?_
    have entered : EventRoom { s with trk := { s.trk with events := insertSorted e s.trk.events } } := by
      unfold State.eventsFull at room
      simp only [decide_eq_true_eq] at room
      show (insertSorted e s.trk.events).length ≤ Config.eventCap
      rw [length_insertSorted]
      omega
    exact entered.of_length (State.coverAtInsertion_length _ j _)

theorem eventRoom_keptByRuns : KeptByRuns EventRoom where
  toKeptByCuts := eventRoom_keptByCuts
  pins _ h := h
  web _ h := h
  arrive j e h := h.arrive j e
  cause c h := eventRoom_reads.frame (State.raiseCause_affects _ c) rfl h
  empty _ := Nat.zero_le _
  returned {s} _ h := by
    obtain ⟨-, -, -, -, -, -, -, -, -, events, -⟩ := s.returnToReady_spec
    exact h.of_length (by rw [events])
  withdraw seq h := eventRoom_reads.frame (State.withdrawLabel_affects _ seq) rfl h
  unattach seq h := eventRoom_reads.frame (State.unattachSent_affects _ seq) rfl h
  release _ h := h

theorem eventRoom_keptByLine : KeptByLine EventRoom where
  toKeptByEvents := eventRoom_keptByRuns.toKeptByEvents
  reads := {
    congr := fun {s u} same h => eventRoom_reads.congr (fun b hb => same b (by simp at hb; simp [hb])) h
    links := by decide
    queue := by decide }
  emboss _ _ _ _ _ _ h := h

theorem EventRoom.attribute (n : Nat) (h : EventRoom s) : EventRoom (s.attribute n) := by
  unfold State.attribute
  split
  · exact h
  · exact eventRoom_keptByCuts.modifyEvent n _ (eventRoom_reads.frame (bs := [.rlg]) (State.updateContaining_affects _ _ _) rfl h)

theorem EventRoom.removeEvent (n : Nat) (h : EventRoom s) : EventRoom (s.removeEvent n) := by
  have counted : EventRoom (if (s.trk.events[n]?.any fun e => !e.attributed) = true then s.attribute n else s) := by
    split
    · exact h.attribute n
    · exact h
  unfold State.removeEvent
  extract_lets u trk v
  have removed : EventRoom v := by
    refine Nat.le_trans ?_ counted
    show (u.trk.events.eraseIdx n).length ≤ u.trk.events.length
    exact List.length_eraseIdx_le _ _
  split
  · unfold State.endEventLost
    split
    · exact eventRoom_reads.frame (State.evaluateNip_affects _) rfl removed
    · exact removed
  · exact removed

theorem EventRoom.readDone (j : Job) (raw : Shade) (h : EventRoom s) : EventRoom (s.readDone j raw) := by
  unfold State.readDone
  dsimp only
  split
  · split
    · unfold State.takeSmeared
      split <;> exact h
    · unfold State.takeReading
      dsimp only
      split
      · refine eventRoom_reads.frame (State.offerReading_affects _ _ _) rfl ?_
        exact h
      · exact h
  · exact h

theorem EventRoom.takeStart (j : Job) (h : EventRoom s) : EventRoom (s.takeStart j) := by
  refine eventRoom_keptByRuns.takeStart j ?_
  have blocks : EventRoom (s.startBlocks j) := by
    unfold State.startBlocks
    exact eventRoom_reads.frame (State.leadIn_affects _ j) rfl h
  exact eventRoom_reads.frame (State.setLineState_affects _ .run) rfl blocks

theorem request_eventRoom {c : Instr} {l : LinkId} {tag : Byte} {x : Service} (is : requestOf c = some (l, tag, x))
    (meets : ([.trk] : List Block).any (blocksOf c).contains = true) (h : EventRoom s) : EventRoom (x.act s).1 := by
  have runs := eventRoom_keptByRuns
  cases c <;> cases is <;> try contradiction
  case start =>
    simp only [startService]
    split
    · refine answerWithJob_keeps h fun j _ => ?_
      split
      · exact h
      · split
        · exact h
        · rw [done_fst]
          exact h.takeStart j
    · exact h
  case endJob => exact runs.endJob (fun _ => eventRoom_reads.frame (State.setLineState_affects _ _) rfl h) h
  case abortJob => exact runs.abortJob h
  case releaseEntries => exact runs.releaseEntries _ h
  case markEvent => exact eventRoom_keptByLine.markEvent h

theorem operation_eventRoom {c : Instr} {t : State} (is : isOperation c = true)
    (meets : ([.trk] : List Block).any (blocksOf c).contains = true) (h : EventRoom s) (ran : exec c s = .next t) :
    EventRoom t := by
  have runs := eventRoom_keptByRuns
  have kept := eventRoom_keptByLine
  cases c <;> try contradiction
  case pwmPeriodStart g => cases g <;> contradiction
  all_goals refine eventRoom_reads.ends ?_ ran
  case encoderTransition => exact runs.encoderTransition h
  case stoppedFlagSet => exact runs.stoppedFlagSet h
  case markEdge => exact kept.markEdge h
  case referenceWindowExpiry => exact kept.referenceWindowExpiry h
  case reacquisitionWindowExpiry =>
    refine ⟨_, rfl, withJob_keeps h fun j _ => ?_⟩
    split
    · exact kept.reacquisitionExpiry j h
    · exact h
  case captureClose => exact kept.captureClose h
  case flywheelClosing =>
    refine ⟨_, rfl, withJob_keeps h fun j _ => ?_⟩
    split
    · split
      · exact KeptByLine.outcomeTransfer (s := s.popClosing) kept _ _ _ h
      · exact h
    · exact h
  case splicePulse => exact kept.splicePulse h
  case operatorButton => exact kept.operatorButton h
  case defectLineRise => exact kept.defectLineRise h
  case defectLineFall =>
    have fallen : EventRoom { s with pins := { s.pins with defectLine := false } } := h
    exact ⟨_, rfl, withJob_keeps fallen fun j _ => kept.closeDefect j _ fallen⟩
  case defectLengthLimit => exact kept.defectLengthLimit h
  case eventAttribution =>
    refine ⟨_, rfl, withJob_keeps h fun j _ => ?_⟩
    split
    · exact h.attribute _
    · exact h
  case eventRemoval =>
    refine ⟨_, rfl, withJob_keeps h fun j _ => ?_⟩
    split
    · exact h.removeEvent _
    · exact h
  case recordFold => exact kept.recordFold h
  case liftCoverageBegin =>
    refine ⟨_, rfl, withJob_keeps h fun j _ => ?_⟩
    split
    · exact h.of_length (s.coverBegin_length j _)
    · exact h
  case liftCheck =>
    refine ⟨_, rfl, withJob_keeps h fun j _ => ?_⟩
    split
    · exact h.of_length (s.liftCheck_length j _)
    · exact h
  case embossStatusWrite =>
    refine ⟨_, rfl, withJob_keeps h fun j _ => ?_⟩
    split
    · exact kept.updateRecord _ _ h
    · exact h
  case shadeStartPoint =>
    refine ⟨_, rfl, withJob_keeps h fun j _ => ?_⟩
    split
    · unfold State.startPoint
      dsimp only
      split <;> exact h
    · exact h
  case readComplete =>
    refine ⟨_, rfl, ?_⟩
    split
    · exact withJob_keeps h fun j _ => h.readDone j _
    · exact h
  case headTimeout => exact kept.headTimeout h
  case cutDue => exact runs.cutDue h
  case doff => exact runs.doff h

theorem eventRoom_step {t : State} (h : EventRoom s) (ran : step s = .next t) : EventRoom t :=
  step_keeps_law eventRoom_reads eventRoom_reads (fun _ h => h) (fun _ _ => Nat.zero_le _)
    (fun _ _ _ _ _ is meets h => request_eventRoom is meets h) (fun _ _ _ is meets h ran => operation_eventRoom is meets h ran)
    (fun _ h => h) h ran

end

end Sys2Proof.Machine
end

section
/-! PROOFS. The roll log, its numbering, and the lists of labels within their capacities (O9). -/

namespace Sys2Proof.Machine

-- one proof at a time: the joined package would else open a thread for each of them
set_option Elab.async false

/-- The numbers of a log of n entries before the counter x (R135, R145). -/
def numbersBefore (x : BitVec 32) (n : Nat) : List (BitVec 32) := (List.range n).map fun i => x - BitVec.ofNat 32 (n - i)

theorem numbersBefore_succ (x : BitVec 32) (n : Nat) : numbersBefore (x + 1) (n + 1) = numbersBefore x n ++ [x] := by
  unfold numbersBefore
  rw [List.range_succ, List.map_append]
  congr 1
  · refine List.map_congr_left fun i member => ?_
    have less := List.mem_range.mp member
    rw [show n + 1 - i = (n - i) + 1 by omega, BitVec.ofNat_add]
    bv_omega
  · rw [List.map_singleton, Nat.add_sub_cancel_left]
    exact congrArg (fun y => [y]) (BitVec.add_sub_cancel x 1)

theorem numbersBefore_drop (x : BitVec 32) (n k : Nat) : (numbersBefore x n).drop k = numbersBefore x (n - k) := by
  refine List.ext_getElem ?_ fun i before after => ?_
  · simp [numbersBefore]
  · simp only [numbersBefore, List.getElem_drop, List.getElem_map, List.getElem_range]
    congr 2
    omega

/-- The lead-in opens where the log has room (R118). -/
theorem KeptByCuts.leadIn {P : State → Prop} (kept : KeptByCuts P) {s : State} (j : Job)
    (room : s.rlg.log.length < Config.logCap) (h : P s) : P (s.leadIn j) := by
  unfold State.leadIn
  extract_lets start wnd u
  have cleared : P u := kept.winder u.wnd h
  have opened : P (u.openSegment start none .leadIn) := kept.openSegment start none .leadIn room cleared
  exact kept.winder _ (kept.winder _ opened)

/-- The log and the label lists within their capacities, the log numbered in order up to its counter. -/
structure DocketRoom (s : State) : Prop where
  log : s.logSeqs.length ≤ Config.logCap
  numbers : s.logSeqs = numbersBefore s.rlg.nextSeq s.logSeqs.length
  queue : s.lbc.queue.length ≤ Config.labelCap
  sent : ∀ p, (s.printer p).sent.length ≤ Config.sentCap

section
variable {s u : State}

theorem DocketRoom.congr (h : DocketRoom s) (seqs : u.logSeqs = s.logSeqs) (next : u.rlg.nextSeq = s.rlg.nextSeq)
    (queue : u.lbc.queue.length ≤ Config.labelCap) (sent : ∀ p, (u.printer p).sent.length ≤ Config.sentCap) :
    DocketRoom u := by
  refine ⟨by rw [seqs]; exact h.log, ?_, queue, sent⟩
  rw [seqs, next]
  exact h.numbers

theorem docketRoom_reads : ReadsOnly [.rlg, .lbc] DocketRoom where
  congr {s u} same h := by
    have rlg : u.rlg = s.rlg := same .rlg (by decide)
    have lbc : u.lbc = s.lbc := same .lbc (by decide)
    refine h.congr (State.logSeqs_congr rlg) (by rw [rlg]) (by rw [lbc]; exact h.queue) fun p => ?_
    have : u.printer p = s.printer p := by
      unfold State.printer
      rw [lbc]
    rw [this]
    exact h.sent p
  links := by decide
  queue := by decide

theorem DocketRoom.entry {seq : BitVec 32} {f : Entry → Entry} (keeps : ∀ e, e.seq = seq → (f e).seq = seq)
    (h : DocketRoom s) : DocketRoom (s.updateEntry seq f) :=
  h.congr (State.logSeqs_updateEntry s keeps) rfl h.queue h.sent

/-- The label channel written, its printers kept and its queue within the capacity. -/
theorem DocketRoom.labels {b : Lbc} (h : DocketRoom s) (queue : b.queue.length ≤ Config.labelCap)
    (a : b.printerA = s.lbc.printerA) (b' : b.printerB = s.lbc.printerB) : DocketRoom { s with lbc := b } := by
  refine h.congr rfl rfl queue fun p => ?_
  have : State.printer { s with lbc := b } p = s.printer p := by cases p <;> assumption
  rw [this]
  exact h.sent p

theorem DocketRoom.put (p : Printer) {x : PrinterState} (sent : x.sent.length ≤ Config.sentCap) (h : DocketRoom s) :
    DocketRoom (s.putPrinter p x) := by
  refine h.congr ?_ ?_ ?_ fun k => ?_
  · cases p <;> rfl
  · cases p <;> rfl
  · cases p <;> exact h.queue
  · rw [State.printer_putPrinter]
    split
    · exact sent
    · exact h.sent k

/-! ### The label channel -/

theorem DocketRoom.enqueue (j : Job) (e : Entry) (p : Printer) (room : s.labelRoom = true) (h : DocketRoom s) :
    DocketRoom (s.enqueueLabel j e p) := by
  unfold State.labelRoom at room
  simp only [decide_eq_true_eq] at room
  refine DocketRoom.entry (s := { s with lbc := { s.lbc with queue := _ } }) (fun _ is => is) (h.labels ?_ rfl rfl)
  rw [List.length_append, List.length_singleton]
  omega

theorem DocketRoom.chooseTransfer (h : DocketRoom s) : DocketRoom s.chooseTransfer := by
  unfold State.chooseTransfer
  split
  · exact h
  · split
    · exact h
    · refine h.labels ?_ rfl rfl
      rw [List.length_map]
      exact h.queue

theorem DocketRoom.refresh (p : Printer) (h : DocketRoom s) : DocketRoom (s.refreshTimer p) := h.put p (h.sent p)

theorem DocketRoom.work (h : DocketRoom s) : DocketRoom s.labelWork := by
  have filled : DocketRoom (s.withJob s.fillQueue) := withJob_keeps h fun j _ => foldl_keeps _ (fun u e hu => by
    split
    · split
      next fits =>
        simp only [Bool.and_eq_true] at fits
        exact hu.enqueue j e _ fits.2
      · exact hu
    · exact hu) _ h
  exact (filled.chooseTransfer.refresh .a).refresh .b

theorem DocketRoom.remove (seq : BitVec 32) (h : DocketRoom s) : DocketRoom (s.removeLabel seq) :=
  h.labels (Nat.le_trans (List.length_filter_le _ _) h.queue) rfl rfl

theorem length_appendSent {sent : List (Option (BitVec 32))} (place : Option (BitVec 32))
    (room : sent.length ≤ Config.sentCap) : (appendSent sent place).length ≤ Config.sentCap := by
  unfold appendSent
  split
  · rw [List.length_append, List.length_singleton]
    omega
  next full =>
    have positive : 0 < sent.length := by
      simp only [Config.sentCap] at full
      omega
    split
    next held =>
      rw [List.length_append, List.length_singleton, List.length_erase_of_mem (by simpa using held)]
      omega
    · rw [List.length_append, List.length_singleton, List.length_drop]
      omega

theorem DocketRoom.addSent (p : Printer) (place : Option (BitVec 32)) (h : DocketRoom s) : DocketRoom (s.addSent p place) :=
  h.put p (length_appendSent place (h.sent p))

theorem DocketRoom.accepted (x : Label) (withdrawn : Bool) (h : DocketRoom s) : DocketRoom (s.labelAccepted x withdrawn) := by
  unfold State.labelAccepted
  split
  · exact h.addSent _ _
  · have settled := ((h.remove x.seq).entry (seq := x.seq) (f := fun e => { e with label := .sent })
      (fun _ is => is)).addSent x.printer (some x.seq)
    have reset := settled.put x.printer (x := { State.printer _ x.printer with rejects := 0 }) (settled.sent _)
    exact reset.labels reset.queue rfl rfl

theorem DocketRoom.dropped (x : Label) (h : DocketRoom s) : DocketRoom (s.dropLabel x) := by
  have settled := (h.remove x.seq).entry (seq := x.seq) (f := fun e => { e with label := .missing }) (fun _ is => is)
  have reset := settled.put x.printer (x := { State.printer _ x.printer with rejects := 0, lastFault := some .dropped })
    (settled.sent _)
  exact docketRoom_reads.frame (State.raiseNotice_affects _ (.labelFault x.printer)) rfl (reset.labels reset.queue rfl rfl)

theorem DocketRoom.rejected (x : Label) (withdrawn : Bool) (h : DocketRoom s) : DocketRoom (s.labelRejected x withdrawn) := by
  unfold State.labelRejected
  split
  · exact h
  · have counted : DocketRoom { s with lbc := { s.lbc with rejections := satInc s.lbc.rejections } } :=
      h.labels h.queue rfl rfl
    dsimp only
    split
    · exact counted.put _ (counted.sent _)
    · exact counted.dropped x

theorem DocketRoom.cause (c : HoldCause) (h : DocketRoom s) : DocketRoom (s.raiseCause c) :=
  docketRoom_reads.frame (s.raiseCause_affects c) rfl h

theorem DocketRoom.offline (p : Printer) (why : PrinterFault) (h : DocketRoom s) : DocketRoom (s.printerOffline p why) := by
  have off := h.put p (x := { s.printer p with online := false, lastFault := some why }) (h.sent p)
  exact (docketRoom_reads.frame (State.raiseNotice_affects _ (.labelFault p)) rfl off).cause _

theorem DocketRoom.transferEnded (t : Transfer) (b : Byte) (h : DocketRoom s) : DocketRoom (s.transferEnded t b) := by
  have freed : DocketRoom { s with lbc := { s.lbc with channel := none } } := h.labels h.queue rfl rfl
  unfold State.transferEnded
  refine DocketRoom.work ?_
  dsimp only
  split
  · exact freed.accepted _ _
  · exact freed.rejected _ _
  · exact DocketRoom.offline _ _ (freed.labels freed.queue rfl rfl)

theorem DocketRoom.timedOut (p : Printer) (h : DocketRoom s) : DocketRoom (s.printerTimedOut p) := by
  have counted : DocketRoom { s with lbc := { s.lbc with timeouts := satInc s.lbc.timeouts } } := h.labels h.queue rfl rfl
  exact (counted.offline p .timeout).work

theorem DocketRoom.resetPrinter (p : Printer) (h : DocketRoom s) : DocketRoom (s.resetPrinter p) :=
  (h.put p (Nat.le_trans (List.length_filter_le _ _) (h.sent p))).work

theorem DocketRoom.applied (p : Printer) (h : DocketRoom s) : DocketRoom (s.labelApplied p) := by
  have room := h.sent p
  unfold State.labelApplied
  split
  · exact h
  next place rest is =>
    rw [is, List.length_cons] at room
    have left : DocketRoom (s.putPrinter p { s.printer p with sent := rest }) := h.put p (by show rest.length ≤ _; omega)
    dsimp only
    split
    · exact left.entry fun _ is => is
    · exact left.labels left.queue rfl rfl

theorem DocketRoom.withdraw (seq : BitVec 32) (h : DocketRoom s) : DocketRoom (s.withdrawLabel seq) := by
  have removed : ∀ {u : State}, DocketRoom u → DocketRoom { u.removeLabel seq with
      lbc := { (u.removeLabel seq).lbc with channel := (u.removeLabel seq).lbc.channel.map fun t =>
        if t.label.seq = seq then { t with withdrawn := true } else t } } := fun hu =>
    (hu.remove seq).labels (hu.remove seq).queue rfl rfl
  unfold State.withdrawLabel
  split
  · exact h
  · dsimp only
    split
    · exact removed (h.put _ (h.sent _))
    · exact removed h

theorem DocketRoom.unattach (seq : BitVec 32) (h : DocketRoom s) : DocketRoom (s.unattachSent seq) := by
  have first := h.put .a (x := { s.printer .a with sent := Machine.unattach seq (s.printer .a).sent })
    (by simp only [Machine.unattach, List.length_map]; exact h.sent .a)
  exact first.put .b (by simp only [Machine.unattach, List.length_map]; exact first.sent .b)

/-! ### The log -/

theorem DocketRoom.allocate (start : Count) (r : Role) (k : Option Spindle) (room : s.rlg.log.length < Config.logCap)
    (h : DocketRoom s) : DocketRoom (s.allocate start r k) := by
  have grown : DocketRoom { s with rlg := { s.rlg with
      log := s.rlg.log ++ [Entry.fresh s.rlg.nextSeq start r k s.trk.eventLost], nextSeq := s.rlg.nextSeq + 1 } } := by
    have seqs : State.logSeqs { s with rlg := { s.rlg with
        log := s.rlg.log ++ [Entry.fresh s.rlg.nextSeq start r k s.trk.eventLost], nextSeq := s.rlg.nextSeq + 1 } } =
        s.logSeqs ++ [s.rlg.nextSeq] := List.map_append ..
    refine ⟨?_, ?_, h.queue, h.sent⟩
    · rw [seqs, List.length_append, List.length_singleton, State.logSeqs_length]
      omega
    · rw [seqs, List.length_append, List.length_singleton, numbersBefore_succ]
      congr 1
      exact h.numbers
  unfold State.allocate
  dsimp only
  split
  · exact docketRoom_reads.frame (State.raiseNotice_affects _ .logSpace) rfl grown
  · exact grown

theorem DocketRoom.release (n : BitVec 32) (h : DocketRoom s) : DocketRoom { s with rlg := s.rlg.release n } := by
  have seqs : State.logSeqs { s with rlg := s.rlg.release n } = s.logSeqs.drop (releaseRun s.rlg.log n).length :=
    List.map_drop ..
  refine ⟨?_, ?_, h.queue, h.sent⟩
  · rw [seqs, List.length_drop]
    exact Nat.le_trans (Nat.sub_le _ _) h.log
  · rw [seqs, List.length_drop]
    refine Eq.trans ?_ (numbersBefore_drop _ _ _)
    exact congrArg _ h.numbers

theorem DocketRoom.openEntry {f : Entry → Entry} (keeps : ∀ e, (f e).seq = e.seq) (h : DocketRoom s) :
    DocketRoom (s.updateOpenEntry f) := by
  unfold State.updateOpenEntry
  split
  · exact h
  · exact h.entry fun e is => (keeps e).trans is

theorem docketRoom_keptByCuts : KeptByCuts DocketRoom where
  entry keeps h := h.entry keeps
  roll _ h := h.congr rfl rfl h.queue h.sent
  assign _ _ _ h := docketRoom_reads.frame (State.assignBatch_affects _ _ _ _) rfl h
  told n h := docketRoom_reads.frame (State.raiseNotice_affects _ n) rfl h
  labels h := h.work
  winder w h := docketRoom_reads.frame (affects_wnd _ w) rfl h
  records _ h := docketRoom_reads.frame (affects_trk _ _) rfl h
  events _ h := docketRoom_reads.frame (affects_trk _ _) rfl h
  permit h := docketRoom_reads.frame (affects_lsc _ _) rfl h
  allocate start r k room h := h.allocate start r k room

theorem DocketRoom.arrive (j : Job) (e : WebEvent) (h : DocketRoom s) : DocketRoom (s.arrive j e) := by
  unfold State.arrive
  split
  · unfold State.fullArrival
    refine docketRoom_reads.frame (State.raiseNotice_affects _ .eventListFull) rfl ?_
    split
    · exact h
    · have lost : DocketRoom { s with trk := { s.trk with eventLost := true } } :=
        docketRoom_reads.frame (affects_trk _ _) rfl h
      have flagged := lost.openEntry (f := fun e => { e with flags := { e.flags with eventLost := true } }) fun _ => rfl
      exact (docketRoom_reads.frame (State.evaluateNip_affects _) rfl flagged).cause _
  · refine docketRoom_keptByCuts.judgeSplices j ?_
    exact docketRoom_reads.frame (State.coverAtInsertion_affects _ j _) rfl
      (docketRoom_reads.frame (affects_trk s { s.trk with events := insertSorted e s.trk.events }) rfl h)

theorem docketRoom_keptByRuns : KeptByRuns DocketRoom where
  toKeptByCuts := docketRoom_keptByCuts
  pins p h := docketRoom_reads.congr (fun b hb => by cases b <;> simp at hb <;> rfl) h
  web _ h := docketRoom_reads.congr (fun b hb => by cases b <;> simp at hb <;> rfl) h
  arrive j e h := h.arrive j e
  cause c h := h.cause c
  empty h := docketRoom_reads.frame (affects_trk _ _) rfl h
  returned _ h := docketRoom_reads.frame (State.returnToReady_affects _) rfl h
  withdraw seq h := h.withdraw seq
  unattach seq h := h.unattach seq
  release n h := h.release n

/-! ### The commands -/

theorem DocketRoom.containing (d : Count) {f : Entry → Entry} (keeps : ∀ e, (f e).seq = e.seq) (h : DocketRoom s) :
    DocketRoom (s.updateContaining d f) := by
  unfold State.updateContaining
  split
  · exact h
  · exact h.entry fun e is => (keeps e).trans is

theorem Entry.count_seq (e : Entry) (k : EventKind) : (e.count k).seq = e.seq := by cases k <;> rfl

theorem DocketRoom.attribute (n : Nat) (h : DocketRoom s) : DocketRoom (s.attribute n) := by
  unfold State.attribute
  split
  · exact h
  · exact docketRoom_keptByCuts.modifyEvent n _ (h.containing _ fun e => e.count_seq _)

theorem DocketRoom.removeEvent (n : Nat) (h : DocketRoom s) : DocketRoom (s.removeEvent n) := by
  unfold State.removeEvent
  extract_lets u trk v
  have counted : DocketRoom u := by
    dsimp only [u]
    split
    · exact h.attribute n
    · exact h
  have removed : DocketRoom v := docketRoom_reads.frame (bs := [.trk]) (affects_trk u v.trk) rfl counted
  split
  · unfold State.endEventLost
    split
    · have ended : DocketRoom { v with trk := { v.trk with eventLost := false } } :=
        docketRoom_reads.frame (affects_trk v { v.trk with eventLost := false }) rfl removed
      exact docketRoom_reads.frame (State.evaluateNip_affects _) rfl ended
    · exact removed
  · exact removed

theorem DocketRoom.readDone (j : Job) (raw : Shade) (h : DocketRoom s) : DocketRoom (s.readDone j raw) := by
  have shade : ∀ (v : State) x, DocketRoom v → DocketRoom { v with shu := x } := fun v x hv =>
    docketRoom_reads.frame (affects_shu v x) rfl hv
  have verdict : ∀ (v : State) c, DocketRoom v → DocketRoom (v.takeVerdict c) := fun v c hv => by
    unfold State.takeVerdict
    dsimp only
    split
    · exact DocketRoom.openEntry (fun _ => rfl) (docketRoom_reads.frame (State.raiseNotice_affects _ _) rfl (shade _ _ hv))
    · exact docketRoom_reads.frame (State.raiseNotice_affects _ _) rfl (shade _ _ hv)
    · exact shade _ _ hv
  have offered : ∀ (v : State) x, DocketRoom v → DocketRoom (v.offerReading j x) := fun v x hv => by
    unfold State.offerReading
    extract_lets window shu w
    have slid : DocketRoom w := shade _ _ hv
    split
    · exact slid
    · split
      · exact verdict _ _ slid
      · exact slid
  unfold State.readDone
  dsimp only
  split
  · split
    · exact docketRoom_reads.frame (State.takeSmeared_affects _ _) rfl (shade _ _ (shade _ _ h))
    · unfold State.takeReading
      dsimp only
      split
      · refine offered _ _ (shade _ _ ?_)
        exact docketRoom_keptByCuts.updateRecord _ _ (shade _ _ (shade _ _ (shade _ _ h)))
      · exact shade _ _ (shade _ _ (shade _ _ h))
  · exact shade _ _ h

theorem DocketRoom.line (x : LineState) (h : DocketRoom s) : DocketRoom (s.setLineState x) :=
  docketRoom_reads.frame (s.setLineState_affects x) rfl h

/-- START allocates the lead-in's entry, where the log has room (R118). -/
theorem DocketRoom.takeStart (j : Job) (room : s.rlg.log.length < Config.logCap) (h : DocketRoom s) :
    DocketRoom (s.takeStart j) := by
  refine docketRoom_keptByRuns.takeStart j (DocketRoom.line .run (docketRoom_reads.frame (affects_lsc _ _) rfl ?_))
  have before : ∀ (v : State), v.rlg = s.rlg → v.lbc = s.lbc → DocketRoom v := fun v rlg lbc =>
    docketRoom_reads.congr (fun b hb => by cases b <;> simp at hb <;> assumption) h
  unfold State.startBlocks
  refine docketRoom_keptByCuts.leadIn j ?_ (before _ rfl rfl)
  exact room

theorem request_docketRoom {c : Instr} {l : LinkId} {tag : Byte} {x : Service} (is : requestOf c = some (l, tag, x))
    (meets : ([.rlg, .lbc] : List Block).any (blocksOf c).contains = true) (h : DocketRoom s) : DocketRoom (x.act s).1 := by
  have runs := docketRoom_keptByRuns
  cases c <;> cases is <;> try contradiction
  case start =>
    simp only [startService]
    split
    · refine answerWithJob_keeps h fun j _ => ?_
      split
      · exact h
      · split
        · exact h
        next room =>
          rw [done_fst]
          exact h.takeStart j (Nat.lt_of_not_le room)
    · exact h
  case endJob => exact runs.endJob (fun _ => h.line .ending) h
  case abortJob => exact runs.abortJob h
  case releaseEntries => exact runs.releaseEntries _ h
  case markEvent =>
    simp only [markEventService]
    split
    · refine answerWithJob_keeps h fun j _ => ?_
      rw [done_fst]
      exact h.arrive j _
    · exact h
  case reprint =>
    simp only [reprintService]
    split
    · exact h
    · split
      · exact h
      · split
        next room =>
          refine answerWithJob_keeps h fun j _ => ?_
          rw [done_fst]
          exact (h.enqueue j _ _ room).work
        next => exact h
  case printerReset =>
    simp only [printerResetService]
    split
    · exact h
    · rw [done_fst]
      exact h.resetPrinter _
  case loadJob =>
    simp only [loadJobService]
    split
    · split
      · exact h
      · rw [done_fst]
        unfold State.takeJob
        extract_lets lsc msc rlg wnd u
        have numbered : DocketRoom u := h.congr rfl rfl h.queue h.sent
        exact DocketRoom.line .ready (docketRoom_reads.frame (u.batchLoad_affects _) rfl numbered)
    · exact h

theorem operation_docketRoom {c : Instr} {t : State} (is : isOperation c = true)
    (meets : ([.rlg, .lbc] : List Block).any (blocksOf c).contains = true) (h : DocketRoom s) (ran : exec c s = .next t) :
    DocketRoom t := by
  have runs := docketRoom_keptByRuns
  cases c <;> try contradiction
  case pwmPeriodStart g => cases g <;> contradiction
  all_goals refine docketRoom_reads.ends ?_ ran
  case encoderTransition => exact runs.encoderTransition h
  case stoppedFlagSet => exact runs.stoppedFlagSet h
  case splicePulse =>
    refine ⟨_, rfl, ?_⟩
    split
    · exact withJob_keeps h fun j _ => h.arrive j _
    · exact h
  case operatorButton =>
    refine ⟨_, rfl, ?_⟩
    split
    · exact withJob_keeps h fun j _ => h.arrive j _
    · exact h
  case defectLineRise =>
    have risen : DocketRoom { s with pins := { s.pins with defectLine := true } } := runs.pins _ h
    refine ⟨_, rfl, ?_⟩
    split
    · exact withJob_keeps risen fun j _ => runs.openingOccasion j risen
    · exact risen
  case defectLengthLimit =>
    refine ⟨_, rfl, withJob_keeps h fun j _ => ?_⟩
    split
    · exact runs.openingOccasion j (docketRoom_reads.frame (State.closeDefect_affects _ j _) rfl h)
    · exact h
  case eventAttribution =>
    refine ⟨_, rfl, withJob_keeps h fun j _ => ?_⟩
    split
    · exact h.attribute _
    · exact h
  case eventRemoval =>
    refine ⟨_, rfl, withJob_keeps h fun j _ => ?_⟩
    split
    · exact h.removeEvent _
    · exact h
  case recordFold => exact runs.recordFold h
  case readComplete =>
    refine ⟨_, rfl, ?_⟩
    split
    · exact withJob_keeps h fun j _ => h.readDone j _
    · exact h
  case cutDue => exact runs.cutDue h
  case doff => exact runs.doff h
  case printerReadyChange => exact ⟨_, rfl, DocketRoom.work (runs.pins _ h)⟩
  case labelTransferEnd =>
    refine ⟨_, rfl, ?_⟩
    split
    · exact h.transferEnded _ _
    · exact h
  case printerTimeout =>
    refine ⟨_, rfl, ?_⟩
    split
    · exact h.timedOut _
    · exact h
  case applied => exact ⟨_, rfl, h.applied _⟩

theorem resetWith_docketRoom (p : Pins) (q : List Instr) : DocketRoom (State.resetWith p q) :=
  ⟨Nat.zero_le _, rfl, Nat.zero_le _, fun k => by cases k <;> exact Nat.zero_le _⟩

theorem clockCycle_docketRoom (h : DocketRoom s) : DocketRoom s.clockCycle := by
  refine h.congr rfl rfl h.queue fun p => ?_
  cases p
  · exact h.sent .a
  · exact h.sent .b

theorem docketRoom_step {t : State} (h : DocketRoom s) (ran : step s = .next t) : DocketRoom t :=
  step_keeps_law docketRoom_reads docketRoom_reads (fun _ h => h) resetWith_docketRoom
    (fun _ _ _ _ _ is meets h => request_docketRoom is meets h)
    (fun _ _ _ is meets h ran => operation_docketRoom is meets h ran) (fun _ h => clockCycle_docketRoom h) h ran

end

end Sys2Proof.Machine
end

section
/-! PROOFS. The drift window and the captures within their capacities, and the law of the capacities put together (O9). -/

namespace Sys2Proof.Machine

-- one proof at a time: the joined package would else open a thread for each of them
set_option Elab.async false

/-! ### The drift window -/

/-- The drift window within its capacity (R110). -/
def DriftRoom (s : State) : Prop := s.shu.drift.length ≤ Config.driftCap

section
variable {s u : State}

theorem driftRoom_reads : ReadsOnly [.shu] DriftRoom where
  congr {s u} same h := by
    have shu : u.shu = s.shu := same .shu (by decide)
    unfold DriftRoom at h ⊢
    rw [shu]
    exact h
  links := by decide
  queue := by decide

theorem DriftRoom.report (b : Option LineBatch) (h : DriftRoom s) : DriftRoom (s.reportLineBatch b) := by
  unfold State.reportLineBatch
  split
  · exact h
  · exact Nat.zero_le _

theorem DriftRoom.assign (j : Job) (roll : Nat) (mean : Shade) (h : DriftRoom s) :
    DriftRoom (s.assignBatch j roll mean).1 := by
  have settled : ∀ b i opened, DriftRoom (s.settleAssign j b i opened) := fun b i opened => by
    unfold State.settleAssign
    refine DriftRoom.report _ ?_
    split <;> exact h
  unfold State.assignBatch
  split
  · split
    · exact settled _ _ _
    · exact h
  · split
    · exact settled _ _ _
    · exact h

theorem DriftRoom.returned (h : DriftRoom s) : DriftRoom s.returnToReady := by
  have shu : s.registerReturn.embossReturn.shu = s.shu :=
    (s.registerReturn.embossReturn_affects.1.shu (by decide)).trans (s.registerReturn_affects.1.shu (by decide))
  have left : ∀ v : State, v.abandonMeasurement.shu.drift = v.shu.drift := fun v => by
    unfold State.abandonMeasurement
    split <;> rfl
  unfold DriftRoom at h ⊢
  simp only [State.returnToReady_shu, left, shu]
  exact h

theorem driftRoom_keptByRuns : KeptByRuns DriftRoom where
  entry _ h := h
  roll _ h := h
  assign j roll mean h := h.assign j roll mean
  told _ h := h
  labels h := driftRoom_reads.frame (State.labelWork_affects _) rfl h
  winder _ h := h
  records _ h := h
  events _ h := h
  permit h := h
  allocate _ _ _ _ h := driftRoom_reads.frame (State.allocate_affects _ _ _ _) rfl h
  pins _ h := h
  web _ h := h
  arrive j e h := driftRoom_reads.frame (State.arrive_affects _ j e) rfl h
  cause c h := driftRoom_reads.frame (State.raiseCause_affects _ c) rfl h
  empty h := h
  returned _ h := h.returned
  withdraw seq h := driftRoom_reads.frame (State.withdrawLabel_affects _ seq) rfl h
  unattach seq h := driftRoom_reads.frame (State.unattachSent_affects _ seq) rfl h
  release _ h := h

theorem DriftRoom.fixOrigin (j : Job) (o : Count) (k : OriginKind) (h : DriftRoom s) : DriftRoom (s.fixOrigin j o k) := by
  have started : ∀ (v : State) r, DriftRoom v → DriftRoom (v.addStart j r) := fun v r hv => by
    unfold State.addStart
    split <;> exact hv
  unfold State.fixOrigin State.appendRecord
  refine driftRoom_reads.frame (State.winderAppend_affects _ j _) rfl ?_
  refine driftRoom_reads.frame (State.addWindow_affects _ j _) rfl ?_
  exact started _ _ h

theorem DriftRoom.expiry (j : Job) (h : DriftRoom s) : DriftRoom (s.referenceExpiry j) := by
  unfold State.referenceExpiry
  dsimp only
  split
  · exact h
  · refine DriftRoom.fixOrigin j _ _ ?_
    split
    · exact h
    · exact driftRoom_reads.frame (State.refLost_affects _ _) rfl h

theorem DriftRoom.reacquired (j : Job) (h : DriftRoom s) : DriftRoom (s.reacquisitionExpiry j) := by
  unfold State.reacquisitionExpiry
  split
  · exact h
  · exact h.fixOrigin j _ _

theorem DriftRoom.takeExpiry (j : Job) (h : DriftRoom s) : DriftRoom (s.takeExpiry j) := by
  unfold State.takeExpiry
  split
  · split
    · exact h.expiry j
    · exact h.expiry j
    · exact h.reacquired j
    · exact h
  · exact h

theorem DriftRoom.takeEdge (j : Job) (x : Count) (h : DriftRoom s) : DriftRoom (s.takeEdge j x) := by
  have expired := h.takeExpiry j
  unfold State.takeEdge
  dsimp only
  split
  · exact DriftRoom.fixOrigin (s := State.setRef _ .locked 0) j _ _ expired
  · exact driftRoom_reads.frame (State.otherEdge_affects _ j x) rfl expired

theorem DriftRoom.readDone (j : Job) (raw : Shade) (h : DriftRoom s) : DriftRoom (s.readDone j raw) := by
  have verdict : ∀ (v : State) c, DriftRoom v → DriftRoom (v.takeVerdict c) := fun v c hv => by
    unfold State.takeVerdict
    dsimp only
    split
    · exact driftRoom_reads.frame (bs := [.rlg]) (State.updateOpenEntry_affects _ _) rfl hv
    · exact hv
    · exact hv
  have offered : ∀ (v : State) x, DriftRoom v → DriftRoom (v.offerReading j x) := fun v x hv => by
    unfold State.offerReading
    extract_lets window shu w
    have slid : DriftRoom w := by
      unfold DriftRoom at hv
      show window.length ≤ Config.driftCap
      simp only [window, List.length_append, List.length_singleton]
      split
      · omega
      next full =>
        rw [List.length_drop]
        simp only [Config.driftCap] at *
        omega
    split
    · exact slid
    · split
      · exact verdict _ _ slid
      · exact slid
  unfold State.readDone
  dsimp only
  split
  · split
    · unfold State.takeSmeared
      split <;> exact h
    · unfold State.takeReading
      dsimp only
      split
      · exact offered _ _ h
      · exact h
  · exact h

theorem DriftRoom.takeStart (j : Job) : DriftRoom (s.takeStart j) := by
  have blocks : DriftRoom (s.startBlocks j) := by
    unfold State.startBlocks
    exact driftRoom_reads.frame (State.leadIn_affects _ j) rfl (Nat.zero_le _)
  exact driftRoom_keptByRuns.takeStart j (driftRoom_reads.frame (State.setLineState_affects _ .run) rfl blocks)

theorem request_driftRoom {c : Instr} {l : LinkId} {tag : Byte} {x : Service} (is : requestOf c = some (l, tag, x))
    (meets : ([.shu] : List Block).any (blocksOf c).contains = true) (h : DriftRoom s) : DriftRoom (x.act s).1 := by
  have runs := driftRoom_keptByRuns
  cases c <;> cases is <;> try contradiction
  case shadeStatus => exact h
  case headReset => exact h
  case start =>
    simp only [startService]
    split
    · refine answerWithJob_keeps h fun j _ => ?_
      split
      · exact h
      · split
        · exact h
        · rw [done_fst]
          exact DriftRoom.takeStart j
    · exact h
  case endJob => exact runs.endJob (fun _ => driftRoom_reads.frame (State.setLineState_affects _ _) rfl h) h
  case abortJob => exact runs.abortJob h
  case releaseEntries => exact runs.releaseEntries _ h
  case closeBatch =>
    simp only [closeBatchService]
    split
    · split
      · exact h
      · rw [done_fst]
        unfold State.closeBatchAt
        dsimp only
        split
        · exact DriftRoom.report (s := { s with bat := _ }) _ h
        · exact h
    · exact h
  case loadJob =>
    simp only [loadJobService]
    split
    · split
      · exact h
      · rw [done_fst]
        unfold State.takeJob State.batchLoad
        refine driftRoom_reads.frame (State.setLineState_affects _ _) rfl ?_
        dsimp only
        split
        · split <;> exact h
        · refine DriftRoom.report _ ?_
          split <;> exact h
    · exact h
  case pinBatch =>
    simp only [pinBatchService]
    split
    · exact h
    · split
      · exact h
      · rw [done_fst]
        unfold State.pinAt
        dsimp only
        split
        · exact DriftRoom.report (s := { s with bat := _ }) _ h
        · exact h

theorem operation_driftRoom {c : Instr} {t : State} (is : isOperation c = true)
    (meets : ([.shu] : List Block).any (blocksOf c).contains = true) (h : DriftRoom s) (ran : exec c s = .next t) :
    DriftRoom t := by
  have runs := driftRoom_keptByRuns
  cases c <;> try contradiction
  case pwmPeriodStart g => cases g <;> contradiction
  all_goals refine driftRoom_reads.ends ?_ ran
  case encoderTransition => exact runs.encoderTransition h
  case stoppedFlagSet => exact runs.stoppedFlagSet h
  case recordFold => exact runs.recordFold h
  case cutDue => exact runs.cutDue h
  case doff => exact runs.doff h
  case markEdge =>
    refine ⟨_, rfl, ?_⟩
    split
    · exact withJob_keeps h fun j _ => h.takeEdge j _
    · exact h
  case referenceWindowExpiry =>
    refine ⟨_, rfl, withJob_keeps h fun j _ => ?_⟩
    split
    · exact h.expiry j
    · exact h
  case reacquisitionWindowExpiry =>
    refine ⟨_, rfl, withJob_keeps h fun j _ => ?_⟩
    split
    · exact h.reacquired j
    · exact h
  case shadeStartPoint =>
    refine ⟨_, rfl, withJob_keeps h fun j _ => ?_⟩
    split
    · unfold State.startPoint
      dsimp only
      split <;> exact h
    · exact h
  case triggerPulseEnd => exact ⟨_, rfl, h⟩
  case dataReady =>
    refine ⟨_, rfl, withJob_keeps h fun j _ => ?_⟩
    split <;> exact h
  case readComplete =>
    refine ⟨_, rfl, ?_⟩
    split
    · exact withJob_keeps (s := s) h fun j _ => h.readDone j _
    · exact h
  case headTimeout =>
    refine ⟨_, rfl, ?_⟩
    split
    · unfold State.headTimedOut
      dsimp only
      split
      · exact h
      · refine driftRoom_reads.frame (State.raiseCause_affects _ _) rfl ?_
        exact h
    · exact h

theorem driftRoom_step {t : State} (h : DriftRoom s) (ran : step s = .next t) : DriftRoom t :=
  step_keeps_law driftRoom_reads driftRoom_reads (fun _ h => h) (fun _ _ => Nat.zero_le _)
    (fun _ _ _ _ _ is meets h => request_driftRoom is meets h)
    (fun _ _ _ is meets h ran => operation_driftRoom is meets h ran)
    (fun s h => by
      unfold DriftRoom State.clockCycle at *
      dsimp only
      exact h) h ran

end

/-! ### The captures -/

/-- The open capture within its capacity (R34). -/
def CaptureRoom (s : State) : Prop := ∀ c, s.msc.capture = some c → c.edges.length ≤ Config.captureCap

section
variable {s u : State}

theorem captureRoom_reads : ReadsOnly [.msc] CaptureRoom where
  congr {s u} same h := by
    have msc : u.msc = s.msc := same .msc (by decide)
    unfold CaptureRoom at h ⊢
    rw [msc]
    exact h
  links := by decide
  queue := by decide

theorem captureRoom_of_none (none : s.msc.capture = none) : CaptureRoom s := fun c is => by
  rw [none] at is
  cases is

theorem captureRoom_keptByRuns : KeptByRuns CaptureRoom where
  entry _ h := h
  roll _ h := h
  assign _ _ _ h := captureRoom_reads.frame (State.assignBatch_affects _ _ _ _) rfl h
  told _ h := h
  labels h := captureRoom_reads.frame (State.labelWork_affects _) rfl h
  winder _ h := h
  records _ h := h
  events _ h := h
  permit h := h
  allocate _ _ _ _ h := captureRoom_reads.frame (State.allocate_affects _ _ _ _) rfl h
  pins _ h := h
  web _ h := h
  arrive j e h := captureRoom_reads.frame (State.arrive_affects _ j e) rfl h
  cause c h := captureRoom_reads.frame (State.raiseCause_affects _ c) rfl h
  empty h := h
  returned {s} _ _ := by
    obtain ⟨-, msc, -⟩ := s.returnToReady_spec
    exact captureRoom_of_none (by rw [msc]; rfl)
  withdraw seq h := captureRoom_reads.frame (State.withdrawLabel_affects _ seq) rfl h
  unattach seq h := captureRoom_reads.frame (State.unattachSent_affects _ seq) rfl h
  release _ h := h

theorem CaptureRoom.fixOrigin (j : Job) (o : Count) (k : OriginKind) (h : CaptureRoom s) : CaptureRoom (s.fixOrigin j o k) := by
  unfold State.fixOrigin
  refine captureRoom_reads.frame (State.appendRecord_affects _ j _) rfl fun c is => ?_
  cases k with
  | marked =>
    cases is
    exact Nat.zero_le _
  | flywheel => exact h c is

theorem CaptureRoom.expiry (j : Job) (h : CaptureRoom s) : CaptureRoom (s.referenceExpiry j) := by
  have lost : ∀ n, CaptureRoom (s.refLost n) := fun n => by
    unfold State.refLost
    refine captureRoom_reads.frame (State.raiseCause_affects _ _) rfl ?_
    split <;> exact h
  unfold State.referenceExpiry
  dsimp only
  split
  · exact h
  · refine CaptureRoom.fixOrigin j _ _ ?_
    split
    · exact h
    · exact lost _

theorem CaptureRoom.reacquired (j : Job) (h : CaptureRoom s) : CaptureRoom (s.reacquisitionExpiry j) := by
  unfold State.reacquisitionExpiry
  split
  · exact h
  · exact h.fixOrigin j _ _

theorem CaptureRoom.takeExpiry (j : Job) (h : CaptureRoom s) : CaptureRoom (s.takeExpiry j) := by
  unfold State.takeExpiry
  split
  · split
    · exact h.expiry j
    · exact h.expiry j
    · exact h.reacquired j
    · exact h
  · exact h

/-- An edge joins the capture while it holds fewer than 16 (R34). -/
theorem CaptureRoom.offerEdge (j : Job) {c : Capture} (x : Count) (is : s.msc.capture = some c) (h : CaptureRoom s) :
    CaptureRoom (s.offerEdge j c x) := by
  unfold State.offerEdge
  split
  · split
    next room =>
      intro d joined
      cases joined
      rw [List.length_append, List.length_singleton]
      omega
    next full =>
      intro d overflowed
      cases overflowed
      exact h c is
  · exact h

theorem CaptureRoom.takeEdge (j : Job) (x : Count) (h : CaptureRoom s) : CaptureRoom (s.takeEdge j x) := by
  have expired := h.takeExpiry j
  unfold State.takeEdge
  dsimp only
  split
  · exact CaptureRoom.fixOrigin (s := State.setRef _ .locked 0) j _ _ expired
  · unfold State.otherEdge
    split
    next c is =>
      split
      · exact expired.offerEdge j x is
      · exact expired
    next =>
      split <;> exact expired

theorem request_captureRoom {c : Instr} {l : LinkId} {tag : Byte} {x : Service} (is : requestOf c = some (l, tag, x))
    (meets : ([.msc] : List Block).any (blocksOf c).contains = true) (h : CaptureRoom s) : CaptureRoom (x.act s).1 := by
  have runs := captureRoom_keptByRuns
  cases c <;> cases is <;> try contradiction
  case start =>
    simp only [startService]
    split
    · refine answerWithJob_keeps h fun j _ => ?_
      split
      · exact h
      · split
        · exact h
        · rw [done_fst]
          have blocks : CaptureRoom (s.startBlocks j) := by
            unfold State.startBlocks
            exact captureRoom_reads.frame (State.leadIn_affects _ j) rfl (captureRoom_of_none rfl)
          exact runs.takeStart j (captureRoom_reads.frame (State.setLineState_affects _ .run) rfl blocks)
    · exact h
  case endJob => exact runs.endJob (fun _ => captureRoom_reads.frame (State.setLineState_affects _ _) rfl h) h
  case abortJob => exact runs.abortJob h
  case releaseEntries => exact runs.releaseEntries _ h
  case loadJob =>
    simp only [loadJobService]
    split
    · split
      · exact h
      · rw [done_fst]
        unfold State.takeJob
        extract_lets lsc msc rlg wnd u
        have emptied : CaptureRoom u := captureRoom_of_none rfl
        exact captureRoom_reads.frame (State.setLineState_affects _ .ready) rfl
          (captureRoom_reads.frame (u.batchLoad_affects _) rfl emptied)
    · exact h

theorem operation_captureRoom {c : Instr} {t : State} (is : isOperation c = true)
    (meets : ([.msc] : List Block).any (blocksOf c).contains = true) (h : CaptureRoom s) (ran : exec c s = .next t) :
    CaptureRoom t := by
  have runs := captureRoom_keptByRuns
  cases c <;> try contradiction
  case pwmPeriodStart g => cases g <;> contradiction
  all_goals refine captureRoom_reads.ends ?_ ran
  case stoppedFlagSet => exact runs.stoppedFlagSet h
  case cutDue => exact runs.cutDue h
  case doff => exact runs.doff h
  case markEdge =>
    refine ⟨_, rfl, ?_⟩
    split
    · exact withJob_keeps h fun j _ => h.takeEdge j _
    · exact h
  case referenceWindowExpiry =>
    refine ⟨_, rfl, withJob_keeps h fun j _ => ?_⟩
    split
    · exact h.expiry j
    · exact h
  case reacquisitionWindowExpiry =>
    refine ⟨_, rfl, withJob_keeps h fun j _ => ?_⟩
    split
    · exact h.reacquired j
    · exact h
  case captureClose =>
    refine ⟨_, rfl, withJob_keeps h fun j _ => ?_⟩
    split
    · split
      · unfold State.closeCapture
        split
        · exact captureRoom_reads.frame (State.outcomeTransfer_affects _ _ _ _) rfl (captureRoom_of_none rfl)
        · exact h
      · exact h
    · exact h
  case flywheelClosing =>
    refine ⟨_, rfl, withJob_keeps h fun j _ => ?_⟩
    split
    · split
      · refine captureRoom_reads.frame (State.outcomeTransfer_affects _ _ _ _) rfl ?_
        exact h
      · exact h
    · exact h

theorem captureRoom_step {t : State} (h : CaptureRoom s) (ran : step s = .next t) : CaptureRoom t :=
  step_keeps_law captureRoom_reads captureRoom_reads (fun _ h => h) (fun _ _ => captureRoom_of_none rfl)
    (fun _ _ _ _ _ is meets h => request_captureRoom is meets h)
    (fun _ _ _ is meets h ran => operation_captureRoom is meets h ran) (fun _ h => h) h ran

end

/-! ### The accumulators -/

/-- A station's accumulator, and its averaging in force, within the capacity (R39, R57). -/
def Station.AccBound (x : Station) : Prop :=
  x.acc.length ≤ Config.accumulatorCap ∧ ∀ d, x.desc = .resident d → d.tuning.averaging ≤ Config.accumulatorCap

/-- The emboss accumulator, and the averaging of the job in force, within the capacity (R88, R180). -/
def embossAccBound (l : (EmbPhase × Option TrainNote × Int × List Int) × Option Job) : Prop :=
  l.1.2.2.2.length ≤ Config.accumulatorCap ∧ ∀ j, l.2 = some j → j.emboss.averaging ≤ Config.accumulatorCap

/-- A LOAD_JOB record that passes has an averaging within 1..8 (R180). -/
theorem jobOf_averaging {p : List Byte} (passes : jobFails p = none) :
    (jobOf p).emboss.averaging ≤ Config.accumulatorCap := by
  have ranged := firstFailing_none passes (39, within 1 8 (jobField (jobNumbers p) 39)) (by simp [jobChecks])
  simp only [within, Bool.and_eq_true, decide_eq_true_eq] at ranged
  simp only [jobOf]
  exact ranged.2

/-- A SET_STATION record that passes has an averaging within 1..8 (R39, R41). -/
theorem descriptorOf_averaging {p : List Byte} {L : Nat} (passes : firstFailing (stationChecks p L) = none)
    {d : ResidentDesc} (is : descriptorOf p = .resident d) : d.tuning.averaging ≤ Config.accumulatorCap := by
  unfold descriptorOf at is
  dsimp only at is
  split at is
  · cases is
  · split at is
    next resident =>
      cases is
      have ranged := firstFailing_none passes (8, within 1 8 (stationField p 8)) (by
        simp only [stationChecks, residentChecks, if_pos resident]
        simp)
      simp only [within, Bool.and_eq_true, decide_eq_true_eq] at ranged
      exact ranged.2
    next => split at is <;> cases is

theorem accBound_kept : DriveKept Station.AccBound embossAccBound where
  moved {x y} same h := by
    refine ⟨?_, fun d is => h.2 d (same.desc.symm.trans is)⟩
    rcases same.acc with kept | emptied
    · rw [kept]
      exact h.1
    · rw [emptied]
      exact Nat.zero_le _
  gathered {x d} e is more h := by
    refine ⟨?_, h.2⟩
    have bound := h.2 d is
    rw [List.length_append, List.length_singleton]
    omega
  committed _ h := h
  ended h := h
  aborted _ _ _ h := h
  cleared same h := ⟨by rw [same.acc]; exact Nat.zero_le _, fun d is => h.2 d (same.desc.symm.trans is)⟩
  tuned _ _ bound h := ⟨h.1, fun _ is => by cases is; exact bound⟩
  unset := ⟨Nat.zero_le _, fun _ is => by cases is⟩
  loopMoved {_ _ _ _ acc acc' _} same h := by
    refine ⟨?_, h.2⟩
    rcases same with rfl | rfl
    · exact h.1
    · exact Nat.zero_le _
  loopGathered {_ _ _ acc j} e more h := by
    refine ⟨?_, h.2⟩
    have bound := h.2 j rfl
    show (acc ++ [e]).length ≤ _
    rw [List.length_append, List.length_singleton]
    omega
  loopCommitted _ h := h
  loopEnded h := h
  loopAborted _ _ h := h
  loopStarted h := ⟨Nat.zero_le _, h.2⟩
  loopLoaded passes := ⟨Nat.zero_le _, fun _ is => by cases is; exact jobOf_averaging passes⟩
  loopUnset := ⟨Nat.zero_le _, fun _ is => by cases is⟩

theorem Station.setTo_acc (x : Station) (d : Descriptor) : (x.setTo d).acc = x.acc := by
  simp only [Station.setTo, apply_ite Station.acc, ite_self]

theorem accBound_step {s t : State} (h : DriveLaw Station.AccBound embossAccBound s) (ran : step s = .next t) :
    DriveLaw Station.AccBound embossAccBound t :=
  step_keeps_law driveLaw_reads driveLaw_reads (fun _ h => h) accBound_kept.resetWith
    (fun _ _ _ _ s is meets h => accBound_kept.request is meets (fun p L i _ passes =>
      ⟨by rw [Station.setTo_acc]; exact (h.1 i).1, fun d is => descriptorOf_averaging passes
        ((s.station i).setTo_rest (descriptorOf p) |>.1.symm.trans is)⟩) h)
    (fun _ _ _ is meets h ran => accBound_kept.operation is meets h ran) (fun _ h => h.clock) h ran

/-! ### The law of the capacities -/

theorem capacityLaw_iff {s : State} : CapacityLaw s ↔ EventRoom s ∧ DocketRoom s ∧ DriftRoom s ∧ CaptureRoom s ∧
    DriveLaw Station.AccBound embossAccBound s := by
  have numbers : s.logSeqs.length = s.rlg.log.length := s.logSeqs_length
  constructor
  · rintro ⟨events, log, seqs, queue, drift, capture, sentA, sentB, stations, acc, job⟩
    exact ⟨events, ⟨numbers ▸ log, by rw [numbers]; exact seqs, queue, fun p => by cases p <;> assumption⟩, drift, capture,
      stations, acc, job⟩
  · rintro ⟨events, docket, drift, capture, stations, acc, job⟩
    exact ⟨events, numbers ▸ docket.log, numbers ▸ docket.numbers, docket.queue, drift, capture, docket.sent .a,
      docket.sent .b, stations, acc, job⟩

/-- Settles O9: each list is a law of its own, and what joins a list tests or makes room first. -/
theorem everyStepKeepsCapacities : Obligations.EveryStepKeepsCapacities := fun _ _ law ran => by
  obtain ⟨events, docket, drift, capture, accumulators⟩ := capacityLaw_iff.mp law
  exact capacityLaw_iff.mpr ⟨eventRoom_step events ran, docketRoom_step docket ran, driftRoom_step drift ran,
    captureRoom_step capture ran, accBound_step accumulators ran⟩

end Sys2Proof.Machine
end

section
/-! PROOFS. The reset values (O4, O5) and the steps that fall due on an empty queue (O2). -/

namespace Sys2Proof.Machine

-- one proof at a time: the joined package would else open a thread for each of them
set_option Elab.async false

theorem resetWith_endOfEvent (p : Pins) (q : List Instr) : (State.resetWith p q).endOfEvent = State.resetWith p q := rfl

/-- Settles O4: the part-reset values are those of the tables, and the arbiter finds no frame to send. -/
theorem partResetSetsEveryBlock : Obligations.PartResetSetsEveryBlock := by
  intro p s
  refine ⟨_, rfl, ?_⟩
  rw [resetWith_endOfEvent]
  refine ⟨rfl, rfl, rfl, rfl, ⟨fun i => ?_, fun i => ?_, rfl⟩, fun i => ?_, fun c => ?_, ⟨rfl, rfl⟩, ⟨rfl, rfl⟩, rfl,
    ⟨fun i => ?_, rfl⟩, ⟨rfl, rfl⟩, rfl, rfl⟩
  · simp [State.resetWith, Msc.reset, Gate.off]
  · simp [State.resetWith, Msc.reset]
  · simp [State.resetWith, State.station, Rlp.reset, Station.reset]
  · simp [State.resetWith, State.chan, Stg.reset, Channel.reset]
  · simp [State.resetWith, Bat.reset]

/-- Settles O5: each law's own lemma about the reset state. -/
theorem resetMeetsEveryLaw : Obligations.ResetMeetsEveryLaw := by
  have links : LinkLaw State.reset.endOfEvent := (State.resetWith_linksSound Pins.low []).endOfEvent
  refine ⟨links, resetWith_nipLaw _ _, resetWith_lineLaw _ _, capacityLaw_iff.mpr ⟨Nat.zero_le _, resetWith_docketRoom _ _,
    Nat.zero_le _, captureRoom_of_none rfl, accBound_kept.resetWith _ _⟩, resetWith_batchLaw _ _, resetWith_headLaw _ _,
    resetWith_restLaw _ _, resetWith_trainLaw _ _, trimBound_kept.resetWith _ _⟩

/-! ### The steps that fall due -/

section
variable {s : State}

theorem isLifting_eq_lifts (j : Job) (e : WebEvent) : e.isLifting j = lifts j e.kind := by
  unfold WebEvent.isLifting lifts
  cases e.kind <;> simp

theorem coverBeginDue_eq (s : State) (j : Job) (e : WebEvent) : s.coverBeginDue j e = coverBegins s j e := by
  unfold State.coverBeginDue coverBegins
  rw [isLifting_eq_lifts]
  rfl

/-- The planned cut does not fall at a datum. -/
theorem cutAt_eq_false_iff (s : State) (d : Count) : s.cutAt d = false ↔ Uncut s d := by
  unfold State.cutAt Uncut
  split
  next x p r o planned =>
    rw [planned]
    constructor
    · rintro apart c q is
      cases is
      simpa using beq_eq_false_iff_ne.mp apart |>.elim
    · intro apart
      have := apart _ p rfl
      simpa using this
  next other =>
    refine ⟨fun _ c p is at_ => ?_, fun _ => rfl⟩
    obtain ⟨t, o, r⟩ := c
    cases at_
    exact other _ _ _ _ is

theorem expiryDue_iff (s : State) (j : Job) :
    s.expiryDue j = true ↔ ∃ o, s.msc.origin = some o ∧ WindowExpired s.msc j o s.wpu.h := by
  unfold State.expiryDue Msc.expiry WindowExpired
  cases refState : s.msc.refState <;> cases origin : s.msc.origin <;> simp [State.at, reached, nextOrigin]

theorem embossWriteDue_isSome_iff (j : Job) (rs : List RepeatRecord) : (embossWriteDue s j rs).isSome = true ↔
    ∃ before r next after, rs = before ++ r :: next :: after ∧ r.emboss = .notReached ∧
      reached s.wpu.h (fwd next.origin j.dEm) = true := by
  induction rs with
  | nil => simp [embossWriteDue]
  | cons r rs ih =>
    cases rs with
    | nil =>
      simp only [embossWriteDue, Option.isSome_none, Bool.false_eq_true, false_iff, not_exists, not_and]
      intro before a next after is
      have := congrArg List.length is
      simp at this
      omega
    | cons next after =>
      unfold embossWriteDue
      split
      next here =>
        simp only [Bool.and_eq_true, beq_iff_eq] at here
        exact ⟨fun _ => ⟨[], r, next, after, rfl, here.1, here.2⟩, fun _ => rfl⟩
      next later =>
        simp only [Bool.and_eq_true, beq_iff_eq, not_and] at later
        rw [ih]
        constructor
        · rintro ⟨before, a, b, rest, is, written, reaches⟩
          exact ⟨r :: before, a, b, rest, by rw [is]; rfl, written, reaches⟩
        · rintro ⟨before, a, b, rest, is, written, reaches⟩
          cases before with
          | nil =>
            cases is
            exact absurd reaches (later written)
          | cons x before =>
            exact ⟨before, a, b, rest, (List.cons.inj is).2, written, reaches⟩

/-- A closing of a kind is due. -/
theorem closingKindDue_iff (s : State) (j : Job) (kind : OriginKind) : s.closingKindDue j kind = true ↔
    ∃ x rest, s.msc.closings = x :: rest ∧ x.kind = kind ∧ reached s.wpu.h (fwd x.origin (s.msc.oMax + j.wMark)) = true := by
  unfold State.closingKindDue State.closingDue State.closingAt State.at
  split
  next c rest is =>
    rw [is]
    split <;> simp_all
  next is => simp [is]

/-- Each step that waits for H is due exactly when H has reached its position. -/
theorem positionSteps_due (s : State) (j : Job) : ∀ p ∈ s.positionSteps j, (p.1 = true ↔ PositionReached s j p.2) := by
  simp only [State.positionSteps, List.forall_mem_cons, PositionReached, Bool.and_eq_true, List.any_eq_true, coverBeginDue_eq]
  refine ⟨?_, ?_, closingKindDue_iff s j _, closingKindDue_iff s j _, trivial, ?_, ?_, ?_, embossWriteDue_isSome_iff j _, ?_,
    ?_, ?_, ?_, ?_, ?_, ?_, ?_, fun _ h => nomatch h⟩
  · rw [expiryDue_iff]
    unfold Msc.tracking WindowExpired
    cases refState : s.msc.refState <;> simp
  · rw [expiryDue_iff]
    simp
  · refine exists_congr fun e => and_congr_right fun _ => ?_
    unfold State.liftCheckDue
    rw [isLifting_eq_lifts, coverBeginDue_eq]
    simp only [Bool.and_eq_true, Bool.not_eq_true', State.at, and_assoc]
  · unfold State.coverEndDue
    simp only [Bool.and_eq_true, Bool.not_eq_true', Option.any_eq_true, State.at, List.any_eq_false, coverBeginDue_eq,
      and_assoc, Bool.not_eq_true]
  · unfold State.windowDue
    split
    next w rest is =>
      rw [is]
      unfold EmbWindow.expiresAt State.at
      split <;> simp_all
    next is => simp [is]
  · unfold State.startDue
    split
    next x rest is =>
      rw [is]
      unfold State.at
      split <;> simp_all
    next is => simp [is]
  · unfold State.cutDueAt State.firingReached
    split
    next c is =>
      rw [is]
      split
      next d p target =>
        split <;> simp_all [State.at]
      next other => simp_all
    next is => simp [is]
  · unfold State.overlengthDue State.pastKnife State.knifeAt
    split
    next is => simp [is]
    next g is => simp [is, and_assoc]
  · unfold State.torqueDue State.pastKnife State.knifeAt
    split
    next g is => simp [is]
    next is => simp [is]
  · refine exists_congr fun e => and_congr_right fun _ => ?_
    unfold State.attributionDue
    simp only [Bool.and_eq_true, Bool.not_eq_true', State.at, and_assoc, cutAt_eq_false_iff]
  · refine exists_congr fun e => and_congr_right fun _ => ?_
    unfold State.removalDue
    simp only [Bool.and_eq_true, Bool.not_eq_true', State.at, and_assoc, cutAt_eq_false_iff]
  · unfold State.defectLimitDue State.eventLength
    simp only [List.any_eq_true, Bool.and_eq_true, decide_eq_true_eq]
    refine exists_congr fun e => and_congr_right fun _ => and_congr_right fun opened => ?_
    rw [if_pos opened]
    rfl
  · unfold State.foldDue
    split
    next r next rest is =>
      constructor
      · exact fun due => ⟨r, next, rest, is, due⟩
      · rintro ⟨r', next', rest', is', due⟩
        rw [is] at is'
        cases is'
        exact due
    next other =>
      simp only [Bool.false_eq_true, false_iff, not_exists, not_and]
      exact fun r next rest is => absurd is (other r next rest)

/-- A command waits for H under no job but by its place among the steps that do. -/
theorem positionSteps_covers (j : Job) {c : Instr} (h : PositionReached s j c) : c ∈ (s.positionSteps j).map Prod.snd := by
  cases c <;> first | exact h.elim | simp [State.positionSteps]

/-- Every step of the part's own, with whether it is due, in the order in which they are looked at. -/
def State.dueSteps (s : State) : List (Bool × Instr) :=
  (match s.lsc.job with
    | some j => s.positionSteps j
    | none => []) ++ s.settleSteps ++ s.channelSteps ++ s.timerSteps ++ s.linkSteps .line ++ s.linkSteps .service

theorem nextDue_eq (s : State) : s.nextDue = (s.dueSteps.find? Prod.fst).map Prod.snd := rfl

theorem mem_dueSteps {p : Bool × Instr} : p ∈ s.dueSteps ↔ (∃ j, s.lsc.job = some j ∧ p ∈ s.positionSteps j) ∨
    p ∈ s.settleSteps ∨ p ∈ s.channelSteps ∨ p ∈ s.timerSteps ∨ p ∈ s.linkSteps .line ∨ p ∈ s.linkSteps .service := by
  unfold State.dueSteps
  simp only [List.mem_append, or_assoc]
  refine or_congr_left ?_
  split
  next j is => simp [is]
  next is => simp [is]

/-- A step of a list that stands for a due command where its flag is set. -/
def Lists (l : List (Bool × Instr)) (s : State) : Prop := ∀ p ∈ l, (p.1 = true ↔ FallenDue s p.2)

theorem settleSteps_due (s : State) : Lists s.settleSteps s := by
  intro p is
  obtain ⟨i, -, rfl⟩ := List.mem_map.mp is
  simp only [FallenDue, PositionReached, and_false, exists_false, false_or, State.settleDue, Bool.and_eq_true, beq_iff_eq,
    Option.any_eq_true, State.at]

theorem channelSteps_due (s : State) : Lists s.channelSteps s := by
  intro p is
  obtain ⟨c, -, is⟩ := List.mem_flatMap.mp is
  simp only [List.mem_cons, List.not_mem_nil, or_false] at is
  rcases is with rfl | rfl <;>
    simp only [FallenDue, PositionReached, and_false, exists_false, false_or, Bool.and_eq_true, beq_iff_eq]

theorem timerSteps_due (s : State) : Lists s.timerSteps s := by
  simp only [Lists, State.timerSteps, List.forall_mem_cons, FallenDue, PositionReached, and_false, exists_false, false_or,
    decide_eq_true_eq, Bool.and_eq_true, Bool.not_eq_true', ranOut, beq_iff_eq, Option.any_eq_true,
    State.printer]
  exact ⟨Iff.rfl, Iff.rfl, trivial, trivial, Iff.rfl, Iff.rfl, trivial, trivial, trivial, trivial, trivial, Iff.rfl, Iff.rfl,
    fun _ h => nomatch h⟩

theorem linkSteps_due (s : State) (l : LinkId) : Lists (s.linkSteps l) s := by
  simp only [Lists, State.linkSteps, List.forall_mem_cons, FallenDue, PositionReached, and_false, exists_false, false_or,
    decide_eq_true_eq, Bool.and_eq_true, Bool.not_eq_true', Option.any_eq_true, State.mayReply, List.isEmpty_eq_false_iff]
  exact ⟨Iff.rfl, Iff.rfl, fun _ h => nomatch h⟩

/-- A step has fallen due exactly where it stands among the steps as due. -/
theorem fallenDue_iff_mem (c : Instr) : FallenDue s c ↔ (true, c) ∈ s.dueSteps := by
  constructor
  · intro due
    have flagged : ∀ l, Lists l s → c ∈ l.map Prod.snd → (true, c) ∈ l := fun l lists listed => by
      obtain ⟨⟨b, x⟩, member, rfl⟩ := List.mem_map.mp listed
      have : b = true := (lists _ member).mpr due
      exact this ▸ member
    rcases due with ⟨j, job, reaches⟩ | timed
    · obtain ⟨⟨b, x⟩, member, rfl⟩ := List.mem_map.mp (positionSteps_covers j reaches)
      have : b = true := (positionSteps_due s j _ member).mpr reaches
      exact mem_dueSteps.mpr (.inl ⟨j, job, this ▸ member⟩)
    · refine mem_dueSteps.mpr (.inr ?_)
      cases c <;> first | exact timed.elim | skip
      case settleEnd => exact .inl (flagged _ (settleSteps_due s) (by simp [State.settleSteps]))
      case stepPulse => exact .inr (.inl (flagged _ (channelSteps_due s) (by simp [State.channelSteps])))
      case stepPulseEnd => exact .inr (.inl (flagged _ (channelSteps_due s) (by simp [State.channelSteps])))
      case requestTake l =>
        cases l with
        | line => exact .inr (.inr (.inr (.inl (flagged _ (linkSteps_due s .line) (by simp [State.linkSteps])))))
        | service => exact .inr (.inr (.inr (.inr (flagged _ (linkSteps_due s .service) (by simp [State.linkSteps])))))
      case gapTimeout l =>
        cases l with
        | line => exact .inr (.inr (.inr (.inl (flagged _ (linkSteps_due s .line) (by simp [State.linkSteps])))))
        | service => exact .inr (.inr (.inr (.inr (flagged _ (linkSteps_due s .service) (by simp [State.linkSteps])))))
      case pwmPeriodStart g =>
        exact .inr (.inr (.inl (flagged _ (timerSteps_due s) (by cases g <;> simp [State.timerSteps]))))
      case printerTimeout p =>
        exact .inr (.inr (.inl (flagged _ (timerSteps_due s) (by cases p <;> simp [State.timerSteps]))))
      all_goals exact .inr (.inr (.inl (flagged _ (timerSteps_due s) (by simp [State.timerSteps]))))
  · intro member
    rcases mem_dueSteps.mp member with ⟨j, job, position⟩ | is | is | is | is | is
    · exact .inl ⟨j, job, (positionSteps_due s j _ position).mp rfl⟩
    · exact (settleSteps_due s _ is).mp rfl
    · exact (channelSteps_due s _ is).mp rfl
    · exact (timerSteps_due s _ is).mp rfl
    · exact (linkSteps_due s _ _ is).mp rfl
    · exact (linkSteps_due s _ _ is).mp rfl

/-- The steps stand in their turn. -/
theorem dueSteps_turns (s : State) : (s.dueSteps.map fun p => turnOf p.2).Pairwise (· ≤ ·) := by
  have positions : ∀ j, (s.positionSteps j).map (fun p => turnOf p.2) = List.range 17 := fun j => rfl
  have settle : s.settleSteps.map (fun p => turnOf p.2) = (List.finRange 8).map fun i => 17 + i.val :=
    List.map_map
  have channels : s.channelSteps.map (fun p => turnOf p.2) =
      (List.finRange 9).flatMap fun c => [25 + 2 * c.val, 26 + 2 * c.val] := List.map_flatMap
  have timers : s.timerSteps.map (fun p => turnOf p.2) = [43, 44, 45, 46, 47, 48, 49, 50, 51, 52, 53, 54, 55] := rfl
  have line : (s.linkSteps .line).map (fun p => turnOf p.2) = [56, 57] := rfl
  have service : (s.linkSteps .service).map (fun p => turnOf p.2) = [58, 59] := rfl
  unfold State.dueSteps
  simp only [List.map_append, settle, channels, timers, line, service]
  split
  · rw [positions]
    decide
  · decide

theorem step_idle (idle : s.pending = []) : step s = s.idle := by
  unfold step
  rw [idle]

/-- The first step flagged stands no later than any other. -/
theorem turn_le_of_find {l : List (Bool × Instr)} (turns : (l.map fun p => turnOf p.2).Pairwise (· ≤ ·)) {p : Bool × Instr}
    {c : Instr} (found : l.find? Prod.fst = some p) (member : (true, c) ∈ l) : turnOf p.2 ≤ turnOf c := by
  obtain ⟨-, before, after, rfl, unflagged⟩ := List.find?_eq_some_iff_append.mp found
  rw [List.map_append, List.map_cons, List.pairwise_append, List.pairwise_cons] at turns
  obtain ⟨-, ⟨later, -⟩, -⟩ := turns
  rcases List.mem_append.mp member with is | is
  · exact absurd (unflagged _ is) (by simp)
  · rcases List.mem_cons.mp is with rfl | is
    · exact Nat.le_refl _
    · exact later _ (List.mem_map.mpr ⟨_, is, rfl⟩)

/-- One cycle of the clock, each timer's own (3.4). -/
theorem clockCycle_frame (s : State) : SameBut [.wpu, .stg, .emb, .shu, .wnd, .lbc, .lnk] s s.clockCycle := fun b apart => by
  cases b <;> first | rfl | exact absurd (by decide) apart

theorem clockCycle_chan (s : State) (c : ChannelId) : s.clockCycle.chan c = (s.chan c).tick := by
  simp [State.clockCycle, State.chan]

theorem clockCycle_half (s : State) (l : LinkId) : s.clockCycle.half l = (s.half l).tick := by cases l <;> rfl

/-- Settles O2: the steps are looked at in their turn, each flagged where it has fallen due. -/
theorem idleStepRunsDueStepOrClock : Obligations.IdleStepRunsDueStepOrClock := by
  intro s idle
  rw [step_idle idle]
  unfold State.idle
  rw [nextDue_eq]
  refine ⟨fun c is => ?_, fun none => ?_⟩
  · obtain ⟨⟨b, x⟩, found, rfl⟩ := Option.map_eq_some_iff.mp is
    have flag : b = true := List.find?_some found
    refine ⟨by rw [found]; rfl, (fallenDue_iff_mem x).mpr (flag ▸ List.mem_of_find?_eq_some found), fun y due => ?_⟩
    exact turn_le_of_find (dueSteps_turns s) found ((fallenDue_iff_mem y).mp due)
  · have unfound := Option.map_eq_none_iff.mp none
    refine ⟨fun x due => ?_, s.clockCycle, by rw [unfound]; rfl, clockCycle_frame s, rfl, clockCycle_chan s, rfl, rfl, rfl,
      rfl, clockCycle_half s⟩
    exact absurd rfl (List.find?_eq_none.mp unfound _ ((fallenDue_iff_mem x).mp due))

end

end Sys2Proof.Machine
end

section
/-! PROOFS. The links: the receive assembler (O29, O30). -/

namespace Sys2Proof.Machine

-- one proof at a time: the joined package would else open a thread for each of them
set_option Elab.async false

section
variable {s u : State} {l : LinkId} {h x : LinkHalf}

theorem LinkHalf.sameReceiver_refl (h : LinkHalf) : h.sameReceiver h := ⟨rfl, rfl, rfl, rfl, rfl, rfl, rfl, rfl, rfl⟩

/-- A link's half written, and the end of the event. -/
theorem State.half_putHalf_endOfEvent (s : State) (l k : LinkId) (x : LinkHalf) :
    ((s.putHalf l x).endOfEvent.half k).outgoing = (if k = l then x else s.half k).outgoing ∧
      (if k = l then x else s.half k).sameReceiver ((s.putHalf l x).endOfEvent.half k) ∧
      ∀ n, ((s.putHalf l x).endOfEvent.half k).Shows n ↔ (if k = l then x else s.half k).Shows n := by
  rw [State.half_endOfEvent, State.half_putHalf]
  exact ⟨LinkHalf.advance_outgoing _ _, LinkHalf.advance_receiver _ _, fun n => LinkHalf.advance_shows _ _ n⟩

/-- The receiver alone may differ between two halves. -/
structure LinkHalf.SameSender (h x : LinkHalf) : Prop where
  tx : x.tx = h.tx
  replies : x.replies = h.replies
  slots : x.slots = h.slots

theorem LinkHalf.SameSender.outgoing (same : h.SameSender x) : x.outgoing = h.outgoing := by
  unfold LinkHalf.outgoing
  rw [same.tx, same.replies]

theorem LinkHalf.SameSender.shows (same : h.SameSender x) (n : Notice) : x.Shows n ↔ h.Shows n := by
  unfold LinkHalf.Shows
  rw [same.tx, same.slots]

theorem LinkHalf.enqueue_sender (h : LinkHalf) (r : RawRequest) : h.SameSender (h.enqueue r) := by
  unfold LinkHalf.enqueue
  split <;> exact ⟨rfl, rfl, rfl⟩

theorem LinkHalf.complete_sender (h : LinkHalf) (n : Nat) (bytes : List Byte) (hi lo : Byte) :
    h.SameSender (h.complete n bytes hi lo) := by
  unfold LinkHalf.complete
  split
  · have := h.enqueue_sender (rawRequest bytes)
    exact ⟨this.tx, this.replies, this.slots⟩
  · exact ⟨rfl, rfl, rfl⟩

theorem LinkHalf.receive_sender (h : LinkHalf) (b : Byte) (framing : Bool) : h.SameSender (h.receive b framing) := by
  unfold LinkHalf.receive
  split
  · split <;> exact ⟨rfl, rfl, rfl⟩
  · split
    · exact ⟨rfl, rfl, rfl⟩
    · split <;> exact ⟨rfl, rfl, rfl⟩
  · split
    · exact ⟨rfl, rfl, rfl⟩
    · split <;> exact ⟨rfl, rfl, rfl⟩
  · split <;> exact ⟨rfl, rfl, rfl⟩
  · split
    · exact ⟨rfl, rfl, rfl⟩
    · exact h.complete_sender _ _ _ _

/-- An event that changes nothing but a link's receiver. -/
theorem receiver_event {c : Instr} {x : LinkHalf} (runs : exec c s = .next (s.putHalf l x).endOfEvent)
    (same : (s.half l).SameSender x) :
    ∃ t, exec c s = .next t ∧ SameBut [.lnk] s t ∧
      (∀ k, (t.half k).outgoing = (s.half k).outgoing ∧ ∀ n, (t.half k).Shows n ↔ (s.half k).Shows n) ∧
      (∀ k, k ≠ l → (s.half k).sameReceiver (t.half k)) ∧ x.sameReceiver (t.half l) := by
  refine ⟨_, runs, (s.putHalf_sameBut l x).trans (State.endOfEvent_sameBut _), fun k => ?_, fun k ne => ?_, ?_⟩
  · obtain ⟨out, -, shows_⟩ := s.half_putHalf_endOfEvent l k x
    rw [out]
    by_cases is : k = l
    · subst is
      simp only [if_true] at shows_ ⊢
      exact ⟨same.outgoing, fun n => (shows_ n).trans (same.shows n)⟩
    · rw [if_neg is]
      simp only [if_neg is] at shows_
      exact ⟨rfl, shows_⟩
  · obtain ⟨-, receiver, -⟩ := s.half_putHalf_endOfEvent l k x
    rwa [if_neg ne] at receiver
  · obtain ⟨-, receiver, -⟩ := s.half_putHalf_endOfEvent l l x
    rwa [if_pos rfl] at receiver

theorem State.putHalf_self (s : State) (l : LinkId) : s.putHalf l (s.half l) = s := by cases l <;> rfl

/-- Settles O29: the assembler's next state, by what it is in. -/
theorem bytesMoveTheAssembler : Obligations.BytesMoveTheAssembler := by
  intro s l b framing h abandoned
  refine ⟨?_, ?_⟩
  · obtain ⟨t, runs, frame, sender, others, receiver⟩ := receiver_event (s := s) (l := l) (c := .byteReceived l b framing) rfl
      (h.receive_sender b framing)
    have is : ∀ {x}, h.receive b framing = x → x.sameReceiver (t.half l) := fun e => e ▸ receiver
    refine ⟨t, runs, frame, sender, others, fun rx => ⟨fun start => is ?_, fun other => is ?_⟩, fun busy error => is ?_,
      fun rx clean => ⟨fun ok => is ?_, fun wrong => is ?_⟩, fun n bytes rx clean => is ?_, fun n bytes rx clean => is ?_,
      fun n bytes hi rx clean => ⟨fun right room => is ?_, fun right full => is ?_, fun wrong => is ?_⟩⟩
    · simp [LinkHalf.receive, rx, start, LinkHalf.goOn]
    · unfold LinkHalf.receive
      rw [rx]
      simp only
      rw [if_neg]
      simpa using other
    · unfold LinkHalf.receive
      rw [error]
      cases rx : h.rx with
      | hunt => exact absurd rx busy
      | count => rfl
      | body n bytes => rfl
      | check n bytes hi => cases hi <;> rfl
    · simp [LinkHalf.receive, rx, clean, within, ok, LinkHalf.goOn]
    · unfold LinkHalf.receive
      rw [rx, clean]
      simp only [Bool.false_eq_true, if_false]
      rw [if_neg (by simpa [within] using wrong)]
      rfl
    · unfold LinkHalf.receive
      rw [rx, clean]
      simp only [Bool.false_eq_true, if_false]
      split <;> rfl
    · unfold LinkHalf.receive
      rw [rx, clean]
      rfl
    · unfold LinkHalf.receive
      rw [rx, clean]
      simp only [Bool.false_eq_true, if_false, LinkHalf.complete, LinkHalf.enqueue]
      rw [if_pos (by exact right), if_pos (by exact room)]
      rfl
    · unfold LinkHalf.receive
      rw [rx, clean]
      simp only [Bool.false_eq_true, if_false, LinkHalf.complete, LinkHalf.enqueue]
      rw [if_pos (by exact right), if_neg (by exact Nat.not_lt.mpr full)]
      rfl
    · unfold LinkHalf.receive
      rw [rx, clean]
      simp only [Bool.false_eq_true, if_false, LinkHalf.complete]
      rw [if_neg (by exact wrong)]
      rfl
  · by_cases rx : h.rx = .hunt
    · have runs : exec (.gapTimeout l) s = .next (s.putHalf l h).endOfEvent := by
        rw [State.putHalf_self]
        exact congrArg (fun v => Host.Outcome.next (State.endOfEvent v)) (if_pos rx)
      obtain ⟨t, runs, frame, sender, others, receiver⟩ := receiver_event runs ⟨rfl, rfl, rfl⟩
      exact ⟨t, runs, frame, sender, others, by rw [if_pos rx]; exact receiver⟩
    · have runs : exec (.gapTimeout l) s = .next (s.putHalf l h.abandon).endOfEvent :=
        congrArg (fun v => Host.Outcome.next (State.endOfEvent v)) (if_neg rx)
      obtain ⟨t, runs, frame, sender, others, receiver⟩ := receiver_event runs ⟨rfl, rfl, rfl⟩
      exact ⟨t, runs, frame, sender, others, by rw [if_neg rx]; exact receiver⟩

/-- The counted bytes after the count, one after another (R191). -/
theorem LinkHalf.receive_body {n : Nat} (rest : List Byte) : ∀ {h : LinkHalf} {read : List Byte}, h.rx = .body n read →
    rest ≠ [] → read.length + rest.length = n →
    rest.foldl (fun x b => x.receive b false) h = h.goOn (.check n (read ++ rest) none) := by
  induction rest with
  | nil => exact fun _ empty _ => absurd rfl empty
  | cons b rest ih =>
    intro h read rx _ length
    rw [List.length_cons] at length
    rw [List.foldl_cons]
    have received : h.receive b false =
        if read.length + 1 < n then h.goOn (.body n (read ++ [b])) else h.goOn (.check n (read ++ [b]) none) := by
      unfold LinkHalf.receive
      rw [rx]
      rfl
    rw [received]
    cases rest with
    | nil =>
      rw [List.length_nil] at length
      rw [if_neg (by omega)]
      rfl
    | cons c rest =>
      rw [List.length_cons] at length
      rw [if_pos (by omega), ih (h := h.goOn (.body n (read ++ [b]))) (read := read ++ [b]) rfl (by simp)
        (by simp; omega)]
      simp [LinkHalf.goOn]

/-- A 16-bit number from its two bytes, high byte first. -/
theorem append_beBytes (x : BitVec 16) : BitVec.ofNat 8 (x.toNat / 256) ++ BitVec.ofNat 8 x.toNat = x := by
  refine BitVec.eq_of_toNat_eq ?_
  have := x.isLt
  rw [BitVec.toNat_append, BitVec.toNat_ofNat, BitVec.toNat_ofNat, ← Nat.shiftLeft_add_eq_or_of_lt (by omega),
    Nat.shiftLeft_eq]
  omega

/-- Settles O30: the assembler goes through COUNT, BODY and CHECK to a request queued. -/
theorem frameReceivedIsTheRequestSent : Obligations.FrameReceivedIsTheRequestSent := by
  intro h kind tag payload rx size room
  have counted : (byteOf (payload.length + 2)).toNat = payload.length + 2 := by
    unfold byteOf
    rw [BitVec.toNat_ofNat]
    omega
  generalize count : byteOf (payload.length + 2) = n at counted
  generalize crc : crc16 ([n, kind, tag] ++ payload) = c
  have bytes : frameBytes kind tag payload =
      0xC3 :: n :: ((kind :: tag :: payload) ++ [BitVec.ofNat 8 (c.toNat / 256), BitVec.ofNat 8 c.toNat]) := by
    unfold frameBytes
    simp only [count, crc]
    simp [beBytes]
  have started : h.receive 0xC3 false = h.goOn .count := by
    unfold LinkHalf.receive
    rw [rx]
    rfl
  have sized : (h.goOn .count).receive n false = h.goOn (.body n.toNat []) := by
    have ok : within 2 252 n.toNat = true := by
      rw [counted]
      simp only [within, Bool.and_eq_true, decide_eq_true_eq]
      omega
    simp [LinkHalf.receive, LinkHalf.goOn, ok]
  have body := LinkHalf.receive_body (h := h.goOn (.body n.toNat [])) (read := []) (kind :: tag :: payload) rfl (by simp)
    (by rw [counted]; simp)
  rw [bytes, List.foldl_cons, List.foldl_cons, started, sized, List.foldl_append, body]
  have right : crc16 (byteOf n.toNat :: kind :: tag :: payload) =
      BitVec.ofNat 8 (c.toNat / 256) ++ BitVec.ofNat 8 c.toNat := by
    rw [append_beBytes, byteOf, BitVec.ofNat_toNat, BitVec.setWidth_eq]
    exact crc
  simp only [List.foldl_cons, List.foldl_nil, LinkHalf.receive, LinkHalf.goOn, List.nil_append, Bool.false_eq_true, if_false,
    LinkHalf.complete, if_pos right, LinkHalf.enqueue]
  rw [if_pos (by exact room)]
  rfl

end

end Sys2Proof.Machine
end

section
/-! PROOFS. The web counts (O19), and requests: their tests, their forms in a queue, and those that move the links
(O26, O27, O28). -/

namespace Sys2Proof.Machine

-- one proof at a time: the joined package would else open a thread for each of them
set_option Elab.async false

/-! ### The web counts -/

/-- W and H stand at these counts (R1, R3). -/
def CountsAre (w h : Count) (s : State) : Prop := s.wpu.w = w ∧ s.wpu.h = h

section
variable {s u : State} {w h : Count}

theorem countsAre_reads (w h : Count) : ReadsOnly [.wpu] (CountsAre w h) where
  congr {s u} same is := by
    have wpu : u.wpu = s.wpu := same .wpu (by decide)
    unfold CountsAre at is ⊢
    rw [wpu]
    exact is
  links := by decide
  queue := by decide

theorem CountsAre.checkSpeed (is : CountsAre w h s) (j : Job) : CountsAre w h (s.checkSpeed j) := by
  unfold State.checkSpeed
  split
  · dsimp only
    split
    · refine (countsAre_reads w h).frame (State.raiseCause_affects _ _) rfl ?_
      exact is
    · exact is
  · exact is

/-- START sets the fault count alone at the WPU (R182). -/
theorem CountsAre.startBlocks (is : CountsAre w h s) (j : Job) : CountsAre w h (s.startBlocks j) := by
  have scanned : CountsAre w h (s.mapStations Station.atStart).scannerStart :=
    (countsAre_reads w h).frame (State.scannerStart_affects _) rfl
      ((countsAre_reads w h).frame (s.mapStations_affects Station.atStart) rfl is)
  unfold State.startBlocks
  refine (countsAre_reads w h).frame (State.leadIn_affects _ j) rfl ?_
  exact scanned

theorem CountsAre.takeStart (is : CountsAre w h s) (j : Job) : CountsAre w h (s.takeStart j) := by
  have reads := countsAre_reads w h
  have examined : ∀ {v : State} (c : HoldCause), CountsAre w h v → CountsAre w h (v.examine c) := fun {v} c hv =>
    reads.frame (v.examine_affects c) rfl hv
  have permitted := reads.frame (affects_lsc _ { (s.startBlocks j).lsc with runPermit := true }) rfl (is.startBlocks j)
  have entered := reads.frame (State.setLineState_affects _ .run) rfl permitted
  have opened := reads.frame (State.openingOccasion_affects _ j) rfl entered
  have first := examined .overspeed (examined .encoder opened)
  have second := examined .printerOffline (examined .headOffline first)
  exact second

/-- A request's owner leaves the web counts. -/
theorem CountsAre.act {c : Instr} {l : LinkId} {tag : Byte} {x : Service} (is : requestOf c = some (l, tag, x))
    (at_ : CountsAre w h s) : CountsAre w h (x.act s).1 := by
  by_cases meets : [Block.wpu].any (blocksOf c).contains = true
  · cases c <;> cases is <;> try contradiction
    simp only [startService]
    split
    · refine answerWithJob_keeps at_ fun j _ => ?_
      split
      · exact at_
      · split
        · exact at_
        · rw [done_fst]
          exact at_.takeStart j
    · exact at_
  · exact (countsAre_reads w h).sameBut (requestOf_act_sameBut is s) (by simpa using meets) at_

/-- Settles O19: besides the encoder's transitions and resets, only the commands that meet the WPU's block could, and they
leave both counts. -/
theorem nothingElseMovesTheWebCounts : Obligations.NothingElseMovesTheWebCounts := by
  intro c s t runs
  have reads := countsAre_reads s.wpu.w s.wpu.h
  have at_ : CountsAre s.wpu.w s.wpu.h s := ⟨rfl, rfl⟩
  by_cases meets : [Block.wpu].any (blocksOf c).contains = true
  · cases c <;> try contradiction
    case partReset p => exact .inr (.inr (.inl ⟨p, rfl⟩))
    case encoderTransition line => exact .inr (.inl ⟨line, rfl⟩)
    case encoderFault =>
      cases runs
      refine .inl (reads.endOfEvent (reads.frame (State.raiseCause_affects _ _) rfl ?_))
      exact at_
    case speedWindowEnd =>
      cases runs
      have closed : CountsAre s.wpu.w s.wpu.h { s with wpu := s.wpu.closeWindow } := ⟨rfl, rfl⟩
      exact .inl (reads.endOfEvent (reads.frame (State.evaluateNip_affects _) rfl
        (withJob_keeps closed fun j _ => closed.checkSpeed j)))
    case stoppedFlagSet =>
      cases runs
      refine .inl (reads.endOfEvent ?_)
      split
      · exact at_
      · have flagged : CountsAre s.wpu.w s.wpu.h
            { s with wpu := { s.wpu with stopped := true, stoppedTime := Config.stoppedLimit } } := ⟨rfl, rfl⟩
        exact withJob_keeps flagged fun j _ => reads.frame (State.tailCheck_affects _ j) rfl flagged
    case requestTake l =>
      cases runs
      refine .inl (reads.endOfEvent ?_)
      rcases s.takeRequest_sameBut l with same | ⟨c, tag, x, is, -, acted⟩
      · exact reads.links_only same at_
      · exact reads.links_only acted (CountsAre.act is (reads.links_only (s.putHalf_sameBut l _) at_))
    case frameSent l =>
      cases waits : (s.half l).resetWait with
      | true => exact .inr (.inr (.inr ⟨l, rfl, waits⟩))
      | false =>
        cases runs
        refine .inl (reads.endOfEvent ?_)
        simp only [waits, Bool.false_and, Bool.false_eq_true, if_false]
        split
        · exact reads.links_only (s.putHalf_sameBut l _) at_
        · exact at_
    case pwmPeriodStart g => cases g <;> contradiction
    case start l tag =>
      have is : requestOf (.start l tag) = some (l, tag, startService) := rfl
      cases (exec_request is s).symm.trans runs
      refine .inl (reads.endOfEvent ?_)
      rcases s.request_sameBut_act l tag startService with same | acted
      · exact reads.links_only same at_
      · exact reads.links_only acted (CountsAre.act is at_)
  · obtain ⟨v, runs', frame⟩ := exec_sameBut c s
    cases runs'.symm.trans runs
    exact .inl (reads.sameBut frame (by simpa using meets) at_)

end

/-! ### Requests as commands and as bytes -/

section
variable {c : Instr} {q : RequestInfo} {l : LinkId} {tag : Byte} {s : State}

/-- A request command's row of the table is that of its service, with the length test its payload meets or fails. -/
theorem requestOf_of_info (is : requestInfo c = some q) :
    ∃ x, requestOf c = some (q.link, q.tag, x) ∧ x.kind = q.kind ∧ x.cls = q.cls ∧ x.lineOnly = q.lineOnly ∧
      x.fits = c.wellFormed := by
  cases c <;> cases is <;> exact ⟨_, rfl, rfl, rfl, rfl, rfl⟩

theorem lineOnly_iff (is : requestInfo c = some q) :
    q.lineOnly = true ↔ q.kind = 0x45 ∨ q.kind = 0x46 ∨ q.kind = 0x47 := by
  cases c <;> cases is <;> simp

theorem State.mayTake_iff (s : State) (l : LinkId) : s.mayTake l = true ↔
    (s.half l).requests = [] ∧ (s.half l).replies.length < 4 ∧ (s.half l).resetWait = false := by
  unfold State.mayTake State.mayReply
  simp only [Bool.and_eq_true, List.isEmpty_iff, decide_eq_true_eq, Bool.not_eq_true']
  exact Iff.rfl

/-- A 16-bit field is its two bytes, high byte first (R199). -/
theorem field16_of {p : List Byte} {n : Nat} {a b : Byte} (at_ : slice p n 2 = [a, b]) : field16 p n = a ++ b := by
  refine BitVec.eq_of_toNat_eq ?_
  have ha := a.isLt
  have hb := b.isLt
  rw [field16, field, at_, BitVec.toNat_append, ← Nat.shiftLeft_add_eq_or_of_lt (by omega), Nat.shiftLeft_eq]
  simp only [beNat, List.foldl_cons, List.foldl_nil, BitVec.toNat_ofNat]
  omega

/-- A 32-bit field is its four bytes, high byte first (R199). -/
theorem field32_of {p : List Byte} {n : Nat} {a b c d : Byte} (at_ : slice p n 4 = [a, b, c, d]) :
    field32 p n = a ++ b ++ c ++ d := by
  refine BitVec.eq_of_toNat_eq ?_
  have ha := a.isLt
  have hb := b.isLt
  have hc := c.isLt
  have hd := d.isLt
  rw [field32, field, at_, BitVec.toNat_append, BitVec.toNat_append, BitVec.toNat_append,
    ← Nat.shiftLeft_add_eq_or_of_lt (by omega), ← Nat.shiftLeft_add_eq_or_of_lt (by omega),
    ← Nat.shiftLeft_add_eq_or_of_lt (by omega), Nat.shiftLeft_eq, Nat.shiftLeft_eq, Nat.shiftLeft_eq]
  simp only [beNat, List.foldl_cons, List.foldl_nil, BitVec.toNat_ofNat]
  omega

theorem beBytes_two (x : BitVec 16) : beBytes 2 x.toNat = [BitVec.ofNat 8 (x.toNat / 256), BitVec.ofNat 8 x.toNat] := by
  simp [beBytes]

theorem beBytes_four (x : BitVec 32) : beBytes 4 x.toNat =
    [BitVec.ofNat 8 (x.toNat / 256 ^ 3), BitVec.ofNat 8 (x.toNat / 256 ^ 2), BitVec.ofNat 8 (x.toNat / 256),
      BitVec.ofNat 8 x.toNat] := by
  simp [beBytes]

/-- A 32-bit number from its four bytes, high byte first. -/
theorem append_beBytes_four (x : BitVec 32) : BitVec.ofNat 8 (x.toNat / 256 ^ 3) ++ BitVec.ofNat 8 (x.toNat / 256 ^ 2) ++
    BitVec.ofNat 8 (x.toNat / 256) ++ BitVec.ofNat 8 x.toNat = x := by
  have lt := x.isLt
  rw [← field32_of (p := beBytes 4 x.toNat) (n := 0) (by rw [beBytes_four]; rfl)]
  refine BitVec.eq_of_toNat_eq ?_
  rw [field32, field, beBytes_four]
  simp only [slice, List.drop_zero, List.take, beNat, List.foldl_cons, List.foldl_nil, BitVec.toNat_ofNat]
  omega

/-- The two bytes of a 16-bit number, which give it back. -/
theorem exists_beBytes_two (x : BitVec 16) : ∃ a b : Byte, beBytes 2 x.toNat = [a, b] ∧ a ++ b = x :=
  ⟨_, _, beBytes_two x, append_beBytes x⟩

/-- The four bytes of a 32-bit number, which give it back. -/
theorem exists_beBytes_four (x : BitVec 32) : ∃ a b c d : Byte, beBytes 4 x.toNat = [a, b, c, d] ∧ a ++ b ++ c ++ d = x :=
  ⟨_, _, _, _, beBytes_four x, append_beBytes_four x⟩

/-- A request command's bytes spell it, where its payload has its kind's length (12.7). -/
theorem commandOf_of_requestOf {x : Service} (is : requestOf c = some (l, tag, x)) :
    commandOf l ⟨x.kind, tag, x.payload⟩ = if c.wellFormed then some c else none := by
  have two (m : BitVec 16) (f : BitVec 16 → Instr) : (match beBytes 2 m.toNat with
      | [a, b] => some (f (a ++ b))
      | _ => none) = some (f m) := by
    obtain ⟨a, b, bytes, rfl⟩ := exists_beBytes_two m
    rw [bytes]
  have four (m : BitVec 32) (f : BitVec 32 → Instr) : (match beBytes 4 m.toNat with
      | [a, b, c, d] => some (f (a ++ b ++ c ++ d))
      | _ => none) = some (f m) := by
    obtain ⟨a, b, c, d, bytes, rfl⟩ := exists_beBytes_four m
    rw [bytes]
  cases c <;> cases is
  case probe d => exact four d _
  case rollRead n => exact four n _
  case noticeMask m => exact two m _
  case tuneStation i g d a t =>
    obtain ⟨g1, g2, gain, rfl⟩ := exists_beBytes_two g
    obtain ⟨d1, d2, deadband, rfl⟩ := exists_beBytes_two d
    obtain ⟨t1, t2, tolerance, rfl⟩ := exists_beBytes_two t
    simp only [tuneStationService, gain, deadband, tolerance]
    rfl
  case releaseEntries n => exact four n _
  case reprint n p =>
    obtain ⟨a, b, c, d, seq, rfl⟩ := exists_beBytes_four n
    simp only [reprintService, seq]
    rfl
  case closeBatch m => exact two m _
  case loadJob p => simp [commandOf, loadJobService, Instr.wellFormed, Config.loadJobBytes]
  case setStation p => simp [commandOf, setStationService, Instr.wellFormed, Config.setStationBytes]
  case pinBatch c x y z =>
    obtain ⟨c1, c2, code, rfl⟩ := exists_beBytes_two c
    obtain ⟨x1, x2, light, rfl⟩ := exists_beBytes_two x
    obtain ⟨y1, y2, green, rfl⟩ := exists_beBytes_two y
    obtain ⟨z1, z2, blue, rfl⟩ := exists_beBytes_two z
    simp only [pinBatchService, code, light, green, blue]
    rfl
  case setBatchCode m => exact two m _
  all_goals rfl

/-- A request that a link may take is answered without its owner where its length or its class is refused (R193). -/
theorem answers_refused {x : Service} (st : Status) (is : requestOf c = some (l, tag, x)) (take : s.mayTake l = true)
    (refused : s.answer l x = (s, st, .empty)) : Answers c s l ⟨x.kind + 0x80, tag, st, .empty⟩ [] s := by
  refine ⟨_, exec_request is s, ?_⟩
  rw [s.request_of l tag x take, State.serve, refused]
  exact ⟨(State.pushReply_sameBut _ _ _ _ _ _).trans (State.endOfEvent_sameBut _),
    State.endOfEvent_replied s s [] l x.kind tag st .empty rfl⟩

/-- Settles O26: the two tests before the owner, and the queue for a request that comes too early. -/
theorem requestsAreTestedForLengthThenClass : Obligations.RequestsAreTestedForLengthThenClass := by
  intro c q s info
  obtain ⟨x, is, kind, cls, only, fits⟩ := requestOf_of_info info
  refine ⟨fun take ill => ?_, fun take well service class_ refused => ?_, fun wait => ?_, lineOnly_iff info, s.mayTake_iff⟩
  · rw [← kind]
    refine answers_refused .length is take ?_
    rw [State.answer, fits, ill]
    rfl
  · rw [← kind]
    refine answers_refused .denied is take ?_
    have denied : s.permits q.link x.cls x.lineOnly = false := by
      rw [service, cls, only]
      unfold State.permits
      cases k : q.cls with
      | monitor => exact absurd k class_
      | operate => rcases refused with no | yes <;> simp [*]
      | configure => rcases refused with no | yes <;> simp [*]
    rw [State.answer, fits, well, if_pos rfl, denied]
    rfl
  · have runs : exec c s =
        .next (s.putHalf q.link ((s.half q.link).enqueue ⟨x.kind, q.tag, x.payload⟩)).endOfEvent := by
      rw [exec_request is s, s.request_waits _ _ _ wait]
    obtain ⟨t, runs, frame, sender, others, receiver⟩ := receiver_event runs (LinkHalf.enqueue_sender _ _)
    refine ⟨t, runs, frame, fun k => ⟨(sender k).1, (sender k).2, others k⟩, fun room => ⟨x.payload, ?_, ?_⟩, fun full => ?_⟩
    · rw [LinkHalf.enqueue, if_pos (by exact room), kind] at receiver
      exact receiver
    · rw [← kind]
      exact commandOf_of_requestOf is
    · rw [LinkHalf.enqueue, if_neg (by exact Nat.not_lt.mpr full)] at receiver
      exact receiver

/-- A RESET that is taken queues its reply and lets its link take no further request (R198). -/
theorem reset_taken (s : State) (tag : Byte) (take : s.mayTake .line = true) :
    ∃ t, exec (.reset .line tag) s = .next t ∧ SameBut [.lnk] s t ∧ t.mayTake .line = false ∧
      Replied { s with lnk := { s.lnk with line := { s.lnk.line with resetWait := true } } } t .line
        ⟨0xC7, tag, .done, .empty⟩ [] := by
  let u := s.putHalf .line { s.half .line with resetWait := true }
  have replied := State.endOfEvent_replied u u [] .line 0x47 tag .done .empty rfl
  have runs : exec (.reset .line tag) s = .next (u.pushReply .line 0x47 tag .done .empty).endOfEvent := by
    rw [exec_request (x := resetService .line) rfl s, s.request_of _ _ _ take]
    rfl
  refine ⟨_, runs, ?_, ?_, replied⟩
  · exact (s.putHalf_sameBut .line _).trans ((State.pushReply_sameBut _ _ _ _ _ _).trans (State.endOfEvent_sameBut _))
  · obtain ⟨-, receiver⟩ := replied.1 .line
    obtain ⟨-, -, -, -, -, -, -, -, waits⟩ := receiver
    have waits : ((u.pushReply .line 0x47 tag .done .empty).endOfEvent.half .line).resetWait = true := waits
    rw [State.mayTake, State.mayReply, waits]
    simp

/-- NOTICE_MASK replaces the mask of its link, whose disabled kinds' slots go (R196). -/
theorem noticeMask_taken (s : State) (l : LinkId) (tag : Byte) (mask : BitVec 16) (take : s.mayTake l = true) :
    let h := s.half l
    let m := mask.extractLsb' 0 11
    ∃ t, exec (.noticeMask l tag mask) s = .next t ∧ SameBut [.lnk] s t ∧
      { h with mask := m }.sameReceiver (t.half l) ∧
      (t.half l).outgoing = h.outgoing ++ [⟨0x8C, tag, .done, .noticeMask m⟩] ∧
      (∀ n, (t.half l).Shows n ↔ (n ∈ h.slots ∧ m.getLsbD n.kindIndex = true) ∨ ∃ body, h.tx = some (.notice n body)) ∧
      ∀ k, k ≠ l → (s.half k).sameReceiver (t.half k) ∧ (t.half k).outgoing = (s.half k).outgoing ∧
        ∀ n, (t.half k).Shows n ↔ (s.half k).Shows n := by
  intro h m
  have same : mask.setWidth 11 = m := BitVec.setWidth_eq_extractLsb' (by decide)
  let u := s.putHalf l (h.setMask m)
  let x := { h.setMask m with replies := h.replies ++ [(⟨0x8C, tag, .done, .noticeMask m⟩ : Reply)] }
  have written : u.half l = h.setMask m := by rw [State.half_putHalf, if_pos rfl]
  have runs : exec (.noticeMask l tag mask) s = .next (u.putHalf l x).endOfEvent := by
    rw [exec_request (x := noticeMaskService l mask) rfl s, s.request_of _ _ _ take,
      s.serve_of _ _ _ rfl (by cases l <;> rfl)]
    simp only [noticeMaskService, done_fst, done_status, done_body, same, State.pushReply]
    rw [show (s.putHalf l ((s.half l).setMask m)).half l = h.setMask m from written]
    rfl
  refine ⟨_, runs, (s.putHalf_sameBut l _).trans ((State.putHalf_sameBut _ _ _).trans (State.endOfEvent_sameBut _)), ?_⟩
  obtain ⟨out, receiver, shown⟩ := u.half_putHalf_endOfEvent l l x
  rw [if_pos rfl] at out receiver
  simp only [if_true] at shown
  refine ⟨receiver, out.trans ?_, fun n => (shown n).trans ?_, fun k other => ?_⟩
  · simp [x, LinkHalf.outgoing, LinkHalf.setMask]
  · simp [x, LinkHalf.Shows, LinkHalf.setMask]
  · obtain ⟨out, receiver, shown⟩ := u.half_putHalf_endOfEvent l k x
    have kept : u.half k = s.half k := by rw [State.half_putHalf, if_neg other]
    rw [if_neg other, kept] at out receiver
    simp only [if_neg other, kept] at shown
    exact ⟨receiver, out, shown⟩

/-- Settles O27: each of the four by its owner. -/
theorem linkRequestsChangeTheirItems : Obligations.LinkRequestsChangeTheirItems := by
  refine ⟨fun s tag take => ⟨?_, ?_, reset_taken s tag take⟩, noticeMask_taken⟩
  · exact answers_of grantService [] rfl take rfl rfl rfl
  · exact answers_of revokeService [] rfl take rfl rfl rfl

/-! ### A queued request, taken -/

theorem field16_cons_succ (a : Byte) (p : List Byte) (n : Nat) : field16 (a :: p) (n + 1) = field16 p n := rfl

theorem field16_cons_cons (a b : Byte) (p : List Byte) : field16 (a :: b :: p) 0 = a ++ b := field16_of rfl

theorem field32_cons (a b c d : Byte) (p : List Byte) : field32 (a :: b :: c :: d :: p) 0 = a ++ b ++ c ++ d :=
  field32_of rfl

/-- The service that a queued request spells is that of the command it spells. -/
theorem serviceOf_of_commandOf {r : RawRequest} (is : commandOf l r = some c) :
    ∃ x, serviceOf l r.kind r.payload = some x ∧ requestOf c = some (l, r.tag, x) := by
  obtain ⟨kind, tag, p⟩ := r
  simp only [commandOf] at is
  split at is
  case h_37 => cases is
  all_goals
    split at is <;> cases is
    refine ⟨_, ?_, rfl⟩
    simp only [serviceOf, field16_cons_succ, field16_cons_cons, field32_cons, *] <;> rfl

theorem eq_map_getD {p : List Byte} {n : Nat} (length : p.length = n) : p = (List.range n).map fun k => p.getD k 0 := by
  refine List.ext_getElem (by simp [length]) fun k h _ => ?_
  simp [h]

/-- A queued request that spells a kind and no command has a payload of another length. -/
theorem unfit_of_commandOf {r : RawRequest} {x : Service} (is : serviceOf l r.kind r.payload = some x)
    (none_ : commandOf l r = none) : x.kind = r.kind ∧ x.fits = false := by
  obtain ⟨kind, tag, p⟩ := r
  unfold serviceOf at is
  split at is
  case h_29 code | h_30 code =>
    simp only at code
    cases is
    simp only [commandOf, code] at none_
    refine ⟨BitVec.eq_of_toNat_eq code.symm, Bool.eq_false_iff.mpr fun fit => ?_⟩
    rw [if_pos (by exact beq_iff_eq.mp fit)] at none_
    cases none_
  case h_37 => cases is
  all_goals
    rename_i code
    simp only at code
    cases is
    simp only [commandOf, code] at none_
    refine ⟨BitVec.eq_of_toNat_eq code.symm, ?_⟩
    split at none_ <;> try cases none_
    rename_i other
    refine Bool.eq_false_iff.mpr fun fit => ?_
    replace fit := beq_iff_eq.mp fit
    apply other
    exact eq_map_getD fit

theorem serviceOf_none {kind : Byte} {p : List Byte} (no : isRequestKind kind = false) : serviceOf l kind p = none := by
  unfold serviceOf
  split <;> simp_all [isRequestKind]

theorem serviceOf_some {kind : Byte} (p : List Byte) (yes : isRequestKind kind = true) : ∃ x, serviceOf l kind p = some x := by
  unfold serviceOf
  split
  case h_37 =>
    simp only [isRequestKind, Bool.or_eq_true, Bool.and_eq_true, decide_eq_true_eq] at yes
    simp only [imp_false] at *
    omega
  all_goals exact ⟨_, rfl⟩

/-- What a link makes of the request at the head of its queue (R192). -/
theorem State.takeRequest_cons {r : RawRequest} {rest : List RawRequest} (queued : (s.half l).requests = r :: rest)
    (may : s.mayReply l = true) : s.takeRequest l =
      match serviceOf l r.kind r.payload with
      | some x => (s.putHalf l { s.half l with requests := rest }).serve l r.tag x
      | none => (s.putHalf l { s.half l with requests := rest }).pushReply l r.kind r.tag .illegal .empty := by
  unfold State.takeRequest
  rw [queued]
  simp only [may, if_true] <;> rfl

theorem State.takeRequest_waits (wait : (s.half l).requests = [] ∨ 4 ≤ (s.half l).replies.length ∨
    (s.half l).resetWait = true) : s.takeRequest l = s := by
  unfold State.takeRequest
  split
  · rfl
  next queued =>
    have no : s.mayReply l = false := by
      unfold State.mayReply
      rcases wait with none_ | full | waits
      · rw [queued] at none_
        cases none_
      · rw [decide_eq_false (by exact Nat.not_lt.mpr full)]
        rfl
      · simp [waits]
    rw [no]
    rfl

/-- Settles O28: the oldest request's kind and payload name the service that its command asks for. -/
theorem takenRequestIsItsCommand : Obligations.TakenRequestIsItsCommand := by
  intro s l
  refine ⟨fun wait => ⟨_, rfl, ?_⟩, ?_⟩
  · rw [State.takeRequest_waits wait]
    exact ⟨s.endOfEvent_sameBut, State.endOfEvent_silent s s [] rfl⟩
  intro r rest queued room free u
  have may : s.mayReply l = true := by simp [State.mayReply, Config.linkCap, room, free]
  have taken := State.takeRequest_cons queued may
  have runs : exec (.requestTake l) s = .next (s.takeRequest l).endOfEvent := rfl
  have removed : SameBut [.lnk] s u := s.putHalf_sameBut l _
  refine ⟨fun c is => ?_, fun ill => ?_, fun known none_ => ?_⟩
  · obtain ⟨x, service, request⟩ := serviceOf_of_commandOf is
    have acts : ∀ v : State, v.mayTake l = true → exec c v = .next (v.serve l r.tag x).endOfEvent := fun v take => by
      rw [exec_request request v, v.request_of l r.tag x take]
    rw [service] at taken
    refine ⟨fun last => ?_, x, service, acts, by rw [runs, taken]⟩
    have take : u.mayTake l = true := by
      rw [State.mayTake_iff, State.half_putHalf, if_pos rfl]
      exact ⟨last, room, free⟩
    rw [runs, taken, acts u take]
  · rw [serviceOf_none ill] at taken
    refine ⟨_, runs, ?_⟩
    rw [taken]
    exact ⟨removed.trans ((State.pushReply_sameBut _ _ _ _ _ _).trans (State.endOfEvent_sameBut _)),
      State.endOfEvent_replied u u [] l r.kind r.tag .illegal .empty rfl⟩
  · obtain ⟨x, service⟩ := serviceOf_some (l := l) r.payload known
    obtain ⟨kind, unfit⟩ := unfit_of_commandOf service none_
    have served : s.takeRequest l = u.pushReply l r.kind r.tag .length .empty := by
      rw [taken, service]
      simp only [State.serve, State.answer, unfit, Bool.false_eq_true, if_false, kind] <;> rfl
    refine ⟨_, runs, ?_⟩
    rw [served]
    exact ⟨removed.trans ((State.pushReply_sameBut _ _ _ _ _ _).trans (State.endOfEvent_sameBut _)),
      State.endOfEvent_replied u u [] l r.kind r.tag .length .empty rfl⟩

end

end Sys2Proof.Machine
end

section
/-! PROOFS. The arbiter of a link at the end of a frame: what it takes, and what a notice then carries (O31). -/

namespace Sys2Proof.Machine

-- one proof at a time: the joined package would else open a thread for each of them
set_option Elab.async false

/-! ### What a notice carries -/

/-- A test for equality decides it. -/
theorem beq_decides {α : Type} [BEq α] [LawfulBEq α] [DecidableEq α] (a b : α) : (a == b) = decide (a = b) := by
  rw [Bool.eq_iff_iff, beq_iff_eq, decide_eq_true_iff]

section
variable {s : State}

/-- The conditions of the nine hold causes, as the statements spell them (R183). -/
theorem State.conditions_eq (s : State) : s.conditions = conditionsOf s := by
  have lost : s.stationLostCond = decide (∃ i : StationId,
      (s.station i).isResident = true ∧ (s.station i).engaged = true ∧ (s.station i).st = .lost) := by
    rw [Bool.eq_iff_iff]
    simp [State.stationLostCond, and_assoc]
  have ref : (s.msc.refState == .lost) = decide (s.msc.refState = .lost) := by
    rw [Bool.eq_iff_iff]
    simp
  have head : (s.shu.head == .offline) = decide (s.shu.head = .offline) := by
    rw [Bool.eq_iff_iff]
    simp
  have printers : s.printerOfflineCond = decide (s.lbc.printerA.online = false ∨ s.lbc.printerB.online = false) := by
    rw [Bool.eq_iff_iff]
    simp [State.printerOfflineCond]
  unfold State.conditions conditionsOf
  rw [lost, ref, head, printers]

/-- The content of a notice is what the rule of the block raising it lists. -/
theorem State.noticeBody_eq (s : State) (n : Notice) : s.noticeBody n = contentOf s n := by
  cases n with
  | lineState => exact congrArg (fun c => NoticeBody.lineState _ _ c _ _) s.conditions_eq
  | stationAlarm i =>
    cases desc : (s.station i).desc <;> simp [State.noticeBody, contentOf, Station.isResident, desc]
  | embossAlarm => rfl
  | eventListFull => rfl
  | shadeDrift => rfl
  | shadeWarning => rfl
  | labelFault p =>
    simp only [State.noticeBody, contentOf, State.readyLevel, List.countP_eq_length_filter, beq_decides] <;> rfl
  | headFault => rfl
  | rollsClosed =>
    simp only [State.noticeBody, contentOf, List.countP_eq_length_filter, beq_decides,
      List.getLast?_eq_head?_reverse, ← List.filter_reverse, List.head?_filter]
    rfl
  | batchChanged =>
    simp only [State.noticeBody, contentOf, List.countP_eq_length_filter]
  | logSpace =>
    have releasable : Entry.releasable = fun e =>
        decide (e.state = .closed ∧ (e.label = .none ∨ e.label = .applied ∨ e.label = .missing)) := by
      funext e
      rw [Bool.eq_iff_iff]
      simp [Entry.releasable, or_assoc]
    simp only [State.noticeBody, contentOf, releasable]
    rfl

/-- Writing a link's half leaves what a notice carries. -/
theorem State.noticeBody_putHalf (s : State) (l : LinkId) (x : LinkHalf) : (s.putHalf l x).noticeBody = s.noticeBody := by
  funext n
  cases l <;> cases n <;> rfl

end

/-! ### The arbiter's order -/

theorem Notice.subject_lt (n : Notice) : n.subject < 256 := by
  cases n with
  | stationAlarm i =>
    have := i.isLt
    simp only [Notice.subject]
    omega
  | labelFault p => cases p <;> decide
  | _ => decide

/-- The arbiter's order is that of kinds, and within a kind of subjects (R195). -/
theorem Notice.rank_lt_iff (x y : Notice) :
    x.rank < y.rank ↔ x.kindIndex < y.kindIndex ∨ (x.kindIndex = y.kindIndex ∧ x.subject < y.subject) := by
  have := x.subject_lt
  have := y.subject_lt
  unfold Notice.rank
  omega

theorem Notice.pick_least {ns : List Notice} {m : Notice} (picked : Notice.pick ns = some m) :
    ∀ x ∈ ns, m.rank ≤ x.rank := by
  induction ns generalizing m with
  | nil => exact fun x member => absurd member List.not_mem_nil
  | cons n ns ih =>
    intro x member
    unfold Notice.pick at picked
    split at picked
    next none_ =>
      cases picked
      rw [Notice.pick_none none_] at member
      exact Nat.le_of_eq (by rw [List.mem_singleton.mp member])
    next k first =>
      have least := ih first
      split at picked <;> cases picked
      next below =>
        rcases List.mem_cons.mp member with rfl | later
        · exact Nat.le_of_lt below
        · exact least x later
      next above =>
        rcases List.mem_cons.mp member with rfl | later
        · exact Nat.le_refl _
        · exact Nat.le_trans (Nat.le_of_not_lt above) (least x later)

theorem Notice.pick_some {ns : List Notice} (some_ : ns ≠ []) : ∃ m, Notice.pick ns = some m := by
  cases picked : Notice.pick ns with
  | none => exact absurd (Notice.pick_none picked) some_
  | some m => exact ⟨m, rfl⟩

section
variable {h : LinkHalf} {body : Notice → NoticeBody}

/-- An idle transmitter with a high-priority notice pending takes the first (R195). -/
theorem LinkHalf.advance_high (idle : h.tx = none) {n : Notice} (pending : n ∈ h.slots) (high : n.kindIndex ≤ 6) :
    ∃ m ∈ h.slots, h.advance body = { h with tx := some (.notice m (body m)), slots := h.slots.erase m } ∧
      ∀ x ∈ h.slots, m.rank ≤ x.rank := by
  have isHigh : ∀ x : Notice, x.isHigh = true ↔ x.kindIndex ≤ 6 := fun x => decide_eq_true_iff
  have among : n ∈ h.slots.filter Notice.isHigh := List.mem_filter.mpr ⟨pending, (isHigh n).mpr high⟩
  obtain ⟨m, picked⟩ := Notice.pick_some (List.ne_nil_of_mem among)
  obtain ⟨here, first⟩ := List.mem_filter.mp (Notice.pick_mem picked)
  refine ⟨m, here, by rw [LinkHalf.advance, idle]; simp only [picked], fun x there => ?_⟩
  by_cases also : x.isHigh = true
  · exact Notice.pick_least picked x (List.mem_filter.mpr ⟨there, also⟩)
  · have := (isHigh m).mp first
    have := mt (isHigh x).mpr also
    exact Nat.le_of_lt ((Notice.rank_lt_iff m x).mpr (.inl (by omega)))

theorem filter_isHigh_none (low : ∀ n ∈ h.slots, 6 < n.kindIndex) : h.slots.filter Notice.isHigh = [] :=
  List.filter_eq_nil_iff.mpr fun n member high => Nat.not_lt.mpr (of_decide_eq_true high) (low n member)

/-- Without one it takes the oldest reply (R195). -/
theorem LinkHalf.advance_reply (idle : h.tx = none) (low : ∀ n ∈ h.slots, 6 < n.kindIndex) {r : Reply} {rest : List Reply}
    (replies : h.replies = r :: rest) : h.advance body = { h with tx := some (.reply r), replies := rest } := by
  rw [LinkHalf.advance, idle, filter_isHigh_none low]
  simp only [Notice.pick, replies]

/-- Without either it takes the first low-priority notice (R195). -/
theorem LinkHalf.advance_low (idle : h.tx = none) (low : ∀ n ∈ h.slots, 6 < n.kindIndex) (none_ : h.replies = [])
    {n : Notice} (pending : n ∈ h.slots) :
    ∃ m ∈ h.slots, h.advance body = { h with tx := some (.notice m (body m)), slots := h.slots.erase m } ∧
      ∀ x ∈ h.slots, m.rank ≤ x.rank := by
  obtain ⟨m, picked⟩ := Notice.pick_some (List.ne_nil_of_mem pending)
  refine ⟨m, Notice.pick_mem picked, ?_, Notice.pick_least picked⟩
  rw [LinkHalf.advance, idle, filter_isHigh_none low]
  simp only [Notice.pick, none_, picked]

/-- With nothing to send it stays idle. -/
theorem LinkHalf.advance_idle (idle : h.tx = none) (none_ : h.replies = []) (empty : h.slots = []) : h.advance body = h := by
  rw [LinkHalf.advance, idle, empty]
  simp only [List.filter_nil, Notice.pick, none_]

end

/-- The bytes of a frame: its kind, its tag and its payload, of at most 250 bytes (R191, R196). -/
theorem frame_bytes (f : Frame) :
    (∀ n body, f = .notice n body → f.kind.toNat = 0x60 + n.kindIndex ∧ f.tag = 0 ∧ n.subject < 256 ∧
      f.payload = BitVec.ofNat 8 n.subject :: body.bytes) ∧
    (∀ r, f = .reply r → f.kind = r.kind ∧ f.tag = r.tag ∧ f.payload = r.status.code :: r.body.bytes) ∧
    (f.payload.length ≤ 250 → f.bytes = some (frameBytes f.kind f.tag f.payload)) ∧
    (250 < f.payload.length → f.bytes = none) := by
  refine ⟨?_, ?_, fun short => if_pos short, fun long => if_neg (Nat.not_le.mpr long)⟩
  · rintro n body rfl
    refine ⟨?_, rfl, n.subject_lt, rfl⟩
    cases n <;> rfl
  · rintro r rfl
    exact ⟨rfl, rfl, rfl⟩

/-- Settles O31: the arbiter meets the half that the frame has left. -/
theorem frameSentLetsTheArbiterChoose : Obligations.FrameSentLetsTheArbiterChoose := by
  refine ⟨frame_bytes, fun s l => ?_⟩
  intro h
  refine ⟨fun idle => ⟨s.endOfEvent, ?_, s.endOfEvent_sameBut, State.endOfEvent_silent s s [] rfl⟩,
    fun r sending waits kind status => ?_, fun f sending goes => ?_⟩
  · have runs : execFrameSent l s = .next s.endOfEvent := by
      simp only [execFrameSent, show (s.half l).tx = none from idle]
    exact runs
  · have isReset : (Frame.reply r).isReset = true := by simp [Frame.isReset, kind, status]
    have runs : execFrameSent l s = .next (State.resetWith s.pins s.pending).endOfEvent := by
      simp only [execFrameSent, show (s.half l).tx = _ from sending, show (s.half l).resetWait = true from waits, isReset,
        Bool.and_self, if_true]
    exact runs
  · have stays : (h.resetWait && f.isReset) = false := by
      rcases goes with free | other
      · rw [free]
        rfl
      · cases f with
        | notice n body => exact Bool.and_false _
        | reply r =>
          have no := other r rfl
          simp only [Frame.isReset]
          rw [Bool.and_eq_false_iff]
          right
          simpa using no
    have runs : exec (.frameSent l) s = .next (s.putHalf l { h with tx := none }).endOfEvent := by
      show execFrameSent l s = _
      simp only [execFrameSent, show (s.half l).tx = _ from sending]
      rw [show ((s.half l).resetWait && f.isReset) = false from stays]
      rfl
    have at_ : (s.putHalf l { h with tx := none }).endOfEvent.half l =
        { h with tx := none }.advance (contentOf s) := by
      rw [State.half_endOfEvent, State.half_putHalf, if_pos rfl, State.noticeBody_putHalf]
      exact congrArg _ (funext s.noticeBody_eq)
    refine ⟨_, runs, (s.putHalf_sameBut l _).trans (State.endOfEvent_sameBut _), fun k other => ?_, ?_, ?_⟩
    · obtain ⟨out, receiver, shown⟩ := s.half_putHalf_endOfEvent l k { h with tx := none }
      rw [if_neg other] at out receiver
      simp only [if_neg other] at shown
      exact ⟨receiver, out, shown⟩
    · obtain ⟨-, receiver, -⟩ := s.half_putHalf_endOfEvent l l { h with tx := none }
      rw [if_pos rfl] at receiver
      exact receiver
    rw [at_]
    refine ⟨fun n pending high => ?_, fun low => ⟨fun r rest replies => ?_, fun none_ => ⟨fun n pending => ?_, fun empty => ?_⟩⟩,
      Notice.rank_lt_iff⟩
    · obtain ⟨m, here, is, least⟩ := LinkHalf.advance_high (h := { h with tx := none }) (body := contentOf s) rfl pending high
      rw [is]
      exact ⟨m, here, rfl, rfl, rfl, least⟩
    · rw [LinkHalf.advance_reply (h := { h with tx := none }) rfl low replies]
      exact ⟨rfl, rfl, rfl⟩
    · obtain ⟨m, here, is, least⟩ :=
        LinkHalf.advance_low (h := { h with tx := none }) (body := contentOf s) rfl low none_ pending
      rw [is]
      exact ⟨m, here, rfl, rfl, none_, least⟩
    · rw [LinkHalf.advance_idle (h := { h with tx := none }) rfl none_ empty]
      exact ⟨rfl, none_, empty⟩

end Sys2Proof.Machine
end

section
/-! PROOFS. The correction arithmetic, stage by stage (O35). -/

namespace Sys2Proof.Machine

-- one proof at a time: the joined package would else open a thread for each of them
set_option Elab.async false

/-- A magnitude divided to the nearest integer is off by at most a half (R46, R48). -/
theorem nearest_off (a : Nat) {n : Nat} (pos : 0 < n) :
    n * ((a + n / 2) / n) ≤ a + n / 2 ∧ a + n / 2 < n * ((a + n / 2) / n) + n := by
  have parts := Nat.div_add_mod (a + n / 2) n
  have below := Nat.mod_lt (a + n / 2) pos
  omega

/-- The mean is the nearest integer to the sum over the number of samples (R46). -/
theorem cauMean_nearest (samples : List Int) (some_ : samples ≠ []) :
    2 * ((samples.length : Int) * cauMean samples - samples.foldl (· + ·) 0).natAbs ≤ samples.length := by
  have pos : 0 < samples.length := List.length_pos_iff.mpr some_
  unfold cauMean
  generalize samples.foldl (· + ·) 0 = sum
  generalize samples.length = n at pos ⊢
  obtain ⟨low, high⟩ := nearest_off sum.natAbs pos
  simp only
  have scaled : ((n * ((sum.natAbs + n / 2) / n) : Nat) : Int) = (n : Int) * (((sum.natAbs + n / 2) / n : Nat) : Int) :=
    Int.natCast_mul _ _
  generalize (sum.natAbs + n / 2) / n = q at low high scaled ⊢
  generalize n * q = nq at low high scaled
  rcases Int.lt_trichotomy sum 0 with neg | zero | positive
  · rw [Int.sign_eq_neg_one_of_neg neg, Int.neg_mul, Int.one_mul, Int.mul_neg, ← scaled]
    omega
  · rw [zero]
    simp
  · rw [Int.sign_eq_one_of_pos positive, Int.one_mul, ← scaled]
    omega

/-- A magnitude limited, with the sign kept (R49, R50). -/
theorem sign_mul_of_exceeds {x : Int} {limit : Nat} (exceeds : limit < x.natAbs) :
    x.sign * limit = if 0 < x then (limit : Int) else -(limit : Int) := by
  split
  next pos => rw [Int.sign_eq_one_of_pos pos, Int.one_mul]
  next low => rw [Int.sign_eq_neg_one_of_neg (by omega), Int.neg_mul, Int.one_mul]

/-- Stage 6, by what it lets through (R49). -/
theorem cauStepLimit_eq (c : Int) (limit : Nat) : cauStepLimit c limit =
    (if limit < c.natAbs then (if 0 < c then (limit : Int) else -(limit : Int)) else c, decide (limit < c.natAbs)) := by
  unfold cauStepLimit
  split
  next exceeds => rw [sign_mul_of_exceeds exceeds, decide_eq_true exceeds]
  next fits => rw [decide_eq_false fits]

/-- Stage 7, by what it leaves of the correction (R50). -/
theorem cauTrimLimit_eq (c trim : Int) (limit : Nat) : cauTrimLimit c trim limit =
    (if limit < (trim + c).natAbs then (if 0 < trim + c then (limit : Int) else -(limit : Int)) - trim else c,
      decide (limit < (trim + c).natAbs)) := by
  unfold cauTrimLimit
  split
  next exceeds => rw [sign_mul_of_exceeds exceeds, decide_eq_true exceeds]
  next fits => rw [decide_eq_false fits]

/-- Stages 6 to 8 with their flags (R49 to R52). -/
theorem cauFinish_stages (c trim : Int) (stepLimit trimLimit ratio : Nat) :
    let c6 : Int := if stepLimit < c.natAbs then (if 0 < c then (stepLimit : Int) else -(stepLimit : Int)) else c
    let clipped := trimLimit < (trim + c6).natAbs
    let c7 : Int := if clipped then (if 0 < trim + c6 then (trimLimit : Int) else -(trimLimit : Int)) - trim else c6
    let n := (c7.natAbs * ratio + 128) / 256
    let r := cauFinish c trim stepLimit trimLimit ratio
    r.train = (if n = 0 then none else some (n, c7)) ∧
      (r.flags.saturated = true ↔ stepLimit < c.natAbs) ∧ (r.flags.atLimit = true ↔ clipped) ∧
      (r.flags.belowStep = true ↔ n = 0 ∧ ¬(clipped ∧ c7 = 0)) := by
  intro c6 clipped c7 n r
  have six : cauStepLimit c stepLimit = (c6, decide (stepLimit < c.natAbs)) := cauStepLimit_eq c stepLimit
  have seven : cauTrimLimit c6 trim trimLimit = (c7, decide clipped) := cauTrimLimit_eq c6 trim trimLimit
  have result : r = if (decide clipped && c7 == 0) = true then
        { train := none, flags := { saturated := decide (stepLimit < c.natAbs), atLimit := true } }
      else if n = 0 then
        { train := none, flags := { saturated := decide (stepLimit < c.natAbs), atLimit := decide clipped, belowStep := true } }
      else { train := some (n, c7), flags := { saturated := decide (stepLimit < c.natAbs), atLimit := decide clipped } } := by
    show cauFinish c trim stepLimit trimLimit ratio = _
    unfold cauFinish
    rw [six]
    simp only [seven]
    rfl
  rw [result]
  split
  next exhausted =>
    obtain ⟨clips, nothing⟩ : clipped ∧ c7 = 0 := by simpa using exhausted
    have none_ : n = 0 := by simp [n, nothing]
    simp [clips, nothing, none_]
  next left =>
    have left : ¬(clipped ∧ c7 = 0) := by simpa using left
    split
    next none_ => simp [none_, left]
    next steps => simp [steps]

/-- From a trim within its limit no correction exceeds the step limit (R49). -/
theorem cauFinish_step_bound (c trim : Int) (stepLimit trimLimit : Nat) (within_ : trim.natAbs ≤ trimLimit) :
    (cauTrimLimit (cauStepLimit c stepLimit).1 trim trimLimit).1.natAbs ≤ stepLimit := by
  rw [cauTrimLimit_eq, cauStepLimit_eq]
  simp only
  (repeat' split) <;> omega

/-- Stages 3 to 5: the product scaled to the nearest, its sign turned (R48). -/
theorem cauCorrection_spec (mean : Int) (gain : Nat) :
    (cauCorrection mean gain).natAbs = (mean.natAbs * gain + 2048) / 4096 ∧ 0 ≤ -mean * cauCorrection mean gain := by
  have size : (mean * gain).natAbs = mean.natAbs * gain := by rw [Int.natAbs_mul, Int.natAbs_natCast]
  unfold cauCorrection
  simp only [size, Int.zero_sub, Int.natAbs_neg, Int.neg_mul_neg]
  generalize scaled : (mean.natAbs * gain + 2048) / 4096 = q
  rcases Int.lt_trichotomy (mean * gain) 0 with neg | zero | pos
  · have low : mean < 0 := by
      refine Classical.byContradiction fun high => ?_
      exact absurd (Int.mul_nonneg (Int.not_lt.mp high) (Int.natCast_nonneg gain)) (Int.not_le.mpr neg)
    rw [Int.sign_eq_neg_one_of_neg neg]
    refine ⟨by simp, Int.mul_nonneg_of_nonpos_of_nonpos (Int.le_of_lt low) (by omega)⟩
  · rw [zero, Int.sign_zero]
    rw [zero, Int.natAbs_zero] at size
    rw [← size] at scaled
    simp [← scaled]
  · have high : 0 ≤ mean := by
      refine Classical.byContradiction fun low => ?_
      exact absurd (Int.mul_nonpos_of_nonpos_of_nonneg (Int.le_of_lt (Int.not_le.mp low)) (Int.natCast_nonneg gain))
        (Int.not_le.mpr pos)
    rw [Int.sign_eq_one_of_pos pos]
    exact ⟨by simp, Int.mul_nonneg high (by omega)⟩

/-- Settles O35: stage by stage. -/
theorem correctionArithmeticHasItsBounds : Obligations.CorrectionArithmeticHasItsBounds := by
  refine ⟨fun samples some_ => ⟨rfl, cauMean_nearest samples some_⟩, fun samples trim t => rfl,
    fun c trim stepLimit trimLimit ratio => ?_, fun mean gain => ?_, fun note k n within_ _ => ?_, fun note n pos => ?_⟩
  · obtain ⟨train, saturated, atLimit, belowStep⟩ := cauFinish_stages c trim stepLimit trimLimit ratio
    have trim_ := cauTrimLimit_bound (cauStepLimit c stepLimit).1 trim trimLimit
    have step := cauFinish_step_bound c trim stepLimit trimLimit
    rw [cauTrimLimit_eq, cauStepLimit_eq] at trim_ step
    exact ⟨train, saturated, atLimit, belowStep, trim_, step⟩
  · obtain ⟨size, sign⟩ := cauCorrection_spec mean gain
    refine ⟨Int.zero_sub _, size, ?_, ?_, sign⟩ <;> rw [size] <;> omega
  · obtain ⟨m, rfl⟩ := Nat.exists_eq_add_of_le within_
    have between := prorate_between note k m
    omega
  · unfold prorate
    rw [Nat.mul_zero, Nat.zero_div, Nat.mul_div_cancel _ pos, Int.sign_mul_natAbs]
    simp

end Sys2Proof.Machine
end

section
/-! PROOFS. The batch table: assignments (O40) and its requests (O60). -/

namespace Sys2Proof.Machine

-- one proof at a time: the joined package would else open a thread for each of them
set_option Elab.async false

/-! ### The first entry of a kind -/

/-- The first index of a property, found by a search in index order. -/
theorem find_finRange {n : Nat} {p : Fin n → Bool} {i : Fin n} (here : p i = true) (before : ∀ k, k < i → p k = false) :
    (List.finRange n).find? p = some i := by
  refine List.find?_eq_some_iff_getElem.mpr ⟨here, i.val, by simp, by simp, fun k lt => ?_⟩
  have below := before ⟨k, Nat.lt_trans lt i.isLt⟩ lt
  simpa using below

theorem find_finRange_none {n : Nat} {p : Fin n → Bool} (nowhere : ∀ k, p k = false) : (List.finRange n).find? p = none :=
  List.find?_eq_none.mpr fun k _ => by rw [nowhere k]; exact Bool.false_ne_true

section
variable {s : State} {b : Bat} {i : Fin 32}

/-! ### Operations of the table on one entry -/

theorem Bat.put_put (b : Bat) (i : Fin 32) (e f : BatchEntry) : (b.put i e).put i f = b.put i f := by
  unfold Bat.put
  rw [Vector.set_set]

/-- The entry of an OPEN batch closes, with the line batch that it was (R154, R157). -/
theorem Bat.close_open {x : Batch} (held : b.entries[i].batch = some x) (isOpen : x.isOpen = true) : b.close i =
    { b.put i { b.entries[i] with batch := some { x with isOpen := false }, changed := true } with
      lineBatch := if b.lineBatch = some i then none else b.lineBatch } := by
  unfold Bat.close
  rw [held]
  simp only [isOpen, if_true]

theorem Bat.close_closed {x : Batch} (held : b.entries[i].batch = some x) (isOpen : x.isOpen = false) : b.close i = b := by
  unfold Bat.close
  rw [held]
  simp only [isOpen, Bool.false_eq_true, if_false]

theorem Bat.full_eq {x : Batch} (held : b.entries[i].batch = some x) (isOpen : x.isOpen = true) (limit : Nat) :
    b.full i limit = decide (limit ≤ x.count) := by
  unfold Bat.full
  rw [held]
  simp [isOpen]

theorem Bat.lineReport_eq {x : Batch} (held : b.entries[i].batch = some x) (line : b.lineBatch = some i) :
    b.lineReport = some ⟨x.code, x.ref⟩ := by
  unfold Bat.lineReport
  rw [line]
  simp only
  rw [held]
  rfl

theorem State.reportLineBatch_shu (s : State) (r : Option LineBatch) : (s.reportLineBatch r).shu = shadeTold s.shu r := by
  unfold State.reportLineBatch shadeTold
  split <;> rfl

theorem State.reportLineBatch_eq (s : State) (r : Option LineBatch) :
    s.reportLineBatch r = { s with shu := shadeTold s.shu r } := by
  unfold State.reportLineBatch shadeTold
  split <;> rfl

theorem raised_one (k : Lnk) (n : Notice) : k.raised [n] = { line := k.line.raise n, service := k.service.raise n } := rfl

/-- What an assignment settles once its entry is joined or opened: the limit, the report and the notice (R152 to R157). -/
theorem State.settleAssign_spec (s : State) (j : Job) {x : Batch} (held : b.entries[i].batch = some x)
    (isOpen : x.isOpen = true) (line : b.lineBatch = some i) (opened : Bool) :
    let full := decide (j.rollsPerBatch ≤ x.count)
    s.settleAssign j b i opened =
      { s with
        bat := if full then { b.put i { b.entries[i] with batch := some { x with isOpen := false }, changed := true } with
          lineBatch := none } else b
        shu := shadeTold s.shu (if full then none else some ⟨x.code, x.ref⟩)
        lnk := s.lnk.raised (if opened || full then [.batchChanged] else []) } := by
  intro full
  have isFull : b.full i j.rollsPerBatch = full := Bat.full_eq held isOpen _
  unfold State.settleAssign Bat.applyLimit
  simp only [isFull, State.reportLineBatch_eq]
  cases full with
  | true =>
    simp only [Bool.or_true, if_true, Bat.close_open held isOpen, line]
    rfl
  | false =>
    simp only [Bool.or_false, Bool.false_eq_true, if_false]
    rw [← Bat.lineReport_eq held line]
    cases opened <;> rfl

/-- The squared distance of two shades (R108). -/
theorem shadeDist2_eq (x y : Shade) :
    (shadeDist2 x y : Int) = (x.l - y.l) ^ 2 + (x.a - y.a) ^ 2 + (x.b - y.b) ^ 2 := by
  have square (a : Int) : ((a.natAbs ^ 2 : Nat) : Int) = a ^ 2 := (Int.natCast_pow _ 2).trans (Int.natAbs_pow_two a)
  unfold shadeDist2
  rw [Int.natCast_add, Int.natCast_add, square, square, square]

/-- The first entry near a mean is found (R151). -/
theorem Bat.firstMatch_eq (b : Bat) (j : Job) (mean : Shade) {near : Fin 32 → Batch → Prop}
    (near_iff : ∀ i x, near i x ↔ b.entries[i].batch = some x ∧ x.isOpen = true ∧ shadeDist2 mean x.ref ≤ j.tolB ^ 2) :
    (∀ i x, near i x → (∀ k y, k < i → ¬near k y) → b.firstMatch (j.tolB ^ 2) mean = some i) ∧
      ((∀ k y, ¬near k y) → b.firstMatch (j.tolB ^ 2) mean = none) := by
  have at_ : ∀ k, (b.entries[k].batch.any fun x => x.isOpen && decide (shadeDist2 mean x.ref ≤ j.tolB ^ 2)) = true ↔
      ∃ y, near k y := fun k => by simp [near_iff, Option.any_eq_true]
  refine ⟨fun i x here before => find_finRange ((at_ i).mpr ⟨x, here⟩) fun k lt => ?_, fun nowhere =>
    find_finRange_none fun k => ?_⟩
  · exact Bool.eq_false_iff.mpr fun yes => ((at_ k).mp yes).elim fun y => before k y lt
  · exact Bool.eq_false_iff.mpr fun yes => ((at_ k).mp yes).elim fun y => nowhere k y

/-- The table after a roll has joined entry i, which closes with it where it is full then (R151, R154). -/
theorem Bat.join_settled {x : Batch} (isOpen : x.isOpen = true) (roll : Nat) (full : Bool) :
    (if full then { (b.join i x roll).put i
        { (b.join i x roll).entries[i] with
          batch := some { x with count := x.count + 1, isOpen := false }, changed := true } with lineBatch := none }
      else b.join i x roll) =
    { b with
      entries := b.entries.set i { b.entries[i] with
        batch := some { x with count := x.count + 1, isOpen := !full }
        used := true, changed := b.entries[i].changed || full }
      lineBatch := if full then none else some i, lastAssign := some ⟨roll, x.code, .joined⟩ } := by
  have now : (b.join i x roll).entries[i] =
      { b.entries[i] with batch := some { x with count := x.count + 1 }, used := true } := by
    unfold Bat.join
    rw [Bat.entries_put, if_pos rfl]
  obtain ⟨o, code, ref, count, pinned⟩ := x
  cases isOpen
  cases full with
  | false =>
    simp only [Bool.false_eq_true, if_false, Bool.or_false, Bool.not_false]
    rfl
  | true =>
    rw [if_pos rfl, now]
    simp only [Bat.join, Bat.put, Vector.set_set, Bool.or_true, Bool.not_true, if_true]

/-- The table after entry i has been opened, which closes with that where one roll fills it (R152, R154). -/
theorem Bat.openWith_settled (roll : Nat) (mean : Shade) (full : Bool) :
    (if full then { (b.openWith i roll mean).put i
        { (b.openWith i roll mean).entries[i] with
          batch := some ⟨false, b.freeCode 33 b.nextCode, mean, 1, false⟩, changed := true } with lineBatch := none }
      else b.openWith i roll mean) =
    { b with
      entries := b.entries.set i ⟨some ⟨!full, b.freeCode 33 b.nextCode, mean, 1, false⟩, true, true⟩
      nextCode := (b.openWith i roll mean).nextCode, lineBatch := if full then none else some i
      lastAssign := some ⟨roll, b.freeCode 33 b.nextCode, .opened⟩ } := by
  have now : (b.openWith i roll mean).entries[i] =
      { batch := some ⟨true, b.freeCode 33 b.nextCode, mean, 1, false⟩, used := true, changed := true } := by
    unfold Bat.openWith
    exact (Bat.entries_put _ _ _ _).trans (if_pos rfl)
  cases full with
  | false =>
    simp only [Bool.false_eq_true, if_false, Bool.not_false]
    rfl
  | true =>
    rw [if_pos rfl, now]
    simp only [Bat.openWith, Bat.put, Vector.set_set, Bool.not_true, if_true]

/-- Closing an entry keeps which codes are held. -/
theorem Bat.held_put {e : BatchEntry} (c : Bat) {x y : Batch} (entries : c.entries = (b.put i e).entries)
    (was : b.entries[i].batch = some x) (is : e.batch = some y) (same : y.code = x.code) (code : Nat) :
    Held c code ↔ Held b code := by
  have at_ : ∀ k : Fin 32, c.entries[k] = if k = i then e else b.entries[k] := fun k => by
    rw [entries]
    exact Bat.entries_put b i k e
  unfold Held
  constructor
  · rintro ⟨k, z, held, code⟩
    rw [at_ k] at held
    split at held
    next here =>
      rw [is] at held
      cases held
      exact ⟨i, x, was, same.symm.trans code⟩
    next => exact ⟨k, z, held, code⟩
  · rintro ⟨k, z, held, code⟩
    by_cases here : k = i
    · subst here
      rw [was] at held
      cases held
      exact ⟨k, y, by rw [at_ k, if_pos rfl]; exact is, same.trans code⟩
    · exact ⟨k, z, by rw [at_ k, if_neg here]; exact held, code⟩

theorem FirstUnheld.congr {c : Bat} (same : ∀ code, Held c code ↔ Held b code) {start code : Nat}
    (first : FirstUnheld b start code) : FirstUnheld c start code := by
  obtain ⟨n, is, free, before⟩ := first
  exact ⟨n, is, fun held => free ((same _).mp held), fun m lt => (same _).mpr (before m lt)⟩

end

/-- Settles O40: by the first near entry, else the first FREE one. -/
theorem aRollIsGivenABatch : Obligations.ARollIsGivenABatch := by
  intro s j roll mean near t given
  have near_iff : ∀ i x, near i x ↔ s.bat.entries[i].batch = some x ∧ x.isOpen = true ∧ shadeDist2 mean x.ref ≤ j.tolB ^ 2 :=
    fun i x => by
      simp only [near, ← shadeDist2_eq]
      norm_cast
  obtain ⟨found, none_⟩ := s.bat.firstMatch_eq j mean near_iff
  refine ⟨(s.assignBatch_affects j roll mean).1.mono (by decide), fun i x here before => ?_, fun i nowhere free before => ?_,
    fun nowhere full => ?_⟩
  · intro full
    obtain ⟨held, isOpen, -⟩ := (near_iff i x).mp here
    have assigned : s.assignBatch j roll mean = (s.settleAssign j (s.bat.join i x roll) i false, x.code) := by
      unfold State.assignBatch
      rw [found i x here before]
      simp only [held]
    have now : (s.bat.join i x roll).entries[i] =
        { s.bat.entries[i] with batch := some { x with count := x.count + 1 }, used := true } := by
      unfold Bat.join
      rw [Bat.entries_put, if_pos rfl]
    have settled := s.settleAssign_spec j (b := s.bat.join i x roll) (i := i) (congrArg BatchEntry.batch now) isOpen rfl false
    have is : t = _ := (congrArg Prod.fst assigned).trans settled
    refine ⟨congrArg Prod.snd assigned, State.silent_of_raised ?_, ?_, ?_⟩
    · rw [is, Bool.false_or]
    · rw [is]
    · rw [is]
      exact Bat.join_settled isOpen roll full
  · intro full
    have assigned : s.assignBatch j roll mean =
        (s.settleAssign j (s.bat.openWith i roll mean) i true, s.bat.freeCode 33 s.bat.nextCode) := by
      have first : s.bat.firstFree = some i := by
        refine find_finRange (by rw [free]; rfl) fun k lt => ?_
        cases is : s.bat.entries[k].batch with
        | none => exact absurd is (before k lt)
        | some y => rfl
      unfold State.assignBatch
      rw [none_ nowhere]
      simp only [first]
    have now : (s.bat.openWith i roll mean).entries[i].batch =
        some ⟨true, s.bat.freeCode 33 s.bat.nextCode, mean, 1, false⟩ := by
      unfold Bat.openWith
      exact congrArg BatchEntry.batch ((Bat.entries_put _ _ _ _).trans (if_pos rfl))
    have settled := s.settleAssign_spec j now rfl rfl true
    have is : t = _ := (congrArg Prod.fst assigned).trans settled
    have code : given = s.bat.freeCode 33 s.bat.nextCode := congrArg Prod.snd assigned
    have table : t.bat = _ := (congrArg State.bat is).trans (Bat.openWith_settled roll mean full)
    have next : t.bat.nextCode = (s.bat.openWith i roll mean).nextCode := by rw [table]
    refine ⟨code ▸ s.bat.freeCode_firstUnheld _, ?_, State.silent_of_raised ?_, ?_, ?_⟩
    · rw [next, code]
      let opened := s.bat.put i ⟨some ⟨true, s.bat.freeCode 33 s.bat.nextCode, mean, 1, false⟩, true, true⟩
      have held : ∀ c, Held t.bat c ↔ Held opened c := by
        refine Bat.held_put (b := opened) (i := i) (x := ⟨true, s.bat.freeCode 33 s.bat.nextCode, mean, 1, false⟩)
          (e := ⟨some ⟨!full, s.bat.freeCode 33 s.bat.nextCode, mean, 1, false⟩, true, true⟩) t.bat ?_ ?_ rfl rfl
        · rw [table, Bat.put_put]
          rfl
        · exact congrArg BatchEntry.batch ((Bat.entries_put _ _ _ _).trans (if_pos rfl))
      exact FirstUnheld.congr held (opened.freeCode_firstUnheld _)
    · rw [is]
      rfl
    · rw [is, code]
    · rw [code, next]
      exact table
  · have assigned : s.assignBatch j roll mean =
        ({ s with bat := { s.bat with
          lastAssign := some { roll := roll, code := 0, outcome := .overflow },
          overflows := satInc s.bat.overflows } }.raiseNotice .batchChanged, 0) := by
      have none_free : s.bat.firstFree = none := find_finRange_none fun k => by
        cases is : s.bat.entries[k].batch with
        | none => exact absurd is (full k)
        | some y => rfl
      unfold State.assignBatch
      rw [none_ nowhere]
      simp only [none_free]
    have is : t = _ := congrArg Prod.fst assigned
    refine ⟨congrArg Prod.snd assigned, State.silent_of_raised ?_, ?_, ?_⟩ <;> rw [is] <;> rfl

/-! ### Requests on the table -/

/-- A request command on a link that takes and permits it answers what its owner answers. -/
theorem answers_act {c : Instr} {s u : State} {l : LinkId} {tag : Byte} {x : Service} {st : Status} {body : ReplyBody}
    {ns : List Notice} (is : requestOf c = some (l, tag, x)) (take : s.mayTake l = true) (fits : x.fits = true)
    (allowed : s.permits l x.cls x.lineOnly = true) (act : x.act s = (u, st, body)) (raised : u.lnk = s.lnk.raised ns) :
    Answers c s l ⟨x.kind + 0x80, tag, st, body⟩ ns u := by
  have answers := answers_of x ns (exec_request is s) take fits allowed (by rw [act]; exact raised)
  rw [act] at answers
  exact answers

theorem find_finRange_iff {n : Nat} {p : Fin n → Bool} {i : Fin n} :
    (List.finRange n).find? p = some i ↔ p i = true ∧ ∀ k, k < i → p k = false := by
  refine ⟨fun found => ?_, fun ⟨here, before⟩ => find_finRange here before⟩
  obtain ⟨here, m, lt, at_, before⟩ := List.find?_eq_some_iff_getElem.mp found
  rw [List.getElem_finRange] at at_
  refine ⟨here, fun k below => ?_⟩
  have is : m = i.val := congrArg Fin.val at_
  simpa using before k.val (is ▸ below)

section
variable {s : State} {i : Fin 32} {code : Nat}

theorem Bat.holder_iff : s.bat.holder code = some i ↔ HoldsCode s code i := by
  have at_ : ∀ k : Fin 32, (s.bat.entries[k].batch.any fun x => x.code == code) = true ↔
      ∃ x, s.bat.entries[k].batch = some x ∧ x.code = code := fun k => by simp [Option.any_eq_true]
  unfold Bat.holder HoldsCode
  rw [find_finRange_iff, at_]
  refine and_congr_right fun _ => forall_congr' fun k => imp_congr_right fun _ => ?_
  rw [← Bool.not_eq_true, at_]
  exact ⟨fun no x held same => no ⟨x, held, same⟩, fun no ⟨x, held, same⟩ => no x held same⟩

theorem Bat.holder_none_iff : s.bat.holder code = none ↔ ∀ i, ¬HoldsCode s code i := by
  constructor
  · intro none_ i holds
    rw [Bat.holder_iff.mpr holds] at none_
    cases none_
  · intro nowhere
    cases found : s.bat.holder code with
    | none => rfl
    | some i => exact absurd (Bat.holder_iff.mp found) (nowhere i)

/-- The report that follows a write of the line batch's entry (R109, R157). -/
theorem State.reportLineBatch_written (s : State) (i : Fin 32) (e : BatchEntry) (line : Option (Fin 32))
    (report : Option LineBatch) :
    (if s.bat.lineBatch = some i then
      ({ s with bat := { s.bat with entries := s.bat.entries.set i e, lineBatch := line } }).reportLineBatch report
      else { s with bat := { s.bat with entries := s.bat.entries.set i e, lineBatch := line } }) =
      batchWritten s i e line report := by
  unfold batchWritten
  split
  next is =>
    rw [State.reportLineBatch_eq]
    unfold shadeTold
    by_cases same : s.shu.lineBatch = report
    · rw [if_pos (by exact same), if_neg (fun h => h.2 same)]
    · rw [if_neg (by exact same), if_pos ⟨is, same⟩]
  next other => rw [if_neg (fun h => other h.1)]

/-- CLOSE_BATCH on the entry that holds the code (R159). -/
theorem State.closeBatchAt_closed {x : Batch} (held : s.bat.entries[i].batch = some x) (closed : x.isOpen = false) :
    s.closeBatchAt i = s := by
  unfold State.closeBatchAt
  rw [Bat.close_closed held closed]
  refine if_neg ?_
  cases is : s.bat.lineBatch <;> simp

theorem State.closeBatchAt_open {x : Batch} (held : s.bat.entries[i].batch = some x) (isOpen : x.isOpen = true) :
    s.closeBatchAt i = batchWritten s i
      { s.bat.entries[i] with batch := some { x with isOpen := false }, changed := true }
      (if s.bat.lineBatch = some i then none else s.bat.lineBatch) none := by
  rw [← State.reportLineBatch_written]
  unfold State.closeBatchAt
  rw [Bat.close_open held isOpen]
  by_cases line : s.bat.lineBatch = some i
  · simp only [line, if_true]
    rfl
  · simp only [line, if_false, decide_false, Bool.false_and, Bool.false_eq_true]
    rfl

/-- PIN_BATCH on its target (R160). -/
theorem State.pinAt_eq (s : State) (i : Fin 32) (code : Nat) (ref : Shade) :
    s.pinAt i code ref = batchWritten s i (pinEntry s.bat.entries[i] code ref) s.bat.lineBatch (some ⟨code, ref⟩) := by
  rw [← State.reportLineBatch_written]
  unfold State.pinAt
  by_cases line : s.bat.lineBatch = some i
  · have reported : (s.bat.put i (pinEntry s.bat.entries[i] code ref)).lineReport = some ⟨code, ref⟩ :=
      Bat.lineReport_eq (x := ⟨true, code, ref, _, true⟩)
        (congrArg BatchEntry.batch ((Bat.entries_put _ _ _ _).trans (if_pos rfl))) line
    rw [if_pos line]
    simp only [show (s.bat.put i (pinEntry s.bat.entries[i] code ref)).lineBatch = some i from line, if_true, reported]
    rfl
  · rw [if_neg line]
    simp only [show ¬(s.bat.put i (pinEntry s.bat.entries[i] code ref)).lineBatch = some i from line, if_false]
    rfl

theorem batchWritten_entry (s : State) (i : Fin 32) (e : BatchEntry) (line : Option (Fin 32)) (report : Option LineBatch) :
    (batchWritten s i e line report).bat.entries[i] = e :=
  (Bat.entries_put s.bat i i e).trans (if_pos rfl)

/-- Purging frees entries and none else (R161). -/
theorem Bat.freeCount_purge (b : Bat) (first last : Nat) (pinned : Bool) :
    b.freeCount ≤ (b.purge first last pinned).freeCount := by
  have listed : ∀ v : Vector BatchEntry 32, v.toList = (List.finRange 32).map fun k => v[k] := fun v =>
    List.ext_getElem (by simp) fun k h1 h2 => by simp
  unfold Bat.freeCount
  rw [listed, listed, List.countP_map, List.countP_map]
  refine List.countP_mono_left fun k _ free => ?_
  simp only [Function.comp] at free ⊢
  rw [Bat.entries_purge]
  split
  · rfl
  · exact free

end

/-- CLOSE_BATCH (R159). -/
theorem closeBatch_answers (s : State) (l : LinkId) (tag : Byte) (take : s.mayTake l = true) (code : BitVec 16)
    (allowed : s.permits l .operate false = true) :
    (code.toNat < 1 ∨ 9999 < code.toNat → Answers (.closeBatch l tag code) s l ⟨0xAD, tag, .param, .field 1⟩ [] s) ∧
    (1 ≤ code.toNat → code.toNat ≤ 9999 →
      ((∀ i, ¬HoldsCode s code.toNat i) → Answers (.closeBatch l tag code) s l ⟨0xAD, tag, .notFound, .empty⟩ [] s) ∧
      (∀ i x, HoldsCode s code.toNat i → s.bat.entries[i].batch = some x →
        (x.isOpen = false → Answers (.closeBatch l tag code) s l ⟨0xAD, tag, .done, .batchClosed i.val false⟩ [] s) ∧
        (x.isOpen = true → Answers (.closeBatch l tag code) s l ⟨0xAD, tag, .done, .batchClosed i.val false⟩ []
          (batchWritten s i { s.bat.entries[i] with batch := some { x with isOpen := false }, changed := true }
            (if s.bat.lineBatch = some i then none else s.bat.lineBatch) none)))) := by
  have answers {u : State} {st : Status} {body : ReplyBody} (act : (closeBatchService code).act s = (u, st, body))
      (raised : u.lnk = s.lnk) : Answers (.closeBatch l tag code) s l ⟨0xAD, tag, st, body⟩ [] u :=
    answers_act (x := closeBatchService code) rfl take rfl allowed act raised
  refine ⟨fun out => answers ?_ rfl, fun low high => ⟨fun nowhere => answers ?_ rfl, fun i x holds held => ?_⟩⟩
  · have no : isBatchCode code.toNat = false := by
      rw [← Bool.not_eq_true, isBatchCode_iff]
      omega
    simp only [closeBatchService, no, Bool.false_eq_true, if_false]
    rfl
  · simp only [closeBatchService, (isBatchCode_iff _).mpr ⟨low, high⟩, if_true, Bat.holder_none_iff.mpr nowhere]
    rfl
  · have act : (closeBatchService code).act s = done (s.closeBatchAt i) (.batchClosed i.val false) := by
      simp only [closeBatchService, (isBatchCode_iff _).mpr ⟨low, high⟩, if_true, Bat.holder_iff.mpr holds]
    refine ⟨fun closed => answers ?_ rfl, fun isOpen => answers ?_ rfl⟩
    · rw [act, State.closeBatchAt_closed held closed]
      rfl
    · rw [act, State.closeBatchAt_open held isOpen]
      rfl

/-- PIN_BATCH (R160). -/
theorem pinBatch_answers (s : State) (l : LinkId) (tag : Byte) (take : s.mayTake l = true) (code x y z : BitVec 16)
    (allowed : s.permits l .configure false = true) :
    let fails := fun (n : Nat) => (n = 1 ∧ (code.toNat < 1 ∨ 9999 < code.toNat)) ∨
      (n = 2 ∧ (x.toInt < 0 ∨ 10000 < x.toInt)) ∨ (n = 3 ∧ (y.toInt < -12800 ∨ 12700 < y.toInt)) ∨
      (n = 4 ∧ (z.toInt < -12800 ∨ 12700 < z.toInt))
    let free := fun (i : Fin 32) => s.bat.entries[i].batch = none
    (∀ n, fails n → (∀ m, m < n → ¬fails m) →
      Answers (.pinBatch l tag code x y z) s l ⟨0xC2, tag, .param, .field n⟩ [] s) ∧
    ((∀ n, ¬fails n) →
      ((∀ i, ¬HoldsCode s code.toNat i ∧ ¬free i) →
        Answers (.pinBatch l tag code x y z) s l ⟨0xC2, tag, .busy, .empty⟩ [] s) ∧
      (∀ i, (HoldsCode s code.toNat i ∨ ((∀ k, ¬HoldsCode s code.toNat k) ∧ free i ∧ ∀ k, k < i → ¬free k)) →
        let count := match s.bat.entries[i].batch with
          | some b => if b.isOpen then b.count else 0
          | none => 0
        let ref : Shade := ⟨x.toInt, y.toInt, z.toInt⟩
        Answers (.pinBatch l tag code x y z) s l ⟨0xC2, tag, .done, .pinned i.val count⟩ []
          (batchWritten s i { s.bat.entries[i] with batch := some ⟨true, code.toNat, ref, count, true⟩, changed := true }
            s.bat.lineBatch (some ⟨code.toNat, ref⟩)))) := by
  intro fails free
  have answers {u : State} {st : Status} {body : ReplyBody} (act : (pinBatchService code x y z).act s = (u, st, body))
      (raised : u.lnk = s.lnk) : Answers (.pinBatch l tag code x y z) s l ⟨0xC2, tag, st, body⟩ [] u :=
    answers_act (x := pinBatchService code x y z) rfl take rfl allowed act raised
  have failing : ∀ n, (n, false) ∈ pinChecks code x y z ↔ fails n := by
    intro n
    simp only [pinChecks, fails, isBatchCode, within, List.mem_cons, Prod.mk.injEq, List.not_mem_nil, or_false,
      decide_eq_false_iff_not, @eq_comm Bool false, Bool.and_eq_false_iff, Nat.not_le, Int.not_le]
  have ordered : (pinChecks code x y z).Pairwise fun a b => a.1 < b.1 := by simp [pinChecks]
  have is_free : ∀ k : Fin 32, s.bat.entries[k].batch.isNone = true ↔ free k := fun k => Option.isNone_iff_eq_none
  have first_free {i : Fin 32} : s.bat.firstFree = some i ↔ free i ∧ ∀ k, k < i → ¬free k := by
    unfold Bat.firstFree
    rw [find_finRange_iff, is_free]
    refine and_congr_right fun _ => forall_congr' fun k => imp_congr_right fun _ => ?_
    rw [← Bool.not_eq_true, is_free]
  refine ⟨fun n bad least => answers ?_ rfl, fun passes => ?_⟩
  · have found := firstFailing_eq_some ordered ((failing n).mpr bad) fun m lt => mt (failing m).mp (least m lt)
    simp only [pinBatchService, found]
    rfl
  have checked : firstFailing (pinChecks code x y z) = none := firstFailing_eq_none fun n => mt (failing n).mp (passes n)
  refine ⟨fun nowhere => answers ?_ rfl, fun i target => ?_⟩
  · have no_target : s.bat.pinTarget code.toNat = none := by
      unfold Bat.pinTarget
      rw [Bat.holder_none_iff.mpr fun i => (nowhere i).1, Option.none_or]
      exact find_finRange_none fun k => Bool.eq_false_iff.mpr (mt (is_free k).mp (nowhere k).2)
    simp only [pinBatchService, checked, no_target]
    rfl
  · have found : s.bat.pinTarget code.toNat = some i := by
      unfold Bat.pinTarget
      rcases target with holds | ⟨nowhere, first⟩
      · rw [Bat.holder_iff.mpr holds, Option.some_or]
      · rw [Bat.holder_none_iff.mpr nowhere, Option.none_or]
        exact first_free.mpr first
    refine answers ?_ rfl
    simp only [pinBatchService, checked, found, State.pinAt_eq]
    rw [batchWritten_entry]
    rfl

/-- PURGE_BATCHES (R161). -/
theorem purgeBatches_answers (s : State) (l : LinkId) (tag : Byte) (take : s.mayTake l = true) (first last pinned : Byte)
    (allowed : s.permits l .configure false = true) :
    let fails := fun (n : Nat) => (n = 1 ∧ 31 < first.toNat) ∨
      (n = 2 ∧ (31 < last.toNat ∨ last.toNat < first.toNat)) ∨ (n = 3 ∧ 1 < pinned.toNat)
    (∀ n, fails n → (∀ m, m < n → ¬fails m) →
      Answers (.purgeBatches l tag first last pinned) s l ⟨0xC3, tag, .param, .field n⟩ [] s) ∧
    ((∀ n, ¬fails n) → ∃ entries : Vector BatchEntry 32, ∃ freed freeNow,
      Answers (.purgeBatches l tag first last pinned) s l ⟨0xC3, tag, .done, .purged freed freeNow⟩ []
        { s with bat := { s.bat with entries := entries } } ∧
      freeNow = entries.toList.countP (fun e => e.batch.isNone) ∧
      freeNow = freed + s.bat.entries.toList.countP (fun e => e.batch.isNone) ∧
      (∀ i : Fin 32, (first.toNat ≤ i.val ∧ i.val ≤ last.toNat ∧
          ∃ b, s.bat.entries[i].batch = some b ∧ b.isOpen = false ∧ (b.pinned = false ∨ pinned = 1)) →
        entries[i] = { s.bat.entries[i] with batch := none, changed := true }) ∧
      (∀ i : Fin 32, ¬(first.toNat ≤ i.val ∧ i.val ≤ last.toNat ∧
          ∃ b, s.bat.entries[i].batch = some b ∧ b.isOpen = false ∧ (b.pinned = false ∨ pinned = 1)) →
        entries[i] = s.bat.entries[i])) := by
  intro fails
  have answers {u : State} {st : Status} {body : ReplyBody}
      (act : (purgeBatchesService first last pinned).act s = (u, st, body)) (raised : u.lnk = s.lnk) :
      Answers (.purgeBatches l tag first last pinned) s l ⟨0xC3, tag, st, body⟩ [] u :=
    answers_act (x := purgeBatchesService first last pinned) rfl take rfl allowed act raised
  have failing : ∀ n, (n, false) ∈ purgeChecks first.toNat last.toNat pinned.toNat ↔ fails n := by
    intro n
    simp only [purgeChecks, fails, within, List.mem_cons, Prod.mk.injEq, List.not_mem_nil, or_false,
      decide_eq_false_iff_not, @eq_comm Bool false, Bool.and_eq_false_iff, Nat.not_le, Nat.zero_le, decide_true,
      Bool.true_eq_false, false_or]
  have ordered : (purgeChecks first.toNat last.toNat pinned.toNat).Pairwise fun a b => a.1 < b.1 := by simp [purgeChecks]
  refine ⟨fun n bad least => answers ?_ rfl, fun passes => ?_⟩
  · have found := firstFailing_eq_some ordered ((failing n).mpr bad) fun m lt => mt (failing m).mp (least m lt)
    simp only [purgeBatchesService, found]
    rfl
  have checked : firstFailing (purgeChecks first.toNat last.toNat pinned.toNat) = none :=
    firstFailing_eq_none fun n => mt (failing n).mp (passes n)
  let b := s.bat.purge first.toNat last.toNat (pinned == 1)
  have frees : ∀ i : Fin 32, (decide (first.toNat ≤ i.val) && decide (i.val ≤ last.toNat) &&
      s.bat.entries[i].purgeable (pinned == 1)) = true ↔ first.toNat ≤ i.val ∧ i.val ≤ last.toNat ∧
        ∃ b, s.bat.entries[i].batch = some b ∧ b.isOpen = false ∧ (b.pinned = false ∨ pinned = 1) := fun i => by
    simp only [BatchEntry.purgeable, Bool.and_eq_true, decide_eq_true_eq, Option.any_eq_true, Bool.not_eq_true',
      Bool.or_eq_true, beq_iff_eq, and_assoc]
  refine ⟨b.entries, b.freeCount - s.bat.freeCount, b.freeCount, answers ?_ rfl, rfl, ?_, fun i freed => ?_, fun i kept => ?_⟩
  · simp only [purgeBatchesService, checked]
    rfl
  · exact (Nat.sub_add_cancel (s.bat.freeCount_purge _ _ _)).symm
  · exact (Bat.entries_purge _ _ _ _ i).trans (if_pos ((frees i).mpr freed))
  · exact (Bat.entries_purge _ _ _ _ i).trans (if_neg (mt (frees i).mp kept))

/-- Settles O60: one request after another. -/
theorem batchRequestsChangeTheTable : Obligations.BatchRequestsChangeTheTable := by
  intro s l tag take
  refine ⟨closeBatch_answers s l tag take, pinBatch_answers s l tag take, purgeBatches_answers s l tag take,
    fun code allowed => ?_⟩
  have answers {u : State} {st : Status} {body : ReplyBody} (act : (setBatchCodeService code).act s = (u, st, body))
      (raised : u.lnk = s.lnk) : Answers (.setBatchCode l tag code) s l ⟨0xC4, tag, st, body⟩ [] u :=
    answers_act (x := setBatchCodeService code) rfl take rfl allowed act raised
  refine ⟨fun other => answers ?_ rfl, fun ready out => answers ?_ rfl, fun ready low high => answers ?_ rfl⟩
  · simp only [setBatchCodeService, if_neg other]
    rfl
  · have no : isBatchCode code.toNat = false := by
      rw [← Bool.not_eq_true, isBatchCode_iff]
      omega
    simp only [setBatchCodeService, if_pos ready, no, Bool.false_eq_true, if_false]
    rfl
  · simp only [setBatchCodeService, if_pos ready, (isBatchCode_iff _).mpr ⟨low, high⟩, if_true]
    rfl

end Sys2Proof.Machine
end

section
/-! PROOFS. The status requests (O24, O25) and the nip's timers and hold (O42). -/

namespace Sys2Proof.Machine

-- one proof at a time: the joined package would else open a thread for each of them
set_option Elab.async false

/-! ### PROBE -/

section
variable {L : Nat} {d : Count}

theorem coversAt_cons {r r' : RepeatRecord} {rs : List RepeatRecord} {k : Nat} :
    CoversAt L (r :: r' :: rs) d (k + 1) ↔ CoversAt L (r' :: rs) d k := by
  simp only [CoversAt, List.getElem?_cons_succ]

theorem coversAt_zero {r r' : RepeatRecord} {rs : List RepeatRecord} :
    CoversAt L (r :: r' :: rs) d 0 ↔ (reached d r.origin && !reached d r'.origin) = true := by
  simp [CoversAt]

theorem coversAt_tail {r : RepeatRecord} {k : Nat} :
    CoversAt L [r] d k ↔ k = 0 ∧ (reached d r.origin && !reached d (fwd r.origin L)) = true := by
  cases k with
  | zero => simp [CoversAt]
  | succ k => simp [CoversAt]

/-- The record that covers a datum is the first in the track that does (R22). -/
theorem recordCovering_spec (records : List RepeatRecord) :
    (∀ k r, records[k]? = some r → CoversAt L records d k → (∀ i < k, ¬CoversAt L records d i) →
      recordCovering L records d = some r) ∧
    ((∀ k, ¬CoversAt L records d k) → recordCovering L records d = none) := by
  induction records with
  | nil => exact ⟨fun k r at_ => by simp at at_, fun _ => rfl⟩
  | cons r rs ih =>
    cases rs with
    | nil =>
      unfold recordCovering
      refine ⟨fun k x at_ covers _ => ?_, fun nowhere => if_neg fun covers => nowhere 0 (coversAt_tail.mpr ⟨rfl, covers⟩)⟩
      obtain ⟨rfl, here⟩ := coversAt_tail.mp covers
      cases at_
      exact if_pos here
    | cons r' rs =>
      obtain ⟨first, none_⟩ := ih
      unfold recordCovering
      refine ⟨fun k x at_ covers before => ?_, fun nowhere => ?_⟩
      · cases k with
        | zero =>
          cases at_
          exact if_pos (coversAt_zero.mp covers)
        | succ k =>
          rw [if_neg fun here => before 0 (Nat.succ_pos k) (coversAt_zero.mpr here)]
          exact first k x at_ (coversAt_cons.mp covers) fun i lt here =>
            before (i + 1) (Nat.succ_lt_succ lt) (coversAt_cons.mpr here)
      · rw [if_neg fun here => nowhere 0 (coversAt_zero.mpr here)]
        exact none_ fun k here => nowhere (k + 1) (coversAt_cons.mpr here)

theorem Entry.contains_iff (e : Entry) :
    e.contains d = true ↔ reached d e.start = true ∧ ∀ x, e.stop = some x → reached d x = false := by
  unfold Entry.contains
  cases e.stop <;> simp

end

section
variable {s : State} {d : Count}

/-- The newest entry that contains a datum is found (R22). -/
theorem State.entryOf_eq {before after : List Entry} {e : Entry} (log : s.rlg.log = before ++ e :: after)
    (here : e.contains d = true) (newest : ∀ x ∈ after, x.contains d = false) : s.entryOf d = some e := by
  have later : after.reverse.find? (fun x => x.contains d) = none :=
    List.find?_eq_none.mpr fun x member => by rw [newest x (List.mem_reverse.mp member)]; exact Bool.false_ne_true
  unfold State.entryOf
  rw [log, List.reverse_append, List.reverse_cons, List.append_assoc, List.find?_append, later, Option.none_or]
  simp [here]

theorem State.entryOf_none (nowhere : ∀ e ∈ s.rlg.log, e.contains d = false) : s.entryOf d = none :=
  List.find?_eq_none.mpr fun x member => by rw [nowhere x (List.mem_reverse.mp member)]; exact Bool.false_ne_true

end

/-- Settles O24: the covering record, the tail's coverage, the newest entry, in this order. -/
theorem probeFindsRecordThenEntry : Obligations.ProbeFindsRecordThenEntry := by
  intro s l tag d take L
  obtain ⟨first, none_⟩ := recordCovering_spec (L := L) (d := d) s.trk.records
  have answers {body : ReplyBody} (is : s.probeBody d = body) :
      Answers (.probe l tag d) s l ⟨0x83, tag, .done, body⟩ [] s :=
    answers_act (x := probeService d) rfl take rfl (s.permits_monitor l _) (by rw [← is]; rfl) rfl
  refine ⟨fun k r at_ covers before => answers ?_, fun nowhere => ⟨fun before r tail ahead_ => answers ?_, fun covered => ?_⟩,
    fun e => e.contains_iff⟩
  · unfold State.probeBody
    rw [first k r at_ covers before]
  · have ahead : s.aheadOfTail d = true := by
      unfold State.aheadOfTail
      rw [tail, List.getLast?_concat]
      simpa using ahead_
    unfold State.probeBody
    rw [none_ nowhere]
    simp only [ahead, if_true]
  · have ahead : s.aheadOfTail d = false := by
      unfold State.aheadOfTail
      cases last : s.trk.records.getLast? with
      | none => rfl
      | some r =>
        obtain ⟨before, tail⟩ := List.getLast?_eq_some_iff.mp last
        exact covered before r tail
    have body : s.probeBody d = match s.entryOf d with
        | some e => .probeEntry e.seq e.kind
        | none => .probeNone := by
      unfold State.probeBody
      rw [none_ nowhere]
      simp only [ahead, Bool.false_eq_true, if_false] <;> rfl
    refine ⟨fun before e after log here newest => answers ?_, fun nowhere => answers ?_⟩
    · rw [body, State.entryOf_eq log here newest]
    · rw [body, State.entryOf_none nowhere]

/-! ### The batch report -/

theorem Bat.entries_foldl_clearMarks (l : List (Fin 32)) : ∀ (b : Bat) (k : Fin 32), (l.foldl Bat.clearMarks b).entries[k] =
    if k ∈ l then { b.entries[k] with used := false, changed := false } else b.entries[k] := by
  induction l with
  | nil => exact fun b k => by simp
  | cons i l ih =>
    intro b k
    rw [List.foldl_cons, ih, Bat.clearMarks, Bat.entries_put]
    by_cases here : k = i
    · subst here
      by_cases also : k ∈ l <;> simp [also]
    · simp [here]

theorem Bat.foldl_clearMarks_eq (l : List (Fin 32)) : ∀ b : Bat, l.foldl Bat.clearMarks b =
    { b with entries := (l.foldl Bat.clearMarks b).entries } := by
  induction l with
  | nil => exact fun b => rfl
  | cons i l ih =>
    intro b
    rw [List.foldl_cons, ih (b.clearMarks i)]
    rfl

theorem toList_eq_map {α : Type} (v : Vector α 32) : v.toList = (List.finRange 32).map fun k => v[k] :=
  List.ext_getElem (by simp) fun k h1 h2 => by simp

/-- BATCH_REPORT tells at most 16 marked entries and clears their marks (R162). -/
theorem batchReport_answers (s : State) (l : LinkId) (tag : Byte) (take : s.mayTake l = true) :
    ∃ (r : BatchReportReply) (table : Vector BatchEntry 32),
      Answers (.batchReport l tag) s l ⟨0x89, tag, .done, .batchReport r⟩ [] { s with bat := { s.bat with entries := table } } ∧
      r.entries = (((List.finRange 32).filter fun i => s.bat.entries[i].used || s.bat.entries[i].changed).take 16).map
        (fun i => (i.val, s.bat.entries[i])) ∧
      r.stillMarked = (s.bat.entries.toList.countP fun e => e.used || e.changed) - r.entries.length ∧
      (∀ i : Fin 32, table[i] =
        if (r.entries.any fun x => x.1 == i.val) = true then { s.bat.entries[i] with used := false, changed := false }
        else s.bat.entries[i]) ∧
      (r.nextCode, r.lineBatch, r.lastAssign, r.overflows) =
        (s.bat.nextCode, s.bat.lineBatch, s.bat.lastAssign, s.bat.overflows) := by
  refine ⟨s.bat.report, s.bat.afterReport.entries, ?_, rfl, ?_, fun i => ?_, rfl⟩
  · refine answers_act (x := batchReportService) rfl take rfl (s.permits_monitor l _) ?_ rfl
    have same : s.bat.afterReport = { s.bat with entries := s.bat.afterReport.entries } := Bat.foldl_clearMarks_eq _ _
    simp only [batchReportService]
    rw [← same]
    rfl
  · have marked : s.bat.marked.length = s.bat.entries.toList.countP fun e => e.used || e.changed := by
      rw [toList_eq_map, List.countP_map, List.countP_eq_length_filter]
      rfl
    simp only [Bat.report, List.length_map, List.length_take, ← marked]
    omega
  · have told : (s.bat.report.entries.any fun x => x.1 == i.val) = true ↔ i ∈ s.bat.marked.take 16 := by
      simp only [Bat.report, List.any_map, List.any_eq_true, Function.comp, beq_iff_eq, Fin.val_inj]
      exact ⟨fun ⟨k, member, same⟩ => same ▸ member, fun member => ⟨i, member, rfl⟩⟩
    unfold Bat.afterReport
    rw [Bat.entries_foldl_clearMarks]
    by_cases member : i ∈ s.bat.marked.take 16
    · rw [if_pos member, if_pos (told.mpr member)]
    · rw [if_neg member, if_neg (mt told.mp member)]

theorem stationOf_val (i : StationId) : stationOf (BitVec.ofNat 8 i.val) = some i := by
  revert i
  decide

theorem stationOf_none {b : Byte} (high : 7 < b.toNat) : stationOf b = none := dif_neg (by omega)

/-- Settles O25: each reply is built from the state as it stands. -/
theorem statusRequestsReportAndClear : Obligations.StatusRequestsReportAndClear := by
  refine ⟨fun s l tag take => ?_, fun s l tag take => ?_⟩
  · refine ⟨answers_act (x := identifyService l) rfl take rfl (s.permits_monitor l _) rfl rfl,
      answers_act (x := winderStatusService) rfl take rfl (s.permits_monitor l _) rfl rfl,
      answers_act (x := labelStatusService) rfl take rfl (s.permits_monitor l _) rfl rfl⟩
  · refine ⟨⟨s.lineStatus, answers_act (x := lineStatusService) rfl take rfl (s.permits_monitor l _) rfl rfl, rfl, ?_, rfl, rfl,
      rfl, rfl, rfl, ?_, ?_⟩, fun i => ⟨s.stationStatus i, ?_, rfl, ?_, ?_, ?_, ?_, rfl⟩, fun b high => ?_,
      ⟨s.embossStatus, answers_act (x := embossStatusService) rfl take rfl (s.permits_monitor l _) rfl rfl, rfl, rfl, rfl, rfl,
        rfl, rfl, ?_, rfl⟩,
      ⟨s.shadeStatus, answers_act (x := shadeStatusService) rfl take rfl (s.permits_monitor l _) rfl rfl, rfl, rfl, rfl, rfl, rfl,
        rfl⟩, batchReport_answers s l tag take⟩
    · rw [← s.conditions_eq]
      rfl
    · exact Option.isSome_map
    · intro j m job mask
      simp only [State.lineStatus, job, mask]
      rfl
    · refine answers_act (x := stationStatusService (BitVec.ofNat 8 i.val)) rfl take rfl (s.permits_monitor l _) ?_ rfl
      simp only [stationStatusService, stationOf_val]
      rfl
    · simp only [State.stationStatus]
      split <;> simp [*]
    · simp only [State.stationStatus]
      split <;> simp_all
    · intro x member
      simp only [State.stationStatus] at member
      split at member <;> cases member
      rfl
    · intro x member
      simp only [State.stationStatus] at member
      split at member <;> cases member
      rfl
    · refine answers_act (x := stationStatusService b) rfl take rfl (s.permits_monitor l _) ?_ rfl
      simp only [stationStatusService, stationOf_none high]
      rfl
    · simp only [State.embossStatus]
      cases s.emb.nip <;> rfl

/-! ### The nip under a job -/

section
variable {s : State} {j : Job}

theorem State.mayClose_eq (job : s.lsc.job = some j) : s.mayClose = ClosePermitted s j s.emb := by
  rw [Bool.eq_iff_iff, State.mayClose_iff, job]
  simp [ClosePermitted, and_assoc]

theorem State.nipEngage_eq (s : State) (j : Job) : s.nipEngage j = { s with emb := engagingEmb j s.emb } := by
  unfold State.nipEngage engagingEmb Pwm.setTo
  split
  next none_ => simp only [none_] <;> rfl
  next some_ => simp only <;> rfl

theorem State.nipLift_eq (job : s.lsc.job = some j) : s.nipLift = { s with emb := liftingEmb j s.emb } := by
  unfold State.nipLift
  rw [job]
  rfl

/-- An evaluation of the close conditions under a job (R77, R78). -/
theorem State.evaluateNip_eq (job : s.lsc.job = some j) :
    s.evaluateNip = { s with emb := evaluated j (ClosePermitted s j s.emb) s.emb } := by
  have may := State.mayClose_eq job
  unfold State.evaluateNip evaluated
  rw [may]
  cases nip : s.emb.nip <;> cases permitted : ClosePermitted s j s.emb <;>
    simp only [Bool.false_eq_true, if_true, if_false, State.withJob_some _ job, State.nipEngage_eq, State.nipLift_eq job]

theorem State.evaluateNip_closeFails (s : State) : s.evaluateNip.closeFails = s.closeFails := by
  obtain ⟨lift, zone⟩ := s.evaluateNip_inputs
  have same := s.evaluateNip_affects.1
  unfold State.closeFails
  rw [lift, zone, same.lsc (by decide), same.trk (by decide), same.wpu (by decide)]

/-- Without a job the emboss unit is not enabled: a nip that is LIFTED stays so (notes/assumptions/47.md). -/
theorem State.evaluateNip_lifted (job : s.lsc.job = none) (nip : s.emb.nip = .lifted) : s.evaluateNip = s := by
  unfold State.evaluateNip
  rw [nip]
  simp only [State.withJob_none _ job, ite_self]

end

/-- Settles O42: each of the four meets the nip's conditions as they then are. -/
theorem nipMovesByTimersAndHold : Obligations.NipMovesByTimersAndHold := by
  refine ⟨fun s => ⟨?_, ?_, fun idle l tag take allowed => ⟨?_, ?_⟩⟩, fun s j l tag job running take allowed => ?_⟩
  · refine ⟨_, rfl, ?_, ?_, ?_⟩
    · refine SameBut.trans (t := if s.emb.nip = .engaging then
        { s with emb := { s.emb with nip := .closed, nipTime := none, closedSince := some s.wpu.h } } else s) ?_
          ((State.endOfEvent_sameBut _).mono (by decide))
      split
      · exact (affects_emb s _).1.mono (by decide)
      · exact SameBut.refl _ s
    · refine State.endOfEvent_silent_of_eq _ _ ?_
      split <;> rfl
    · rw [State.endOfEvent_emb]
      split <;> rfl
  · let down := { s.emb with nip := .lifted, nipTime := none }
    let u : State := { s with emb := down }
    have runs : exec .liftTimerExpiry s = .next (if s.emb.nip = .lifting then u.evaluateNip else s).endOfEvent := rfl
    by_cases lifting : s.emb.nip = .lifting
    · rw [if_pos lifting] at runs
      have frame : Affects [.emb] s u.evaluateNip := (affects_emb s down).trans u.evaluateNip_affects
      refine ⟨_, runs, frame.endOfEvent, State.endOfEvent_silent_of_eq _ _ u.evaluateNip_lnk,
        fun other => absurd lifting other, fun _ none_ => ?_, fun j _ job => ?_⟩
      · rw [State.endOfEvent_emb, State.evaluateNip_lifted (s := u) none_ rfl]
      · rw [State.endOfEvent_emb, State.evaluateNip_eq (s := u) (j := j) job]
        rfl
    · rw [if_neg lifting] at runs
      exact ⟨_, runs, s.endOfEvent_sameBut.mono (by decide), State.endOfEvent_silent_of_eq _ _ rfl,
        fun _ => State.endOfEvent_emb s, fun is => absurd is lifting, fun j is => absurd is lifting⟩
  · refine answers_act (x := embossLiftService) rfl take rfl allowed ?_ rfl
    simp only [embossLiftService, idle, Bool.false_eq_true, if_false]
    rfl
  · refine answers_act (x := embossCloseService) rfl take rfl allowed ?_ rfl
    simp only [embossCloseService, idle, Bool.false_eq_true, if_false]
    rfl
  · constructor
    · intro e
      let u : State := { s with emb := { s.emb with hostLift := true } }
      have never : ClosePermitted u j u.emb = false := by simp [ClosePermitted, u]
      have lifted := State.evaluateNip_eq (s := u) (j := j) job
      rw [never] at lifted
      have act : embossLiftService.act s = done u.evaluateNip (.nipState u.evaluateNip.emb.nip) := if_pos running
      refine answers_act (x := embossLiftService) rfl take rfl allowed ?_ rfl
      rw [act, lifted]
      rfl
    · intro held e fails
      let u : State := { s with emb := held }
      have closed := State.evaluateNip_eq (s := u) (j := j) job
      have told : u.evaluateNip.closeFails = fails := by
        rw [State.evaluateNip_closeFails]
        unfold State.closeFails
        rw [show u.lsc.job = some j from job]
        rfl
      have act : embossCloseService.act s =
          done u.evaluateNip (.nipClose u.evaluateNip.emb.nip u.evaluateNip.closeFails) := if_pos running
      refine answers_act (x := embossCloseService) rfl take rfl allowed ?_ rfl
      rw [act, told, closed]
      rfl

end Sys2Proof.Machine
end

section
/-! PROOFS. The stations: offered outcomes (O33), the computation of a full accumulator with its followers (O34), and the
end of trains (O32). -/

namespace Sys2Proof.Machine

-- one proof at a time: the joined package would else open a thread for each of them
set_option Elab.async false

/-! ### Notices, one after another -/

theorem flatMap_congr_mem {α β : Type} {l : List α} {f g : α → List β} (same : ∀ a ∈ l, f a = g a) :
    l.flatMap f = l.flatMap g := by
  rw [List.flatMap_def, List.flatMap_def, List.map_congr_left same]

theorem Lnk.raised_append (k : Lnk) (a b : List Notice) : (k.raised a).raised b = k.raised (a ++ b) := by
  simp [Lnk.raised, List.foldl_append]

theorem Lnk.raised_nil (k : Lnk) : k.raised [] = k := rfl

theorem State.raiseNotice_lnk (s : State) (n : Notice) : (s.raiseNotice n).lnk = s.lnk.raised [n] := rfl

section
variable {s u : State}

/-! ### A raised cause reads the line, the nip, the track and the web -/

theorem State.evaluateNip_emb_congr (lsc : u.lsc = s.lsc) (emb : u.emb = s.emb) (lost : u.trk.eventLost = s.trk.eventLost)
    (v : u.wpu.v = s.wpu.v) : u.evaluateNip.emb = s.evaluateNip.emb := by
  have may : u.mayClose = s.mayClose :=
    State.mayClose_congr (congrArg _ lsc) (congrArg _ lsc) (congrArg _ emb) (congrArg _ emb) lost v
  unfold State.evaluateNip State.withJob
  rw [emb, may, lsc]
  cases s.emb.nip with
  | lifted =>
    dsimp only
    split
    · cases s.lsc.job with
      | none => exact emb
      | some j => simp only [State.nipEngage, emb]
    · exact emb
  | lifting => exact emb
  | engaging =>
    dsimp only
    split
    · exact emb
    · simp only [State.nipLift, emb, lsc]
  | closed =>
    dsimp only
    split
    · exact emb
    · simp only [State.nipLift, emb, lsc]

/-- What a raised cause makes of the emboss block: where it stops the line the nip is evaluated (R78, R183). -/
theorem State.raiseCause_emb (s : State) (c : HoldCause) : (s.raiseCause c).emb =
    if (s.lsc.holdMask.any fun m => m.has c) = true ∧ s.lsc.lineState = .run then
      ({ s with lsc := s.lsc.raised c } : State).evaluateNip.emb else s.emb := by
  unfold State.raiseCause State.masked
  by_cases masked : (s.lsc.holdMask.any fun m => m.has c) = true
  · rw [if_pos masked]
    cases line : s.lsc.lineState with
    | run =>
      have moves : ((s.latch c).dropPermit).lsc.lineState ≠ .hold := by simp [State.latch, State.dropPermit, line]
      refine Eq.trans ?_ (if_pos ⟨masked, rfl⟩).symm
      dsimp only
      unfold State.setLineState
      rw [if_neg moves]
      refine State.evaluateNip_emb_congr ?_ rfl rfl rfl
      simp [Lsc.raised, masked, line, State.latch, State.dropPermit, State.raiseNotice]
    | hold =>
      refine Eq.trans ?_ (if_neg (by simp)).symm
      dsimp only
      split <;> rfl
    | ending =>
      refine Eq.trans ?_ (if_neg (by simp)).symm
      dsimp only
      split <;> rfl
    | unconfigured => exact (if_neg (by simp)).symm
    | ready => exact (if_neg (by simp)).symm
  · rw [if_neg masked, if_neg (fun h => masked h.1)]
    rfl

/-- A raised cause, in a state that differs in other blocks. -/
theorem State.raiseCause_congr (lsc : u.lsc = s.lsc) (emb : u.emb = s.emb) (lost : u.trk.eventLost = s.trk.eventLost)
    (v : u.wpu.v = s.wpu.v) (c : HoldCause) :
    (u.raiseCause c).lsc = (s.raiseCause c).lsc ∧ (u.raiseCause c).emb = (s.raiseCause c).emb ∧
      causeTold u c = causeTold s c := by
  refine ⟨by rw [State.raiseCause_lsc, State.raiseCause_lsc, lsc], ?_, by unfold causeTold; rw [lsc]⟩
  rw [State.raiseCause_emb, State.raiseCause_emb, lsc]
  split
  · exact State.evaluateNip_emb_congr (s := { s with lsc := s.lsc.raised c }) (u := { u with lsc := s.lsc.raised c }) rfl emb
      lost v
  · exact emb

/-! ### Offered outcomes -/

theorem State.offer_untaken {i : StationId} (out : (s.station i).engaged = false ∨ (s.station i).isResident = false)
    (o : StationOutcome) : s.offer i o = s := by
  unfold State.offer
  split
  next d desc =>
    rcases out with idle | other
    · rw [if_neg (by simp [idle])]
    · rw [Station.isResident, desc] at other
      cases other
  next => rfl

section
variable {i : StationId} {d : ResidentDesc}

theorem State.offer_taken (desc : (s.station i).desc = .resident d) (engaged : (s.station i).engaged = true)
    (o : StationOutcome) : s.offer i o =
      match o with
      | .sample e => s.offerSample i d e
      | .missing | .ambiguous => s.offerBad i d
      | .notEngaged | .notUsed | .absent => s := by
  unfold State.offer
  rw [desc]
  simp only [engaged, if_true] <;> rfl

theorem State.putStation_putStation (s : State) (i : StationId) (x y : Station) :
    (s.putStation i x).putStation i y = s.putStation i y := by
  unfold State.putStation
  simp only [Vector.set_set]

/-- What entering LOST leaves (R60): the station, the line with the nip, and the notices. -/
theorem State.enterLost_spec (s : State) (i : StationId) :
    (s.enterLost i).rlp = (s.putStation i { s.station i with st := .lost, acc := [], settleEnd := none }).rlp ∧
      (s.enterLost i).lsc = (s.raiseCause .stationLost).lsc ∧ (s.enterLost i).emb = (s.raiseCause .stationLost).emb ∧
      (s.enterLost i).lnk = s.lnk.raised (.stationAlarm i :: causeTold s .stationLost) := by
  let u := (s.putStation i { s.station i with st := .lost, acc := [], settleEnd := none }).raiseNotice (.stationAlarm i)
  obtain ⟨lsc, emb, told⟩ := State.raiseCause_congr (s := s) (u := u) rfl rfl rfl rfl .stationLost
  refine ⟨(State.raiseCause_affects u .stationLost).1.rlp (by decide), lsc, emb, ?_⟩
  have raised := (u.raiseCause_spec .stationLost).2
  rw [told] at raised
  exact raised

theorem State.enterLost_station (s : State) (i k : StationId) : (s.enterLost i).station k =
    if k = i then { s.station i with st := .lost, acc := [], settleEnd := none } else s.station k := by
  have rlp := (s.enterLost_spec i).1
  unfold State.station at rlp ⊢
  rw [rlp]
  exact s.station_putStation i k _

end

/-! ### A leader's followers -/

/-- A follower after its share of a correction (R63). -/
def Station.followed (y : Station) (c : Int) : Station :=
  match y.desc with
  | .indirect f =>
    if y.engaged then
      let q := cauFinish c y.trim f.stepLimit f.trimLimit f.ratio
      let told := { y with flags := latchedFlags y.flags q.flags }
      match q.train with
      | none => told
      | some (_, c') => committed told c'
    else y
  | _ => y

/-- A follower's channel after its share of a correction (R63, R66). -/
def Station.followedChannel (y : Station) (c : Int) (ch : Channel) : Channel :=
  match y.desc with
  | .indirect f =>
    if y.engaged then
      match (cauFinish c y.trim f.stepLimit f.trimLimit f.ratio).train with
      | none => ch
      | some (n', c') => trainStarted ch n' c' f.rate
    else ch
  | _ => ch

/-- The notice of a follower whose share meets its trim limit (R72). -/
def Station.followedTold (y : Station) (c : Int) (k : StationId) : List Notice :=
  match y.desc with
  | .indirect f =>
    if y.engaged && (cauFinish c y.trim f.stepLimit f.trimLimit f.ratio).flags.atLimit then [.stationAlarm k] else []
  | _ => []

section
variable {y : Station} {f : IndirectDesc}

/-- A follower that is disengaged takes no share. -/
theorem Station.followed_idle (idle : ∀ f, y.desc = .indirect f → y.engaged = false) (c : Int) (ch : Channel) (k : StationId) :
    y.followed c = y ∧ y.followedChannel c ch = ch ∧ y.followedTold c k = [] := by
  unfold Station.followed Station.followedChannel Station.followedTold
  split
  next f desc =>
    have off := idle f desc
    rw [if_neg (by simp [off]), if_neg (by simp [off]), off]
    exact ⟨rfl, rfl, rfl⟩
  next => exact ⟨rfl, rfl, rfl⟩

/-- An engaged follower's share. -/
theorem Station.followed_engaged (desc : y.desc = .indirect f) (engaged : y.engaged = true) (c : Int) :
    let q := cauFinish c y.trim f.stepLimit f.trimLimit f.ratio
    let told := { y with flags := latchedFlags y.flags q.flags }
    (q.train = none → y.followed c = told ∧ ∀ ch, y.followedChannel c ch = ch) ∧
      (∀ n' c', q.train = some (n', c') → y.followed c = committed told c' ∧
        ∀ ch, y.followedChannel c ch = trainStarted ch n' c' f.rate) ∧
      ∀ k, y.followedTold c k = if q.flags.atLimit then [.stationAlarm k] else [] := by
  intro q told
  have share : y.followed c = match q.train with
      | none => told
      | some (_, c') => committed told c' := by
    unfold Station.followed
    simp only [desc, engaged, if_true, q, told]
  have moves (ch : Channel) : y.followedChannel c ch = match q.train with
      | none => ch
      | some (n', c') => trainStarted ch n' c' f.rate := by
    unfold Station.followedChannel
    simp only [desc, engaged, if_true, q]
  refine ⟨fun train => ?_, fun n' c' train => ?_, fun k => ?_⟩
  · rw [share, train]
    exact ⟨rfl, fun ch => by rw [moves, train]⟩
  · rw [share, train]
    exact ⟨rfl, fun ch => by rw [moves, train]⟩
  · unfold Station.followedTold
    simp only [desc, engaged, Bool.true_and, q]

end

theorem State.latchStation_lnk (s : State) (i : StationId) (f : CauFlags) :
    (s.latchStation i f).lnk = s.lnk.raised (if f.atLimit then [.stationAlarm i] else []) := by
  unfold State.latchStation
  dsimp only
  split <;> rfl

theorem State.latchStation_chan (s : State) (i : StationId) (f : CauFlags) (c : ChannelId) :
    (s.latchStation i f).chan c = s.chan c := by
  unfold State.latchStation
  dsimp only
  split <;> rfl

theorem State.commitTrain_committed (s : State) (f : StationId) (n : Nat) (c : Int) (rate : Nat) (k : StationId) :
    (s.commitTrain f n c rate).station k = if k = f then committed (s.station f) c else s.station k :=
  s.commitTrain_station f n c rate k

theorem State.commitTrain_chan (s : State) (f : StationId) (n : Nat) (c : Int) (rate : Nat) (k : ChannelId) :
    (s.commitTrain f n c rate).chan k =
      if k = channelOf f then trainStarted (s.chan (channelOf f)) n c rate else s.chan k := by
  simp only [State.commitTrain, State.startTrain, State.chan_putChan, State.chan_putStation]
  rfl

theorem State.commitTrain_lnk (s : State) (f : StationId) (n : Nat) (c : Int) (rate : Nat) :
    (s.commitTrain f n c rate).lnk = s.lnk := rfl

/-- What a station's share of a correction leaves. -/
theorem State.startFollower_spec (s : State) (c : Int) (f : StationId) :
    (∀ k, (s.startFollower c f).station k = if k = f then (s.station f).followed c else s.station k) ∧
      (∀ k, (s.startFollower c f).chan k =
        if k = channelOf f then (s.station f).followedChannel c (s.chan (channelOf f)) else s.chan k) ∧
      (s.startFollower c f).lnk = s.lnk.raised ((s.station f).followedTold c f) := by
  have untaken (idle : ∀ g, (s.station f).desc = .indirect g → (s.station f).engaged = false)
      (same : s.startFollower c f = s) :
      (∀ k, (s.startFollower c f).station k = if k = f then (s.station f).followed c else s.station k) ∧
      (∀ k, (s.startFollower c f).chan k =
        if k = channelOf f then (s.station f).followedChannel c (s.chan (channelOf f)) else s.chan k) ∧
      (s.startFollower c f).lnk = s.lnk.raised ((s.station f).followedTold c f) := by
    obtain ⟨station, chan, told⟩ := Station.followed_idle idle c (s.chan (channelOf f)) f
    rw [same, station, chan, told]
    refine ⟨fun k => ?_, fun k => ?_, rfl⟩ <;> split <;> simp [*]
  cases desc : (s.station f).desc with
  | indirect g =>
    cases engaged : (s.station f).engaged with
    | false => exact untaken (fun _ _ => engaged) (by simp only [State.startFollower, desc, engaged, Bool.false_eq_true, if_false])
    | true =>
      obtain ⟨stays, moves, told⟩ := Station.followed_engaged desc engaged c
      have latched := s.latchStation_station f
        (cauFinish c (s.station f).trim g.stepLimit g.trimLimit g.ratio).flags
      have chan := s.latchStation_chan f (cauFinish c (s.station f).trim g.stepLimit g.trimLimit g.ratio).flags
      have lnk := s.latchStation_lnk f (cauFinish c (s.station f).trim g.stepLimit g.trimLimit g.ratio).flags
      rw [told f]
      cases train : (cauFinish c (s.station f).trim g.stepLimit g.trimLimit g.ratio).train with
      | none =>
        have is : s.startFollower c f =
            s.latchStation f (cauFinish c (s.station f).trim g.stepLimit g.trimLimit g.ratio).flags := by
          simp only [State.startFollower, desc, engaged, if_true, train]
        obtain ⟨station, channel⟩ := stays train
        rw [is, station, channel]
        refine ⟨latched, fun k => (chan k).trans ?_, lnk⟩
        split <;> simp [*]
      | some t =>
        obtain ⟨n', c'⟩ := t
        have is : s.startFollower c f =
            (s.latchStation f (cauFinish c (s.station f).trim g.stepLimit g.trimLimit g.ratio).flags).commitTrain f n' c'
              g.rate := by
          simp only [State.startFollower, desc, engaged, if_true, train]
        obtain ⟨station, channel⟩ := moves n' c' train
        rw [is, station, channel]
        refine ⟨fun k => ?_, fun k => ?_, lnk⟩
        · rw [State.commitTrain_committed, latched, latched, if_pos rfl]
          split <;> rfl
        · rw [State.commitTrain_chan, chan, chan]
  | reference =>
    exact untaken (fun g is => by rw [desc] at is; cases is) (by simp only [State.startFollower, desc])
  | resident g =>
    exact untaken (fun g is => by rw [desc] at is; cases is) (by simp only [State.startFollower, desc])
  | invalid =>
    exact untaken (fun g is => by rw [desc] at is; cases is) (by simp only [State.startFollower, desc])

/-- Every station of a list takes its share, each once. -/
theorem State.startFollowers_spec (c : Int) {l : List StationId} (once : l.Nodup) : ∀ s : State,
    (∀ k, (l.foldl (fun s f => s.startFollower c f) s).station k =
        if k ∈ l then (s.station k).followed c else s.station k) ∧
      (∀ k : StationId, (l.foldl (fun s f => s.startFollower c f) s).chan (channelOf k) =
        if k ∈ l then (s.station k).followedChannel c (s.chan (channelOf k)) else s.chan (channelOf k)) ∧
      (l.foldl (fun s f => s.startFollower c f) s).chan 8 = s.chan 8 ∧
      (l.foldl (fun s f => s.startFollower c f) s).lnk =
        s.lnk.raised (l.flatMap fun k => (s.station k).followedTold c k) := by
  induction l with
  | nil => exact fun s => ⟨fun k => by simp, fun k => by simp, rfl, rfl⟩
  | cons f l ih =>
    intro s
    obtain ⟨fresh, rest⟩ := List.nodup_cons.mp once
    obtain ⟨station, chan, lnk⟩ := s.startFollower_spec c f
    obtain ⟨stations, chans, emboss, lnks⟩ := ih rest (s.startFollower c f)
    rw [List.foldl_cons]
    refine ⟨fun k => ?_, fun k => ?_, ?_, ?_⟩
    · rw [stations, station]
      by_cases same : k = f
      · subst same
        simp [fresh]
      · simp [same]
    · rw [chans, chan, station]
      by_cases same : k = f
      · subst same
        simp [fresh]
      · have other : channelOf k ≠ channelOf f := fun h => same (channelOf_injective h)
        simp [same, other]
    · rw [emboss, chan, if_neg fun h => channelOf_ne_emboss f h.symm]
    · have unmoved : (l.flatMap fun k => ((s.startFollower c f).station k).followedTold c k) =
          l.flatMap fun k => (s.station k).followedTold c k := by
        refine flatMap_congr_mem fun k member => ?_
        rw [station, if_neg (by rintro rfl; exact fresh member)]
      rw [lnks, lnk, Lnk.raised_append, unmoved, List.flatMap_cons]

theorem State.mem_followers {i k : StationId} :
    k ∈ s.followers i ↔ ∃ f, (s.station k).desc = .indirect f ∧ f.target = i := by
  simp only [State.followers, List.mem_filter, List.mem_finRange, true_and]
  cases (s.station k).desc <;> simp

theorem State.followers_congr (desc : ∀ k, (u.station k).desc = (s.station k).desc) (i : StationId) :
    u.followers i = s.followers i := by
  unfold State.followers
  simp only [desc]

/-! ### A sample offered, by the station's state -/

section
variable {i : StationId} {d : ResidentDesc} {e : Int}

theorem State.offerSample_eq (s : State) (i : StationId) (d : ResidentDesc) (e : Int) : s.offerSample i d e =
    match (s.station i).st with
    | .seeking | .lost => s.putStation i { s.station i with st := .tracking, acc := [], bad := 0 }
    | .tracking =>
      if (s.station i).acc.length + 1 < d.tuning.averaging then
        s.putStation i { s.station i with acc := (s.station i).acc ++ [e], bad := 0 }
      else (s.putStation i { s.station i with bad := 0 }).stationCompute i d ((s.station i).acc ++ [e])
    | .correcting | .settling | .disengaged => s.putStation i { s.station i with bad := 0 } := rfl

theorem State.offerSample_begins (st : (s.station i).st = .seeking ∨ (s.station i).st = .lost) :
    s.offerSample i d e = s.putStation i { s.station i with st := .tracking, acc := [], bad := 0 } := by
  rw [State.offerSample_eq]
  rcases st with st | st <;> rw [st]

theorem State.offerSample_joins (st : (s.station i).st = .tracking)
    (room : (s.station i).acc.length + 1 < d.tuning.averaging) :
    s.offerSample i d e = s.putStation i { s.station i with acc := (s.station i).acc ++ [e], bad := 0 } := by
  rw [State.offerSample_eq, st]
  exact if_pos room

theorem State.offerSample_full (st : (s.station i).st = .tracking)
    (enough : d.tuning.averaging ≤ (s.station i).acc.length + 1) : s.offerSample i d e =
      (s.putStation i { s.station i with bad := 0 }).stationCompute i d ((s.station i).acc ++ [e]) := by
  rw [State.offerSample_eq, st]
  exact if_neg (Nat.not_lt.mpr enough)

theorem State.offerSample_counts (st : (s.station i).st = .correcting ∨ (s.station i).st = .settling) :
    s.offerSample i d e = s.putStation i { s.station i with bad := 0 } := by
  rw [State.offerSample_eq]
  rcases st with st | st <;> rw [st]

end

/-- What the computation of a full accumulator leaves (R61 to R63, R72). -/
theorem State.stationCompute_spec (s : State) {i : StationId} {d : ResidentDesc} (desc : (s.station i).desc = .resident d)
    (samples : List Int) :
    let r := cauFull (samples.drop (samples.length - d.tuning.averaging)) (s.station i).trim d.tuning
    let counted := { s.station i with acc := [], flags := latchedFlags (s.station i).flags r.flags }
    let t := s.stationCompute i d samples
    (r.train = none → (∀ k, t.station k = if k = i then counted else s.station k) ∧ t.stg = s.stg ∧
      t.lnk = s.lnk.raised (if r.flags.atLimit then [.stationAlarm i] else [])) ∧
    (∀ n c, r.train = some (n, c) →
      t.station i = { committed counted c with st := .correcting } ∧
      t.chan (channelOf i) = trainStarted (s.chan (channelOf i)) n c d.tuning.rate ∧ t.chan 8 = s.chan 8 ∧
      (∀ k, k ≠ i → t.station k = (if k ∈ s.followers i then (s.station k).followed c else s.station k) ∧
        t.chan (channelOf k) = if k ∈ s.followers i then (s.station k).followedChannel c (s.chan (channelOf k))
          else s.chan (channelOf k)) ∧
      t.lnk = s.lnk.raised ((if r.flags.atLimit then [.stationAlarm i] else []) ++
        (s.followers i).flatMap fun k => (s.station k).followedTold c k)) := by
  intro r counted t
  let emptied := s.putStation i { s.station i with acc := [] }
  let latched := emptied.latchStation i r.flags
  have station : ∀ k, latched.station k = if k = i then counted else s.station k := fun k => by
    rw [State.latchStation_station]
    split
    · rw [State.station_putStation_self]
      rfl
    next other => rw [State.station_putStation, if_neg other]
  have own : latched.station i = counted := (station i).trans (if_pos rfl)
  have chan : ∀ c, latched.chan c = s.chan c := fun c => emptied.latchStation_chan i r.flags c
  have lnk : latched.lnk = s.lnk.raised (if r.flags.atLimit then [.stationAlarm i] else []) :=
    emptied.latchStation_lnk i r.flags
  have computed : t = match r.train with
      | none => latched
      | some (n, c) => latched.startStationTrain i n c d.tuning.rate := rfl
  refine ⟨fun train => ?_, fun n c train => ?_⟩
  · rw [train] at computed
    have is : t = latched := computed
    rw [is]
    exact ⟨station, (emptied.latchStation_affects i r.flags).1.stg (by decide), lnk⟩
  · let started := latched.commitTrain i n c d.tuning.rate
    let correcting := started.putStation i { started.station i with st := .correcting }
    rw [train] at computed
    have is : t = (correcting.followers i).foldl (fun s f => s.startFollower c f) correcting := computed
    have own_ : correcting.station i = { committed counted c with st := .correcting } := by
      rw [State.station_putStation_self, State.commitTrain_committed, if_pos rfl, own]
    have others : ∀ k, k ≠ i → correcting.station k = s.station k := fun k other => by
      rw [State.station_putStation, if_neg other, State.commitTrain_committed, if_neg other, station, if_neg other]
    have descs : ∀ k, (correcting.station k).desc = (s.station k).desc := fun k => by
      by_cases same : k = i
      · rw [same, own_]
        rfl
      · rw [others k same]
    have follows := State.followers_congr descs i
    have channels : ∀ k, correcting.chan k =
        if k = channelOf i then trainStarted (s.chan (channelOf i)) n c d.tuning.rate else s.chan k := fun k => by
      rw [State.chan_putStation, State.commitTrain_chan, chan, chan]
    have outside : i ∉ s.followers i := fun member => by
      obtain ⟨f, is, -⟩ := State.mem_followers.mp member
      rw [desc] at is
      cases is
    have once : (s.followers i).Nodup := (List.nodup_finRange 8).filter _
    obtain ⟨stations, chans, emboss, lnks⟩ := State.startFollowers_spec c once correcting
    rw [is, follows]
    refine ⟨?_, ?_, ?_, fun k other => ⟨?_, ?_⟩, ?_⟩
    · rw [stations, if_neg outside, own_]
    · rw [chans, if_neg outside, channels, if_pos rfl]
    · rw [emboss, channels, if_neg fun h => channelOf_ne_emboss i h.symm]
    · rw [stations, others k other]
    · rw [chans, others k other, channels, if_neg fun h => other (channelOf_injective h)]
    · have unmoved : ((s.followers i).flatMap fun k => (correcting.station k).followedTold c k) =
          (s.followers i).flatMap fun k => (s.station k).followedTold c k := by
        refine flatMap_congr_mem fun k member => ?_
        rw [others k (by rintro rfl; exact outside member)]
      rw [lnks, unmoved]
      show (correcting.lnk.raised _) = _
      rw [show correcting.lnk = latched.lnk from rfl, lnk, Lnk.raised_append]

end

/-- Settles O34: the computation, its train, and each follower's share. -/
theorem fullAccumulatorCorrects : Obligations.FullAccumulatorCorrects := by
  intro s i d e desc engaged tracking enough x all r counted share t
  let bad0 := s.putStation i { x with bad := 0 }
  have own : bad0.station i = { x with bad := 0 } := s.station_putStation_self i _
  have others : ∀ k, k ≠ i → bad0.station k = s.station k := fun k other => by
    rw [State.station_putStation, if_neg other]
  have is : t = bad0.stationCompute i d all := by
    show s.offer i (.sample e) = _
    rw [State.offer_taken desc engaged]
    exact State.offerSample_full tracking enough
  have desc0 : (bad0.station i).desc = .resident d := by rw [own]; exact desc
  have follows : bad0.followers i = s.followers i := State.followers_congr (fun k => by
    by_cases same : k = i
    · rw [same, own]
    · rw [others k same]) i
  obtain ⟨stays, moves⟩ := bad0.stationCompute_spec desc0 all
  rw [own] at stays moves
  have frame : SameBut [.rlp, .stg, .lnk] s t := by
    rw [is]
    exact ((s.putStation_affects i _).comp (ds := [.rlp, .stg]) (bad0.stationCompute_affects i d all)).1.mono (by decide)
  refine ⟨frame, fun train => ?_, fun n c train => ?_, ?_⟩
  · obtain ⟨station, stg, -⟩ := stays train
    rw [is]
    refine ⟨(station i).trans (if_pos rfl), fun k other => (station k).trans ?_, stg⟩
    rw [if_neg other, others k other]
  · obtain ⟨station, channel, emboss, rest, -⟩ := moves n c train
    rw [is]
    refine ⟨station, channel, emboss, fun k other => ?_⟩
    obtain ⟨at_, chan_⟩ := rest k other
    rw [others k other, follows] at at_ chan_
    refine ⟨fun idle => ?_, fun f follower target active => ?_⟩
    · by_cases member : k ∈ s.followers i
      · obtain ⟨f, follower, target⟩ := State.mem_followers.mp member
        obtain ⟨same, still, -⟩ := Station.followed_idle (y := s.station k) (fun g is => by
          rw [follower] at is
          cases is
          exact idle f follower target) c (s.chan (channelOf k)) k
        rw [if_pos member] at at_ chan_
        exact ⟨at_.trans same, chan_.trans still⟩
      · rw [if_neg member] at at_ chan_
        exact ⟨at_, chan_⟩
    · intro y q told
      have member : k ∈ s.followers i := State.mem_followers.mpr ⟨f, follower, target⟩
      rw [if_pos member] at at_ chan_
      obtain ⟨none_, some_, -⟩ := Station.followed_engaged follower active c
      refine ⟨fun still => ⟨at_.trans (none_ still).1, chan_.trans ((none_ still).2 _)⟩, fun n' c' starts =>
        ⟨at_.trans (some_ n' c' starts).1, chan_.trans ((some_ n' c' starts).2 _)⟩⟩
  · have told (c : Int) (k : StationId) (m : Notice) : (k ∈ s.followers i ∧ m ∈ (s.station k).followedTold c k) ↔
        ∃ f, (s.station k).desc = .indirect f ∧ f.target = i ∧ (s.station k).engaged = true ∧
          (share f (s.station k) c).flags.atLimit = true ∧ m = .stationAlarm k := by
      rw [State.mem_followers]
      constructor
      · rintro ⟨⟨f, follower, target⟩, member⟩
        simp only [Station.followedTold, follower] at member
        split at member
        next both =>
          obtain ⟨active, limit⟩ := Bool.and_eq_true_iff.mp both
          exact ⟨f, follower, target, active, limit, List.mem_singleton.mp member⟩
        next => cases member
      · rintro ⟨f, follower, target, active, limit, rfl⟩
        refine ⟨⟨f, follower, target⟩, ?_⟩
        rw [(Station.followed_engaged follower active c).2.2 k]
        rw [if_pos limit]
        exact List.mem_singleton_self _
    cases train : r.train with
    | none =>
      obtain ⟨-, -, lnk⟩ := stays train
      refine ⟨_, State.silent_of_raised (by rw [is]; exact lnk), fun m => ?_⟩
      by_cases limit : r.flags.atLimit = true
      · rw [if_pos (by exact limit)]
        simp [limit]
      · rw [if_neg (by exact limit)]
        simp [limit]
    | some p =>
      obtain ⟨n, c⟩ := p
      obtain ⟨-, -, -, -, lnk⟩ := moves n c train
      have unmoved : ((bad0.followers i).flatMap fun k => (bad0.station k).followedTold c k) =
          (s.followers i).flatMap fun k => (s.station k).followedTold c k := by
        rw [follows]
        refine flatMap_congr_mem fun k member => ?_
        rw [others k]
        rintro rfl
        obtain ⟨f, follower, -⟩ := State.mem_followers.mp member
        rw [desc] at follower
        cases follower
      rw [unmoved] at lnk
      refine ⟨_, State.silent_of_raised (by rw [is]; exact lnk), fun m => ?_⟩
      rw [List.mem_append, List.mem_flatMap]
      refine or_congr ?_ ⟨fun ⟨k, both⟩ => ?_, fun ⟨n', c', k, f, same, at_⟩ => ?_⟩
      · by_cases limit : r.flags.atLimit = true
        · rw [if_pos (by exact limit)]
          simp [limit]
        · rw [if_neg (by exact limit)]
          simp [limit]
      · obtain ⟨f, at_⟩ := (told c k m).mp both
        exact ⟨n, c, k, f, rfl, at_⟩
      · cases same
        exact ⟨k, (told c k m).mpr ⟨f, at_⟩⟩

/-! ### Missing outcomes -/

section
variable {s : State} {i : StationId} {d : ResidentDesc}

theorem State.offerBad_eq (s : State) (i : StationId) (d : ResidentDesc) : s.offerBad i d =
    let counted := s.putStation i { s.station i with bad := min ((s.station i).bad + 1) d.missLimit }
    match (s.station i).st with
    | .seeking | .tracking | .settling =>
      if d.missLimit ≤ min ((s.station i).bad + 1) d.missLimit then counted.enterLost i else counted
    | .correcting | .lost | .disengaged => counted := by
  unfold State.offerBad
  simp only [State.station_putStation_self] <;> rfl

/-- Below the missing limit an outcome is counted (R60). -/
theorem State.offerBad_counts (below : (s.station i).bad + 1 < d.missLimit) :
    s.offerBad i d = s.putStation i { s.station i with bad := (s.station i).bad + 1 } := by
  have least : min ((s.station i).bad + 1) d.missLimit = (s.station i).bad + 1 := Nat.min_eq_left (Nat.le_of_lt below)
  have under : ¬d.missLimit ≤ (s.station i).bad + 1 := Nat.not_le.mpr below
  rw [State.offerBad_eq]
  simp only [least, if_neg under]
  cases (s.station i).st <;> rfl

/-- At the missing limit a station that may be lost is (R60). -/
theorem State.offerBad_loses (above : d.missLimit ≤ (s.station i).bad + 1)
    (st : (s.station i).st = .seeking ∨ (s.station i).st = .tracking ∨ (s.station i).st = .settling) :
    s.offerBad i d = (s.putStation i { s.station i with bad := d.missLimit }).enterLost i := by
  rw [State.offerBad_eq]
  simp only [Nat.min_eq_right above, Nat.le_refl, if_true]
  rcases st with st | st | st <;> rw [st]

/-- Another one holds the count there (R60, R64). -/
theorem State.offerBad_holds (st : (s.station i).st = .correcting ∨ (s.station i).st = .lost) : s.offerBad i d =
    s.putStation i { s.station i with bad := if (s.station i).bad + 1 < d.missLimit then (s.station i).bad + 1 else d.missLimit } := by
  have least : min ((s.station i).bad + 1) d.missLimit =
      if (s.station i).bad + 1 < d.missLimit then (s.station i).bad + 1 else d.missLimit := by
    split <;> omega
  rw [State.offerBad_eq, ← least]
  rcases st with st | st <;> rw [st]

end

/-- Settles O33: by the outcome and the station's state. -/
theorem offeredOutcomesMoveTheStation : Obligations.OfferedOutcomesMoveTheStation := by
  intro s i x
  refine ⟨fun out o => State.offer_untaken out o, fun d desc engaged => ⟨fun e => ?_, fun o bad => ?_⟩⟩
  · have taken : s.offer i (.sample e) = s.offerSample i d e := State.offer_taken desc engaged _
    refine ⟨fun st => taken.trans (State.offerSample_begins st), fun st room => taken.trans (State.offerSample_joins st room),
      fun st enough => ?_, fun st => taken.trans (State.offerSample_counts st)⟩
    obtain ⟨-, stays, moves, -⟩ := fullAccumulatorCorrects s i d e desc engaged st enough
    generalize cauFull _ _ _ = r at stays moves
    cases train : r.train with
    | none =>
      rw [(stays train).1]
      exact ⟨rfl, rfl⟩
    | some p =>
      rw [(moves p.1 p.2 train).1]
      exact ⟨rfl, rfl⟩
  · have taken : s.offer i o = s.offerBad i d := by
      rw [State.offer_taken desc engaged]
      rcases bad with rfl | rfl <;> rfl
    rw [taken]
    refine ⟨fun st => ⟨State.offerBad_counts, fun above => ?_⟩, State.offerBad_holds⟩
    rw [State.offerBad_loses above st]
    let u := s.putStation i { x with bad := d.missLimit }
    obtain ⟨-, lsc, -, lnk⟩ := u.enterLost_spec i
    refine ⟨?_, lsc.trans (State.raiseCause_congr (s := s) (u := u) rfl rfl rfl rfl _).1, State.silent_of_raised lnk⟩
    rw [State.enterLost_station, if_pos rfl, State.station_putStation_self]

/-! ### The end of a train -/

section
variable {s u : State} {i l : StationId} {d : ResidentDesc}

theorem belongsTo_leaderOf (s : State) (i : StationId) : BelongsTo s (s.leaderOf i) i := by
  unfold BelongsTo State.leaderOf
  split
  next f desc => exact .inr ⟨f, desc, rfl⟩
  next => exact .inl rfl

theorem belongsTo_iff (desc : (s.station l).desc = .resident d) : BelongsTo s l i ↔ s.leaderOf i = l := by
  refine ⟨?_, fun is => is ▸ belongsTo_leaderOf s i⟩
  rintro (rfl | ⟨f, follower, target⟩)
  · exact State.leaderOf_resident (by rw [Station.isResident, desc])
  · unfold State.leaderOf
    rw [follower]
    exact target

theorem State.correctingEnd_idle (idle : ∀ d, (s.station l).desc = .resident d → (s.station l).st ≠ .correcting) :
    s.correctingEnd l = s := by
  unfold State.correctingEnd
  split
  next d desc => rw [if_neg (by simp [idle d desc])]
  next => rfl

theorem State.correctingEnd_eq (desc : (s.station l).desc = .resident d) (st : (s.station l).st = .correcting) :
    s.correctingEnd l =
      if s.trainsInFlight l = true then s
      else if d.missLimit ≤ (s.station l).bad then s.enterLost l
      else s.putStation l { s.station l with
        st := .settling, settleEnd := some (fwd s.wpu.h (d.settle + (s.lsc.job.map Job.L).getD 0)) } := by
  unfold State.correctingEnd
  rw [desc]
  simp only [st, decide_true, Bool.true_and]
  cases s.trainsInFlight l <;> rfl

/-- A train of a leader or of a follower other than station i is in flight, when i's own has stopped. -/
theorem State.trainsInFlight_stopped (desc : (u.station l).desc = .resident d) (descs : ∀ k, (u.station k).desc = (s.station k).desc)
    (chans : ∀ k, (u.chan (channelOf k)).inFlight = if k = i then false else (s.chan (channelOf k)).inFlight) :
    u.trainsInFlight l = true ↔ ∃ k, k ≠ i ∧ BelongsTo s l k ∧ (s.chan (channelOf k)).inFlight = true := by
  have desc' : (s.station l).desc = .resident d := (descs l).symm.trans desc
  rw [State.trainsInFlight_iff (by rw [Station.isResident, desc])]
  refine exists_congr fun k => ?_
  rw [belongsTo_iff desc', chans, State.leaderOf_congr (descs k)]
  split
  next same => simp [same]
  next other => simp [other]

end

theorem State.putStation_sameBut (s : State) (i : StationId) (x : Station) : SameBut [.rlp] s (s.putStation i x) := by
  intro b hb
  cases b <;> first | rfl | simp at hb

theorem State.putChan_sameBut (s : State) (c : ChannelId) (x : Channel) : SameBut [.stg] s (s.putChan c x) := by
  intro b hb
  cases b <;> first | rfl | simp at hb

/-- What the completion of a station's train leaves, in a state u that differs from s in the step channels (R64, R67). -/
theorem State.stationTrainDone_spec {s u : State} {i : StationId} (frame : SameBut [.stg] s u)
    (stopped : ∀ k, (u.chan (channelOf k)).inFlight = if k = i then false else (s.chan (channelOf k)).inFlight) :
    let t := u.stationTrainDone i
    let done := { s.station i with train := none }
    (∀ k, k ≠ i → k ≠ s.leaderOf i → t.station k = s.station k) ∧
      ((∀ leader d, BelongsTo s leader i → (s.station leader).desc = .resident d → (s.station leader).st ≠ .correcting) →
        t = u.putStation i done) ∧
      (∀ (leader : StationId) (d : ResidentDesc) (j : Job), s.lsc.job = some j → BelongsTo s leader i →
        (s.station leader).desc = .resident d → (s.station leader).st = .correcting →
        let held := if leader = i then done else s.station leader
        (leader ≠ i → t.station i = done) ∧
        ((∃ k, k ≠ i ∧ BelongsTo s leader k ∧ (s.chan (channelOf k)).inFlight = true) →
          t = u.putStation i done ∧ t.station leader = held) ∧
        ((∀ k, k ≠ i → BelongsTo s leader k → (s.chan (channelOf k)).inFlight = false) →
          ((s.station leader).bad < d.missLimit →
            t.station leader = { held with st := .settling, settleEnd := some (fwd s.wpu.h (d.settle + j.L)) } ∧
              SameBut [.rlp] u t) ∧
          (d.missLimit ≤ (s.station leader).bad →
            t.station leader = { held with st := .lost, acc := [], settleEnd := none } ∧
              t.lsc = (s.raiseCause .stationLost).lsc ∧ t.emb = (s.raiseCause .stationLost).emb ∧
              t.lnk = s.lnk.raised (.stationAlarm leader :: causeTold s .stationLost)))) := by
  intro t done
  have rlp := frame.rlp (by decide)
  have stations : ∀ k, u.station k = s.station k := fun k => by unfold State.station; rw [rlp]
  let v := u.putStation i done
  have vstation : ∀ k, v.station k = if k = i then done else s.station k := fun k => by
    rw [State.station_putStation, stations]
  have descs : ∀ k, (v.station k).desc = (s.station k).desc := fun k => by
    rw [vstation]
    split
    next same => rw [same]
    next => rfl
  have is : t = v.correctingEnd (s.leaderOf i) := by
    show u.stationTrainDone i = _
    rw [State.stationTrainDone, stations, State.leaderOf_congr (s := s) (congrArg _ (stations i))]
  have st : ∀ k, (v.station k).st = (s.station k).st ∧ (v.station k).bad = (s.station k).bad := fun k => by
    rw [vstation]
    split
    next same => exact ⟨by rw [same], by rw [same]⟩
    next => exact ⟨rfl, rfl⟩
  refine ⟨fun k other unled => ?_, fun idle => ?_, fun leader d j job belongs desc correcting => ?_⟩
  · have own : v.station k = s.station k := (vstation k).trans (if_neg other)
    rw [is, ← own]
    unfold State.correctingEnd
    split
    · split
      · split
        · rw [State.enterLost_station, if_neg unled]
        · rw [State.station_putStation, if_neg unled]
      · rfl
    · rfl
  · rw [is]
    refine State.correctingEnd_idle fun d desc => ?_
    rw [(st _).1]
    exact idle _ d (belongsTo_leaderOf s i) ((descs _).symm.trans desc)
  · intro held
    have lead : s.leaderOf i = leader := (belongsTo_iff desc).mp belongs
    have vdesc : (v.station leader).desc = .resident d := (descs leader).trans desc
    have vheld : v.station leader = held := vstation leader
    have ended := State.correctingEnd_eq vdesc ((st leader).1.trans correcting)
    rw [lead] at is
    rw [(st leader).2] at ended
    have flying := State.trainsInFlight_stopped (s := s) (u := v) (i := i) vdesc descs stopped
    refine ⟨fun other => ?_, fun some_ => ?_, fun none_ => ?_⟩
    · have own : v.station i = done := (vstation i).trans (if_pos rfl)
      rw [is, ended]
      split
      · exact own
      · split
        · rw [State.enterLost_station, if_neg fun h => other h.symm, own]
        · rw [State.station_putStation, if_neg fun h => other h.symm, own]
    · rw [is, ended, if_pos (flying.mpr some_)]
      exact ⟨rfl, vheld⟩
    · have landed : ¬v.trainsInFlight leader = true := fun flies => by
        obtain ⟨k, other, belongs', inFlight⟩ := flying.mp flies
        rw [none_ k other belongs'] at inFlight
        cases inFlight
      rw [if_neg landed] at ended
      refine ⟨fun below => ?_, fun above => ?_⟩
      · rw [if_neg (Nat.not_le.mpr below)] at ended
        rw [is, ended, State.station_putStation_self, vheld]
        refine ⟨?_, ?_⟩
        · rw [show v.wpu = s.wpu from frame.wpu (by decide), show v.lsc = s.lsc from frame.lsc (by decide), job]
          rfl
        · exact (u.putStation_sameBut i done).trans (v.putStation_sameBut leader _)
      · rw [if_pos above] at ended
        obtain ⟨-, lsc, emb, lnk⟩ := v.enterLost_spec leader
        obtain ⟨lsc', emb', told⟩ := State.raiseCause_congr (s := s) (u := v) (frame.lsc (by decide)) (frame.emb (by decide))
          (congrArg _ (frame.trk (by decide))) (congrArg _ (frame.wpu (by decide))) .stationLost
        rw [is, ended]
        refine ⟨?_, lsc.trans lsc', emb.trans emb', ?_⟩
        · rw [State.enterLost_station, if_pos rfl, vheld]
        · rw [lnk, told, show v.lnk = s.lnk from frame.lnk (by decide)]

/-- Settles O32: the emitted step, then what the channel's owner makes of the completion. -/
theorem stepPulseEmitsAndEndsATrain : Obligations.StepPulseEmitsAndEndsATrain := by
  intro c s x
  let u := s.putChan c x.emit
  let v := if x.inFlight then (if x.emit.inFlight then u else u.trainDone c) else s
  have runs : exec (.stepPulse c) s = .next v.endOfEvent := rfl
  have emitted : ∀ k, u.chan k = if k = c then x.emit else s.chan k := fun k => s.chan_putChan c k _
  have first : SameBut [.stg] s u := s.putChan_sameBut c _
  cases flying : x.inFlight with
  | false =>
    have is : v = s := by simp only [v, flying, Bool.false_eq_true, if_false]
    rw [is] at runs
    refine ⟨_, runs, fun k _ => s.endOfEvent_chan k, fun _ => ⟨s.endOfEvent_sameBut, State.endOfEvent_silent_of_eq s s rfl⟩,
      nofun, nofun, nofun⟩
  | true =>
    by_cases more : 1 < x.remaining
    · have is : v = u := by
        simp only [v, flying, if_true]
        exact if_pos (decide_eq_true more)
      rw [is] at runs
      refine ⟨_, runs, fun k other => ?_, nofun, fun _ => ?_, fun _ _ => ⟨?_, State.endOfEvent_silent_of_eq s u rfl⟩,
        fun _ last => absurd more (Nat.not_lt.mpr last)⟩
      · rw [State.endOfEvent_chan, emitted, if_neg other]
      · rw [State.endOfEvent_chan, emitted, if_pos rfl]
        rfl
      · exact (first.mono (by decide)).trans (u.endOfEvent_sameBut.mono (by decide))
    · have is : v = u.trainDone c := by
        simp only [v, flying, if_true]
        exact if_neg (by simp [Channel.emit, more])
      rw [is] at runs
      have done_frame := u.trainDone_affects c
      have chan : ∀ k, (u.trainDone c).chan k = u.chan k := fun k => by
        unfold State.chan
        rw [done_frame.1.stg (by decide)]
      refine ⟨_, runs, fun k other => ?_, nofun, fun _ => ?_, fun _ many => absurd many more, fun _ _ => ⟨?_, ?_⟩⟩
      · rw [State.endOfEvent_chan, chan, emitted, if_neg other]
      · rw [State.endOfEvent_chan, chan, emitted, if_pos rfl]
        rfl
      · rintro rfl
        have ended : u.trainDone 8 = u.embossTrainDone := rfl
        rw [ended]
        refine ⟨?_, ?_, State.endOfEvent_silent_of_eq s _ rfl⟩
        · rw [State.endOfEvent_emb]
          rfl
        · have second : SameBut [.stg, .emb, .lnk] u u.embossTrainDone := (affects_emb u _).1.mono (by decide)
          exact ((first.mono (by decide)).trans second).trans (State.endOfEvent_sameBut _ |>.mono (by decide))
      · rintro i rfl
        intro done
        have ended : u.trainDone (channelOf i) = u.stationTrainDone i := by
          unfold State.trainDone
          exact dif_pos i.isLt
        have stopped : ∀ k, (u.chan (channelOf k)).inFlight = if k = i then false else (s.chan (channelOf k)).inFlight := by
          intro k
          rw [emitted]
          by_cases same : k = i
          · rw [same, if_pos rfl, if_pos rfl]
            simp [Channel.emit, more]
          · rw [if_neg fun h => same (channelOf_injective h), if_neg same]
        obtain ⟨others, alone, led⟩ := State.stationTrainDone_spec first stopped
        rw [← ended] at others alone led
        have all : SameBut [.stg, .rlp, .lsc, .emb, .lnk] s (u.trainDone (channelOf i)).endOfEvent :=
          (first.mono (by decide)).trans (done_frame.endOfEvent)
        have quiet : u.trainDone (channelOf i) = u.putStation i done → SameBut [.stg, .rlp, .lnk] s
            (u.trainDone (channelOf i)).endOfEvent ∧ Silent s (u.trainDone (channelOf i)).endOfEvent [] := fun is => by
          rw [is]
          exact ⟨((first.mono (by decide)).trans ((u.putStation_sameBut i done).mono (by decide))).trans
            ((State.endOfEvent_sameBut _).mono (by decide)), State.endOfEvent_silent_of_eq s _ rfl⟩
        simp only [State.endOfEvent_station, State.endOfEvent_lsc, State.endOfEvent_emb]
        refine ⟨all, others, fun idle => ?_, fun leader d j job belongs desc correcting => ?_⟩
        · have is := alone idle
          obtain ⟨frame, silent⟩ := quiet is
          have at_ : ∀ k, (u.putStation i done).station k = if k = i then done else s.station k := fun k =>
            u.station_putStation i k done
          refine ⟨by rw [is, at_, if_pos rfl], fun k other => by rw [is, at_, if_neg other], frame, silent⟩
        · obtain ⟨own, busy, over_⟩ := led leader d j job belongs desc correcting
          refine ⟨own, fun some_ => ?_, fun none_ => ⟨fun below => ?_, fun above => ?_⟩⟩
          · obtain ⟨is, held⟩ := busy some_
            exact ⟨held, quiet is⟩
          · obtain ⟨settling, frame⟩ := (over_ none_).1 below
            refine ⟨settling, ?_, State.endOfEvent_silent_of_eq s _ ?_⟩
            · exact ((first.mono (by decide)).trans (frame.mono (by decide))).trans ((State.endOfEvent_sameBut _).mono (by decide))
            · exact frame.lnk (by decide)
          · obtain ⟨lost, lsc, emb, lnk⟩ := (over_ none_).2 above
            exact ⟨lost, lsc, emb, State.endOfEvent_silent s _ _ lnk⟩

end Sys2Proof.Machine
end

section
/-! PROOFS. The closings hand a repeat's outcomes to its record and to the stations (O22). -/

namespace Sys2Proof.Machine

-- one proof at a time: the joined package would else open a thread for each of them
set_option Elab.async false

/-- A command's next state lies in the command's frame. -/
theorem frame_of_exec {c : Instr} {s t : State} (runs : exec c s = .next t) : SameBut (blocksOf c) s t := by
  obtain ⟨u, is, frame⟩ := exec_sameBut c s
  rw [runs] at is
  injection is with same
  exact same ▸ frame

/-- Two states whose blocks are the same are one state. -/
theorem State.eq_of_blocks {s t : State} (same : ∀ b : Block, b.same s t) : t = s := by
  have pins : t.pins = s.pins := same .pins
  have wpu : t.wpu = s.wpu := same .wpu
  have trk : t.trk = s.trk := same .trk
  have msc : t.msc = s.msc := same .msc
  have rlp : t.rlp = s.rlp := same .rlp
  have stg : t.stg = s.stg := same .stg
  have emb : t.emb = s.emb := same .emb
  have shu : t.shu = s.shu := same .shu
  have wnd : t.wnd = s.wnd := same .wnd
  have rlg : t.rlg = s.rlg := same .rlg
  have bat : t.bat = s.bat := same .bat
  have lbc : t.lbc = s.lbc := same .lbc
  have lsc : t.lsc = s.lsc := same .lsc
  have lnk : t.lnk = s.lnk := same .lnk
  have pending : t.pending = s.pending := same .pending
  cases s
  cases t
  simp_all

/-- A state that differs from another in its stations only. -/
theorem State.eq_of_sameBut_rlp {s t : State} (frame : SameBut [.rlp] s t) : t = { s with rlp := t.rlp } := by
  refine State.eq_of_blocks fun b => ?_
  have same := frame b
  cases b
  case rlp => exact rfl
  all_goals exact same (by decide)

/-! ### The class and the worst error of a record -/

section
variable {s : State} {written : Vector StationOutcome 8}

theorem State.isOut_iff {i : StationId} {o : StationOutcome} : (s.station i).isOut o = true ↔
    ∃ d e, (s.station i).desc = .resident d ∧ o = .sample e ∧ d.tol < e.natAbs := by
  unfold Station.isOut
  split
  next d e desc =>
    refine ⟨fun h => ⟨d, e, desc, rfl, of_decide_eq_true h⟩, ?_⟩
    rintro ⟨d', e', desc', is, far⟩
    cases desc.symm.trans desc'
    cases is
    exact decide_eq_true far
  next other =>
    refine ⟨fun h => absurd h (by simp), ?_⟩
    rintro ⟨d, e, desc, rfl, _⟩
    exact (other d e desc rfl).elim

theorem StationOutcome.isSample_iff {o : StationOutcome} : o.isSample = true ↔ ∃ e, o = .sample e := by
  cases o <;> simp [StationOutcome.isSample]

/-- One step of the search for the worst error. -/
def State.worstStep (s : State) (written : Vector StationOutcome 8) (held : Option Int) (i : StationId) : Option Int :=
  if (s.station i).isResident then
    match written[i] with
    | .sample e => worse held e
    | _ => held
  else held

/-- A station's sample counts for the record. -/
def State.IsSample (s : State) (written : Vector StationOutcome 8) (i : StationId) (e : Int) : Prop :=
  (s.station i).isResident = true ∧ written[i] = .sample e

theorem State.worstStep_none {held : Option Int} {i : StationId} (no : ∀ e, ¬s.IsSample written i e) :
    s.worstStep written held i = held := by
  unfold State.worstStep
  split
  next resident =>
    split
    next e is => exact (no e ⟨resident, is⟩).elim
    next => rfl
  next => rfl

theorem State.worstStep_some {held : Option Int} {i : StationId} {e : Int} (is : s.IsSample written i e) :
    s.worstStep written held i = worse held e := by
  unfold State.worstStep
  rw [if_pos is.1, is.2]

/-- What stands before the worst sample has a smaller magnitude, so the worst sample is found. -/
theorem State.worstStep_keeps {w : Int} {l : List StationId}
    (least : ∀ k ∈ l, ∀ e, s.IsSample written k e → e.natAbs ≤ w.natAbs) :
    l.foldl (s.worstStep written) (some w) = some w := by
  induction l with
  | nil => rfl
  | cons k l ih =>
    have step : s.worstStep written (some w) k = some w := by
      by_cases is : ∃ e, s.IsSample written k e
      · obtain ⟨e, is⟩ := is
        have small := least k (by simp) e is
        rw [State.worstStep_some is]
        simp only [worse]
        rw [if_neg (by omega)]
      · exact State.worstStep_none (not_exists.mp is)
    rw [List.foldl_cons, step]
    exact ih fun k' member => least k' (by simp [member])

theorem State.worstStep_finds {i : StationId} {w : Int} (is : s.IsSample written i w) {l : List StationId}
    (sorted : l.Pairwise (· < ·)) (member : i ∈ l)
    (least : ∀ k e, s.IsSample written k e → e.natAbs < w.natAbs ∨ (e.natAbs = w.natAbs ∧ i ≤ k)) :
    ∀ held : Option Int, (∀ x ∈ held, x.natAbs < w.natAbs) → l.foldl (s.worstStep written) held = some w := by
  induction l with
  | nil => exact absurd member (by simp)
  | cons k l ih =>
    intro held small
    obtain ⟨before, sorted⟩ := List.pairwise_cons.mp sorted
    rw [List.foldl_cons]
    by_cases same : k = i
    · subst same
      have found : s.worstStep written held k = some w := by
        rw [State.worstStep_some is]
        cases held with
        | none => rfl
        | some x => exact if_pos (small x rfl)
      rw [found]
      refine State.worstStep_keeps fun k' _ e is' => ?_
      rcases least k' e is' with h | h <;> omega
    · have rest : i ∈ l := (List.mem_cons.mp member).resolve_left fun h => same h.symm
      refine ih sorted rest _ fun x hx => ?_
      by_cases sample : ∃ e, s.IsSample written k e
      · obtain ⟨e, is'⟩ := sample
        have less : e.natAbs < w.natAbs := by
          rcases least k e is' with h | ⟨_, h⟩
          · exact h
          · exact absurd (before i rest) (Fin.not_lt.mpr h)
        rw [State.worstStep_some is'] at hx
        cases held with
        | none =>
          cases hx
          exact less
        | some y =>
          have old := small y rfl
          simp only [worse, Option.mem_def] at hx
          split at hx <;> cases hx
          · exact less
          · exact old
      · rw [State.worstStep_none (not_exists.mp sample)] at hx
        exact small x hx

theorem State.worstError_eq (s : State) (written : Vector StationOutcome 8) :
    s.worstError written = (List.finRange 8).foldl (s.worstStep written) none := rfl

/-- The register class and the worst error of a MARKED record (R59). -/
theorem State.classAndWorst (s : State) (written : Vector StationOutcome 8) :
    ClassAndWorst s written (s.regClass .marked written) (s.worstError written) := by
  have outside : ((List.finRange 8).filter fun i => (s.station i).isResident).any (fun i => (s.station i).isOut written[i]) =
      true ↔ ∃ i d e, (s.station i).desc = .resident d ∧ written[i] = .sample e ∧ d.tol < e.natAbs := by
    simp only [List.any_eq_true, List.mem_filter, List.mem_finRange, true_and, State.isOut_iff]
    refine ⟨fun ⟨i, _, h⟩ => ⟨i, h⟩, fun ⟨i, d, e, desc, h⟩ => ⟨i, ?_, d, e, desc, h⟩⟩
    simp [Station.isResident, desc]
  have inside : ((List.finRange 8).filter fun i => (s.station i).isResident).all (fun i => written[i].isSample) = true ↔
      ∀ i : StationId, (s.station i).isResident = true → ∃ e, written[i] = .sample e := by
    simp only [List.all_eq_true, List.mem_filter, List.mem_finRange, true_and, StationOutcome.isSample_iff]
  have cls : s.regClass .marked written =
      if ((List.finRange 8).filter fun i => (s.station i).isResident).any (fun i => (s.station i).isOut written[i]) then
        .outside
      else if ((List.finRange 8).filter fun i => (s.station i).isResident).all (fun i => written[i].isSample) then .inside
      else .unknown := rfl
  refine ⟨fun out => ?_, fun out whole => ?_, fun out whole => ?_, fun none_ => ?_, fun i e is least => ?_⟩
  · rw [cls, if_pos (outside.mpr out)]
  · rw [cls, if_neg (mt outside.mp out), if_pos (inside.mpr whole)]
  · rw [cls, if_neg (mt outside.mp out), if_neg (mt inside.mp whole)]
  · rw [State.worstError_eq]
    have stays (l : List StationId) : l.foldl (s.worstStep written) none = none := by
      induction l with
      | nil => rfl
      | cons k l ih => rw [List.foldl_cons, State.worstStep_none (none_ k), ih]
    exact stays _
  · rw [State.worstError_eq]
    exact State.worstStep_finds is (List.pairwise_lt_finRange 8) (List.mem_finRange i) least none (by simp)

/-! ### The outcomes -/

theorem formOutcome_isOutcome (j : Job) (x : Capture) (offset : Nat) :
    IsOutcome j x offset (formOutcome j x.origin offset x.edges x.overflow) := by
  have window : (fun y => decide (-(j.wMark : Int) ≤ ahead y (fwd x.origin offset) ∧
      ahead y (fwd x.origin offset) ≤ j.wMark)) =
      fun y => decide ((ahead y (fwd x.origin offset)).natAbs ≤ j.wMark) := by
    funext y
    rw [decide_eq_decide]
    omega
  unfold IsOutcome formOutcome
  dsimp only
  rw [window]
  refine ⟨fun ⟨p, is, late⟩ => ?_, fun early => ?_⟩
  · rw [if_pos (by rw [is]; exact late)]
  · have open_ : (x.overflow.any fun p => reached (fwd (fwd x.origin offset) j.wMark) p) = false := by
      cases is : x.overflow with
      | none => rfl
      | some p => exact early p is
    rw [open_, if_neg (by simp)]
    refine ⟨fun none_ => by rw [none_], fun y one => by rw [one], fun many => ?_⟩
    split
    next none_ => simp [none_] at many
    next y one => simp [one] at many
    next => rfl

/-! ### The stations are told -/

/-- A RESIDENT station is told its outcome. -/
def State.tell (written : Vector StationOutcome 8) (t : State) (i : StationId) : State :=
  if (t.station i).isResident then t.putStation i { t.station i with lastOutcome := some written[i] } else t

/-- A station told its outcome. -/
def Station.told (x : Station) (o : StationOutcome) : Station :=
  if x.isResident then { x with lastOutcome := some o } else x

theorem State.tell_station (t : State) (i k : StationId) : (State.tell written t i).station k =
    if k = i then (t.station i).told written[i] else t.station k := by
  unfold State.tell Station.told
  split
  · rw [State.station_putStation]
  · split <;> simp [*]

theorem State.tell_foldl (s : State) {l : List StationId} (once : l.Nodup) :
    SameBut [.rlp] s (l.foldl (State.tell written) s) ∧
      ∀ k, (l.foldl (State.tell written) s).station k = if k ∈ l then (s.station k).told written[k] else s.station k := by
  induction l generalizing s with
  | nil => exact ⟨SameBut.refl _ s, fun k => by simp⟩
  | cons i l ih =>
    obtain ⟨fresh, rest⟩ := List.nodup_cons.mp once
    obtain ⟨frame, station⟩ := ih (State.tell written s i) rest
    have one : SameBut [.rlp] s (State.tell written s i) := by
      unfold State.tell
      split
      · exact s.putStation_sameBut i _
      · exact SameBut.refl _ s
    refine ⟨one.trans frame, fun k => ?_⟩
    rw [List.foldl_cons, station, State.tell_station]
    by_cases same : k = i
    · subst same
      simp [fresh]
    · simp [same]

/-- All the stations told. -/
theorem State.tell_all (s : State) : (List.finRange 8).foldl (State.tell written) s =
    { s with rlp := { stations := Vector.ofFn fun i : Fin 8 =>
      if (s.station i).isResident then { s.station i with lastOutcome := some written[i] } else s.station i } } := by
  obtain ⟨frame, station⟩ := s.tell_foldl (written := written) (List.nodup_finRange 8)
  generalize (List.finRange 8).foldl (State.tell written) s = t at frame station ⊢
  rw [State.eq_of_sameBut_rlp frame]
  refine congrArg (fun x => ({ s with rlp := x } : State)) (congrArg Rlp.mk (Vector.ext fun k hk => ?_))
  have is := station ⟨k, hk⟩
  rw [if_pos (List.mem_finRange _)] at is
  rw [Vector.getElem_ofFn]
  exact is

end

/-! ### The closings -/

section
variable {s : State} {j : Job} {c : Closing} {rest : List Closing}

theorem State.closingDue_cons (closings : s.msc.closings = c :: rest) (j : Job) :
    s.closingDue j = if reached s.wpu.h (fwd c.origin (s.msc.oMax + j.wMark)) = true then some c else none := by
  unfold State.closingDue
  rw [closings]
  rfl

/-- A command that takes a due closing of one kind, where none is due, changes nothing. -/
theorem State.closing_waits (job : s.lsc.job = some j) {kind : OriginKind} {f : Job → Closing → State}
    (waits : ∀ c rest, s.msc.closings = c :: rest →
      c.kind ≠ kind ∨ reached s.wpu.h (fwd c.origin (s.msc.oMax + j.wMark)) = false) :
    (s.withJob fun j => match s.closingDue j with
      | some c => if c.kind = kind then f j c else s
      | none => s) = s := by
  rw [withJob_some _ job]
  cases closings : s.msc.closings with
  | nil => simp only [State.closingDue, closings]
  | cons c rest =>
    rw [State.closingDue_cons closings]
    rcases waits c rest closings with other | early
    · split
      next is =>
        split at is
        · cases is
          exact if_neg other
        · cases is
      next => rfl
    · rw [early, if_neg (by simp)]

end

/-- The track and the stations after outcomes have been handed over (R58). -/
def State.handed (s : State) (index : BitVec 32) (written : Vector StationOutcome 8) (cls : RegClass) (worst : Option Int) :
    State :=
  { s with
    trk := { s.trk with records := s.trk.records.map fun r =>
      if r.index = index ∧ r.cls = .pending then { r with outcomes := written, cls := cls, worst := worst } else r }
    rlp := { stations := Vector.ofFn fun i : Fin 8 =>
      if (s.station i).isResident then { s.station i with lastOutcome := some written[i] } else s.station i } }

theorem State.outcomeTransfer_steps (s : State) (index : BitVec 32) (kind : OriginKind) (formed : Vector StationOutcome 8) :
    s.outcomeTransfer index kind formed =
      let written := s.writtenOutcomes formed
      let told := (List.finRange 8).foldl (State.tell written)
        (s.updateRecord index fun r => r.close written (s.regClass kind written) (s.worstError written))
      match kind with
      | .marked => (List.finRange 8).foldl (fun (u : State) i => u.offer i written[i]) told
      | .flywheel => told := by
  unfold State.outcomeTransfer
  generalize List.finRange 8 = l
  rfl

/-- What the hand-over of outcomes does (R58). -/
theorem State.outcomeTransfer_eq (s : State) (index : BitVec 32) (kind : OriginKind) (formed : Vector StationOutcome 8) :
    let written := s.writtenOutcomes formed
    let handed := s.handed index written (s.regClass kind written) (s.worstError written)
    s.outcomeTransfer index kind formed =
      match kind with
      | .marked => (List.finRange 8).foldl (fun (u : State) i => u.offer i written[i]) handed
      | .flywheel => handed := by
  intro written handed
  have records : (fun r : RepeatRecord =>
      if r.index = index then r.close written (s.regClass kind written) (s.worstError written) else r) = fun r =>
      if r.index = index ∧ r.cls = .pending then
        { r with outcomes := written, cls := s.regClass kind written, worst := s.worstError written } else r := by
    funext r
    unfold RepeatRecord.close
    (repeat' split) <;> simp_all
  have told := State.tell_all (written := written)
    (s.updateRecord index fun r => r.close written (s.regClass kind written) (s.worstError written))
  have done_ : (List.finRange 8).foldl (State.tell written)
      (s.updateRecord index fun r => r.close written (s.regClass kind written) (s.worstError written)) = handed := by
    rw [told]
    unfold State.updateRecord
    rw [records]
    rfl
  rw [State.outcomeTransfer_steps]
  dsimp only
  rw [done_]

/-- The outcomes written for the stations (R58). -/
theorem State.writtenOutcomes_get (s : State) (formed : Vector StationOutcome 8) (i : StationId) :
    (s.writtenOutcomes formed)[i] = if (s.station i).isResident then (s.station i).written formed[i] else .notUsed := by
  simp [State.writtenOutcomes]

/-- The outcomes that a FLYWHEEL repeat hands over (R36, R58). -/
theorem State.writtenOutcomes_missing (s : State) : s.writtenOutcomes (Vector.replicate 8 .missing) =
    Vector.ofFn fun i : Fin 8 =>
      if (s.station i).isResident then (if (s.station i).engaged then .missing else .notEngaged) else .notUsed := by
  unfold State.writtenOutcomes Station.written
  simp

/-- A record of a FLYWHEEL repeat has no sample, and so no worst error. -/
theorem State.worstError_none (s : State) {written : Vector StationOutcome 8} (no : ∀ (i : StationId) (e : Int), written[i] ≠ .sample e) :
    s.worstError written = none :=
  (s.classAndWorst written).2.2.2.1 fun i e is => no i e is.2

/-- Settles O22: the outcomes are handed over by one operation, which the two closings share; of a MARKED repeat they are
then offered. -/
theorem closingsHandTheOutcomes : Obligations.ClosingsHandTheOutcomes := by
  refine ⟨fun s j c rest x job closings kind capture due => ?_, fun s j c rest job closings kind due => ?_,
    fun s j job => ⟨fun waits => ?_, fun waits => ?_⟩⟩
  · let written := s.writtenOutcomes (s.msc.formAll j x)
    let v : State := { s with msc := { s.msc with closings := rest, capture := none } }
    have closed : s.closeCapture j c = v.outcomeTransfer c.index .marked (s.msc.formAll j x) := by
      unfold State.closeCapture
      rw [capture]
      unfold State.popClosing
      rw [closings]
      rfl
    have runs : exec .captureClose s = .next (s.closeCapture j c).endOfEvent := by
      have taken : (s.withJob fun j => match s.closingDue j with
          | some c => if c.kind = .marked then s.closeCapture j c else s
          | none => s) = s.closeCapture j c := by
        rw [State.withJob_some _ job, State.closingDue_cons closings, if_pos due]
        exact if_pos kind
      exact congrArg (fun u => Host.Outcome.next u.endOfEvent) taken
    refine ⟨written, s.regClass .marked written, s.worstError written, _, fun i => ⟨?_, ?_, ?_⟩, s.classAndWorst written,
      runs, frame_of_exec runs, ?_⟩
    · intro other
      rw [State.writtenOutcomes_get, other, if_neg (by simp)]
    · intro resident idle
      rw [State.writtenOutcomes_get, if_pos resident]
      exact if_neg (by simp [idle])
    · intro offset resident engaged held
      have formed : (s.msc.formAll j x)[i] = formOutcome j x.origin offset x.edges x.overflow := by
        unfold Msc.formAll
        have get : ∀ f : Option Nat → StationOutcome, (s.msc.offsets.map f)[i] = f s.msc.offsets[i] := fun f => by simp
        rw [get, held]
      have is : written[i] = formOutcome j x.origin offset x.edges x.overflow := by
        rw [State.writtenOutcomes_get, if_pos resident]
        exact (if_pos engaged).trans formed
      rw [is]
      exact formOutcome_isOutcome j x offset
    · intro told
      rw [closed, State.outcomeTransfer_eq]
      rfl
  · intro told
    let v : State := { s with msc := { s.msc with closings := rest } }
    have popped : s.popClosing = v := by
      unfold State.popClosing
      rw [closings]
      rfl
    have written : v.writtenOutcomes (Vector.replicate 8 .missing) = Vector.ofFn told := s.writtenOutcomes_missing
    have worst : v.worstError (Vector.ofFn told) = none := by
      refine v.worstError_none fun i e is => ?_
      simp only [told, Fin.getElem_fin, Vector.getElem_ofFn] at is
      split at is
      · split at is <;> cases is
      · cases is
    have closed : s.closeFlywheel c = v.handed c.index (Vector.ofFn told) .unknown none := by
      unfold State.closeFlywheel
      rw [popped, State.outcomeTransfer_eq, written, worst]
      rfl
    have runs : exec .flywheelClosing s = .next (v.handed c.index (Vector.ofFn told) .unknown none).endOfEvent := by
      have taken : (s.withJob fun j => match s.closingDue j with
          | some c => if c.kind = .flywheel then s.closeFlywheel c else s
          | none => s) = s.closeFlywheel c := by
        rw [State.withJob_some _ job, State.closingDue_cons closings, if_pos due]
        exact if_pos kind
      exact congrArg (fun u => Host.Outcome.next u.endOfEvent) (taken.trans closed)
    refine ⟨_, runs, State.endOfEvent_msc _, ?_, fun i => ?_, ?_, ?_, frame_of_exec runs,
      State.endOfEvent_silent_of_eq _ _ rfl⟩
    · rw [State.endOfEvent_trk]
      rfl
    · rw [State.endOfEvent_station]
      simp only [State.handed, State.station, Fin.getElem_fin, Vector.getElem_ofFn, v]
      rfl
    · rw [State.endOfEvent_trk]
      rfl
    · rw [State.endOfEvent_trk]
      rfl
  · have runs : exec .captureClose s = .next s.endOfEvent :=
      congrArg (fun u : State => Host.Outcome.next u.endOfEvent) (State.closing_waits job waits (f := fun j c => s.closeCapture j c))
    exact ⟨_, runs, s.endOfEvent_sameBut, State.endOfEvent_silent_of_eq _ _ rfl⟩
  · have runs : exec .flywheelClosing s = .next s.endOfEvent :=
      congrArg (fun u : State => Host.Outcome.next u.endOfEvent) (State.closing_waits job waits (f := fun _ c => s.closeFlywheel c))
    exact ⟨_, runs, s.endOfEvent_sameBut, State.endOfEvent_silent_of_eq _ _ rfl⟩

end Sys2Proof.Machine
end

section
/-! PROOFS. Aborted trains, and the requests that tune, engage and disengage stations (O56). -/

namespace Sys2Proof.Machine

-- one proof at a time: the joined package would else open a thread for each of them
set_option Elab.async false

/-! ### An aborted train -/

/-- The prorated share of a correction is the quotient rounded toward zero (R55). -/
theorem prorate_eq (n : TrainNote) (x : Channel) :
    prorate n x.emitted (x.emitted + x.remaining) = proratedTrim n x := by
  unfold prorate proratedTrim
  congr 1
  rw [Int.natCast_ediv, Int.natCast_mul, ← Int.tdiv_eq_ediv_of_nonneg (Int.mul_nonneg (Int.natCast_nonneg _) (Int.natCast_nonneg _)),
    Int.natCast_add]
  rcases Int.le_total 0 n.c with pos | neg
  · rw [Int.natAbs_of_nonneg pos]
    rcases Int.lt_or_eq_of_le pos with pos | zero
    · rw [Int.sign_eq_one_of_pos pos, Int.one_mul]
    · simp [← zero]
  · rw [Int.ofNat_natAbs_of_nonpos neg]
    rcases Int.lt_or_eq_of_le neg with neg | zero
    · rw [Int.sign_eq_neg_one_of_neg neg, Int.neg_mul, Int.neg_mul, Int.neg_tdiv]
      simp
    · simp [zero]

section
variable {s u : State}

/-- A channel whose train is stopped. -/
def Channel.stopped (x : Channel) : Channel := { x with inFlight := false }

theorem Channel.stopped_of_idle {x : Channel} (idle : x.inFlight = false) : x.stopped = x := by
  unfold Channel.stopped
  rw [← idle]

theorem Station.noteless {x : Station} (none_ : x.train = none) : x = { x with train := none } := by
  rw [← none_]

/-- An abort stops the channel of its station. -/
theorem State.abortStation_stops (s : State) (i : StationId) (c : ChannelId) :
    (s.abortStation i).chan c = if c = channelOf i then (s.chan c).stopped else s.chan c := by
  unfold State.abortStation
  dsimp only
  split
  next flying =>
    have stop : (s.stopTrain (channelOf i)).chan c = if c = channelOf i then (s.chan c).stopped else s.chan c := by
      unfold State.stopTrain
      rw [State.chan_putChan]
      split
      next same => rw [same]; rfl
      next => rfl
    split
    · exact stop
    · rw [State.chan_putStation, stop]
  next idle =>
    split
    next same => rw [Channel.stopped_of_idle (by rw [same]; simpa using idle)]
    next => rfl

/-- What an abort makes of the stations. -/
theorem State.abortStation_aborts (s : State) (i k : StationId) :
    (s.abortStation i).station k = if k = i then trainAborted s i else s.station k := by
  have same : (s.abortStation i).station i = trainAborted s i := by
    unfold State.abortStation trainAborted abortedTrim
    dsimp only
    split
    next flying =>
      have kept : (s.stopTrain (channelOf i)).station i = s.station i := rfl
      cases note : (s.station i).train with
      | none =>
        rw [kept, note]
        exact kept.trans (Station.noteless note)
      | some n =>
        rw [kept, note]
        dsimp only
        rw [State.station_putStation_self, prorate_eq]
    next idle =>
      simp only [Bool.not_eq_true] at idle
      cases s.station i with
      | mk desc engaged st acc bad settleEnd trim train lastC flags lastOutcome => cases train <;> rfl
  split
  next is => rw [is, same]
  next other => exact (s.abortStation_station i k).2.2.2 other

theorem State.abortStation_sameBut (s : State) (i : StationId) : SameBut [.stg, .rlp] s (s.abortStation i) := by
  unfold State.abortStation
  dsimp only
  split
  · have stop := (s.putChan_sameBut (channelOf i) { s.chan (channelOf i) with inFlight := false }).mono
      (cs := [.stg, .rlp]) (by decide)
    split
    · exact stop
    · exact stop.trans ((State.putStation_sameBut _ _ _).mono (by decide))
  · exact SameBut.refl _ s

/-- A station's abort reads that station and its channel. -/
theorem trainAborted_congr {k : StationId} (station : u.station k = s.station k)
    (chan : u.chan (channelOf k) = s.chan (channelOf k)) : trainAborted u k = trainAborted s k := by
  unfold trainAborted abortedTrim
  rw [station, chan]

/-- The trains of a list of stations aborted, each once. -/
theorem State.abortStations_spec {l : List StationId} (once : l.Nodup) : ∀ s : State,
    SameBut [.stg, .rlp] s (l.foldl State.abortStation s) ∧
      (∀ k, (l.foldl State.abortStation s).station k = if k ∈ l then trainAborted s k else s.station k) ∧
      (∀ k : StationId, (l.foldl State.abortStation s).chan (channelOf k) =
        if k ∈ l then (s.chan (channelOf k)).stopped else s.chan (channelOf k)) ∧
      (l.foldl State.abortStation s).chan 8 = s.chan 8 := by
  induction l with
  | nil => exact fun s => ⟨SameBut.refl _ s, fun k => by simp, fun k => by simp, rfl⟩
  | cons i l ih =>
    intro s
    obtain ⟨fresh, rest⟩ := List.nodup_cons.mp once
    obtain ⟨frame, station, chan, emboss⟩ := ih rest (s.abortStation i)
    rw [List.foldl_cons]
    refine ⟨(s.abortStation_sameBut i).trans frame, fun k => ?_, fun k => ?_, ?_⟩
    · rw [station, State.abortStation_aborts]
      by_cases same : k = i
      · subst same
        simp [fresh]
      · have other : channelOf k ≠ channelOf i := fun h => same (channelOf_injective h)
        have unmoved : trainAborted (s.abortStation i) k = trainAborted s k :=
          trainAborted_congr (by rw [State.abortStation_aborts, if_neg same])
            (by rw [State.abortStation_stops, if_neg other])
        simp [same, unmoved]
    · rw [chan, State.abortStation_stops]
      by_cases same : k = i
      · subst same
        simp [fresh]
      · have other : channelOf k ≠ channelOf i := fun h => same (channelOf_injective h)
        simp [same, other]
    · rw [emboss, State.abortStation_stops, if_neg fun h => channelOf_ne_emboss i h.symm]

/-! ### A disengaged station -/

theorem State.mem_led {i k : StationId} : k ∈ i :: s.followers i ↔ BelongsTo s i k := by
  rw [List.mem_cons, State.mem_followers]
  rfl

theorem State.nodup_led {i : StationId} (resident : (s.station i).isResident = true) : (i :: s.followers i).Nodup := by
  refine List.nodup_cons.mpr ⟨fun member => ?_, (List.nodup_finRange 8).filter _⟩
  obtain ⟨f, desc, -⟩ := State.mem_followers.mp member
  rw [Station.isResident, desc] at resident
  cases resident

/-- The disengagement of a RESIDENT station in a run (R69). -/
theorem State.disengage_resident {i : StationId} (running : s.running = true) (resident : (s.station i).isResident = true) :
    SameBut [.stg, .rlp] s (s.disengage i) ∧
      (∀ k, (s.disengage i).station k =
        if k = i then { trainAborted s i with engaged := false, st := .disengaged, acc := [], bad := 0, settleEnd := none }
        else if k ∈ i :: s.followers i then trainAborted s k else s.station k) ∧
      (∀ k : StationId, (s.disengage i).chan (channelOf k) =
        if k ∈ i :: s.followers i then (s.chan (channelOf k)).stopped else s.chan (channelOf k)) ∧
      (s.disengage i).chan 8 = s.chan 8 := by
  let u := (i :: s.followers i).foldl State.abortStation s
  have is : s.disengage i =
      u.putStation i { u.station i with engaged := false, st := .disengaged, acc := [], bad := 0, settleEnd := none } := by
    have led : (s.abortStation i).followers i = s.followers i :=
      State.followers_congr (fun k => (s.abortStation_station i k).2.2.1) i
    unfold State.disengage
    rw [if_pos running]
    split
    · dsimp only
      rw [led]
      rfl
    next other =>
      unfold Station.isResident at resident
      split at resident
      next d desc => exact absurd desc (other d)
      next => cases resident
  obtain ⟨frame, station, chan, emboss⟩ := State.abortStations_spec (State.nodup_led resident) s
  rw [is]
  refine ⟨frame.trans ((State.putStation_sameBut _ _ _).mono (by decide)), fun k => ?_, chan, emboss⟩
  rw [State.station_putStation, station, station, if_pos List.mem_cons_self]

theorem State.correctingEnd_other {l k : StationId} (other : k ≠ l) : (s.correctingEnd l).station k = s.station k := by
  unfold State.correctingEnd
  split
  · split
    · split
      · rw [State.enterLost_station, if_neg other]
      · rw [State.station_putStation, if_neg other]
    · rfl
  · rfl

/-- A station that has no train in flight and is disengaged. -/
def State.withdrawn (s : State) (i : StationId) : State :=
  (s.abortStation i).putStation i { trainAborted s i with engaged := false }

theorem State.withdrawn_station (s : State) (i k : StationId) : (s.withdrawn i).station k =
    if k = i then { trainAborted s i with engaged := false } else s.station k := by
  rw [State.withdrawn, State.station_putStation, State.abortStation_aborts]
  split <;> rfl

theorem State.withdrawn_chan (s : State) (i : StationId) (c : ChannelId) : (s.withdrawn i).chan c =
    if c = channelOf i then (s.chan c).stopped else s.chan c :=
  s.abortStation_stops i c

theorem State.withdrawn_sameBut (s : State) (i : StationId) : SameBut [.stg, .rlp] s (s.withdrawn i) :=
  (s.abortStation_sameBut i).trans ((State.putStation_sameBut _ _ _).mono (by decide))

/-- The disengagement of an INDIRECT station in a run (R69). -/
theorem State.disengage_indirect {i : StationId} {e : IndirectDesc} (running : s.running = true)
    (desc : (s.station i).desc = .indirect e) : s.disengage i = (s.withdrawn i).correctingEnd e.target := by
  have own : (s.abortStation i).station i = trainAborted s i := by rw [State.abortStation_aborts, if_pos rfl]
  have lead : (s.withdrawn i).leaderOf i = e.target := by
    unfold State.leaderOf
    rw [State.withdrawn_station, if_pos rfl]
    show (match (s.station i).desc with
      | .indirect d => d.target
      | _ => i) = e.target
    rw [desc]
  unfold State.disengage
  rw [if_pos running]
  split
  next d is =>
    rw [desc] at is
    cases is
  next =>
    dsimp only
    rw [own]
    exact congrArg (s.withdrawn i).correctingEnd lead

end

/-! ### What the three requests answer -/

theorem stationOf_toNat {b : Byte} {i : StationId} (is : b.toNat = i.val) : stationOf b = some i := by
  unfold stationOf
  rw [dif_pos (by omega)]
  exact congrArg some (Fin.ext is)

section
variable {s : State} {l : LinkId} {tag b : Byte} {g d tol : BitVec 16} {a : Byte} {i : StationId} {f : StationId → State}

theorem State.onStation_unconfigured (line : s.lsc.lineState = .unconfigured) : s.onStation b f = refuse s .state :=
  if_pos line

theorem State.onStation_unknown (line : s.lsc.lineState ≠ .unconfigured) (unknown : stationOf b = none) :
    s.onStation b f = badField s 1 := by
  unfold State.onStation
  rw [if_neg line, unknown]

theorem State.onStation_unfit (line : s.lsc.lineState ≠ .unconfigured) (known : stationOf b = some i)
    (unfit : ((s.station i).isResident || (s.station i).isIndirect) = false) : s.onStation b f = badField s 2 := by
  unfold State.onStation
  rw [if_neg line, known]
  exact if_neg (by simp [unfit])

theorem State.onStation_fit (line : s.lsc.lineState ≠ .unconfigured) (known : stationOf b = some i)
    (fit : ((s.station i).isResident || (s.station i).isIndirect) = true) : s.onStation b f = done (f i) .empty := by
  unfold State.onStation
  rw [if_neg line, known]
  exact if_pos fit

theorem tuneStationService_act (line : s.lsc.lineState ≠ .unconfigured) (known : stationOf b = some i) :
    (tuneStationService b g d a tol).act s =
      match (s.station i).desc with
      | .resident e =>
        match firstFailing (tuneChecks g.toNat d.toNat a.toNat tol.toNat) with
        | some n => badField s n
        | none => done (s.putStation i { s.station i with
            desc := .resident (e.tune g.toNat d.toNat a.toNat tol.toNat) }) .empty
      | _ => badField s 2 := by
  unfold tuneStationService
  dsimp only
  rw [if_neg line, known] <;> rfl

theorem SameBut.stations {s t : State} {bs : List Block} (h : SameBut bs s t) (out : .rlp ∉ bs) (k : StationId) :
    t.station k = s.station k := by
  unfold State.station
  rw [h.rlp out]

theorem SameBut.chans {s t : State} {bs : List Block} (h : SameBut bs s t) (out : .stg ∉ bs) (c : ChannelId) :
    t.chan c = s.chan c := by
  unfold State.chan
  rw [h.stg out]

theorem tuneChecks_false {n gain deadband averaging tolerance : Nat} :
    (n, false) ∈ tuneChecks gain deadband averaging tolerance ↔ (n = 6 ∧ 8191 < gain) ∨ (n = 7 ∧ 1000 < deadband) ∨
      (n = 8 ∧ (averaging < 1 ∨ 8 < averaging)) ∨ (n = 14 ∧ (tolerance < 1 ∨ 2000 < tolerance)) := by
  simp only [tuneChecks, List.mem_cons, Prod.mk.injEq, List.not_mem_nil, or_false, within, Bool.false_eq, Bool.and_eq_false_iff,
    decide_eq_false_iff_not, Nat.not_le]
  omega

/-- What the disengagement of an INDIRECT station in a run makes of its target, with the notices ns (R60, R64, R69). -/
structure LeaderLeft (s : State) (i target : StationId) (ns : List Notice) (t : State) : Prop where
  raised : t.lnk = s.lnk.raised ns
  stays : (∀ r, (s.station target).desc = .resident r → (s.station target).st ≠ .correcting ∨
      ∃ k, k ≠ i ∧ BelongsTo s target k ∧ (s.chan (channelOf k)).inFlight = true) → t = s.withdrawn i ∧ ns = []
  ends : ∀ r, (s.station target).desc = .resident r → (s.station target).st = .correcting →
    (∀ k, k ≠ i → BelongsTo s target k → (s.chan (channelOf k)).inFlight = false) →
    ((s.station target).bad < r.missLimit → SameBut [.rlp] (s.withdrawn i) t ∧ ns = [] ∧
      t.station target = { s.station target with
        st := .settling, settleEnd := some (fwd s.wpu.h (r.settle + (s.lsc.job.map Job.L).getD 0)) }) ∧
    (r.missLimit ≤ (s.station target).bad → t.lsc = (s.raiseCause .stationLost).lsc ∧
      t.emb = (s.raiseCause .stationLost).emb ∧ ns = .stationAlarm target :: causeTold s .stationLost ∧
      t.station target = { s.station target with st := .lost, acc := [], settleEnd := none })

theorem State.withdrawn_leader {target : StationId} (other : ∀ r, (s.station target).desc = .resident r → target ≠ i) :
    ∃ ns, LeaderLeft s i target ns ((s.withdrawn i).correctingEnd target) := by
  let v := s.withdrawn i
  have frame : SameBut [.stg, .rlp] s v := s.withdrawn_sameBut i
  have lnk : v.lnk = s.lnk := frame.lnk (by decide)
  have descs : ∀ k, (v.station k).desc = (s.station k).desc := fun k => by
    rw [State.withdrawn_station]
    split
    next same => rw [same]; rfl
    next => rfl
  have stopped : ∀ k, (v.chan (channelOf k)).inFlight = if k = i then false else (s.chan (channelOf k)).inFlight := fun k => by
    rw [State.withdrawn_chan]
    by_cases same : k = i
    · rw [same, if_pos rfl, if_pos rfl]
      rfl
    · rw [if_neg fun h => same (channelOf_injective h), if_neg same]
  by_cases ends : ∃ r, (s.station target).desc = .resident r ∧ (s.station target).st = .correcting ∧
      ∀ k, k ≠ i → BelongsTo s target k → (s.chan (channelOf k)).inFlight = false
  · obtain ⟨r, resident, correcting, none_⟩ := ends
    have held : v.station target = s.station target := (s.withdrawn_station i target).trans (if_neg (other r resident))
    have vdesc : (v.station target).desc = .resident r := (descs _).trans resident
    have landed : ¬v.trainsInFlight target = true := fun flies => by
      obtain ⟨k, ne, belongs, inFlight⟩ :=
        (State.trainsInFlight_stopped (s := s) (u := v) (i := i) vdesc descs stopped).mp flies
      rw [none_ k ne belongs] at inFlight
      cases inFlight
    have busy : ¬∀ r, (s.station target).desc = .resident r → (s.station target).st ≠ .correcting ∨
        ∃ k, k ≠ i ∧ BelongsTo s target k ∧ (s.chan (channelOf k)).inFlight = true := fun h => by
      rcases h r resident with h | ⟨k, ne, belongs, inFlight⟩
      · exact h correcting
      · rw [none_ k ne belongs] at inFlight
        cases inFlight
    have ended := State.correctingEnd_eq vdesc (by rw [held]; exact correcting)
    rw [if_neg landed, held] at ended
    by_cases below : (s.station target).bad < r.missLimit
    · rw [if_neg (Nat.not_le.mpr below)] at ended
      rw [ended]
      refine ⟨[], lnk, fun h => absurd h busy, fun r' is _ _ => ⟨fun _ => ⟨State.putStation_sameBut _ _ _, rfl, ?_⟩,
        fun above => ?_⟩⟩
      · cases resident.symm.trans is
        rw [State.station_putStation_self, show v.wpu = s.wpu from frame.wpu (by decide),
          show v.lsc = s.lsc from frame.lsc (by decide)]
      · cases resident.symm.trans is
        exact absurd below (Nat.not_lt.mpr above)
    · rw [if_pos (Nat.not_lt.mp below)] at ended
      obtain ⟨-, lsc, emb, raised⟩ := v.enterLost_spec target
      obtain ⟨lsc', emb', told⟩ := State.raiseCause_congr (s := s) (u := v) (frame.lsc (by decide)) (frame.emb (by decide))
        (congrArg _ (frame.trk (by decide))) (congrArg _ (frame.wpu (by decide))) .stationLost
      rw [told, lnk] at raised
      rw [ended]
      refine ⟨_, raised, fun h => absurd h busy, fun r' is _ _ => ⟨fun below' => ?_, fun _ => ⟨lsc.trans lsc', emb.trans emb',
        rfl, ?_⟩⟩⟩
      · cases resident.symm.trans is
        exact absurd below' below
      · rw [State.enterLost_station, if_pos rfl, held]
  · have stays : v.correctingEnd target = v := by
      cases desc : (s.station target).desc with
      | resident r =>
        have held : v.station target = s.station target := (s.withdrawn_station i target).trans (if_neg (other r desc))
        have vdesc : (v.station target).desc = .resident r := (descs _).trans desc
        by_cases correcting : (s.station target).st = .correcting
        · rw [State.correctingEnd_eq vdesc (by rw [held]; exact correcting), if_pos]
          refine (State.trainsInFlight_stopped (s := s) (u := v) (i := i) vdesc descs stopped).mpr ?_
          refine Classical.byContradiction fun none_ => ?_
          exact ends ⟨r, desc, correcting, fun k ne belongs => by
            simpa using fun flies => none_ ⟨k, ne, belongs, flies⟩⟩
        · exact State.correctingEnd_idle fun d _ => by rw [held]; exact correcting
      | _ => exact State.correctingEnd_idle fun d is => by rw [descs, desc] at is; cases is
    rw [show (s.withdrawn i).correctingEnd target = v from stays]
    exact ⟨[], lnk, fun _ => ⟨rfl, rfl⟩, fun r desc correcting none_ => absurd ⟨r, desc, correcting, none_⟩ ends⟩

end

/-- STATION_DISENGAGE of an engaged station in a run (R69). -/
theorem disengaged_in_run {s : State} {l : LinkId} {tag b : Byte} {i : StationId} (take : s.mayTake l = true)
    (allowed : s.permits l .operate false = true) (line : s.lsc.lineState ≠ .unconfigured) (is : b.toNat = i.val)
    (fit : (s.station i).isResident = true ∨ (s.station i).isIndirect = true) (engaged : (s.station i).engaged = true)
    {ns : List Notice} (raised : (s.disengage i).lnk = s.lnk.raised ns) :
    Answers (.stationDisengage l tag b) s l ⟨0xA6, tag, .done, .empty⟩ ns (s.disengage i) := by
  refine answers_act (x := stationDisengageService b) rfl take rfl allowed ?_ raised
  refine (State.onStation_fit line (stationOf_toNat is) (by simpa using fit)).trans ?_
  rw [if_pos engaged]
  rfl

/-- Settles O56: each request's tests in turn; a RESIDENT station's disengagement aborts its own train and its followers', an
INDIRECT one's may end its leader's CORRECTING. -/
theorem stationsAreTunedAndEngaged : Obligations.StationsAreTunedAndEngaged := by
  intro s l tag b g d a tol take allowed tune asks
  have answered {c : Instr} {x : Service} {st : Status} {body : ReplyBody} {u : State} (is : requestOf c = some (l, tag, x))
      (cls : x.cls = .operate) (lineOnly : x.lineOnly = false) (fits : x.fits = true) (act : x.act s = (u, st, body))
      (quiet : u.lnk = s.lnk) : Answers c s l ⟨x.kind + 0x80, tag, st, body⟩ [] u :=
    answers_act is take fits (by rw [cls, lineOnly]; exact allowed) act quiet
  have tuned {st : Status} {body : ReplyBody} {u : State} (act : (tuneStationService b g d a tol).act s = (u, st, body))
      (quiet : u.lnk = s.lnk) : Answers tune s l ⟨0xA7, tag, st, body⟩ [] u :=
    answered (x := tuneStationService b g d a tol) rfl rfl rfl rfl act quiet
  have engages {st : Status} {body : ReplyBody} {u : State} (act : (stationEngageService b).act s = (u, st, body))
      (quiet : u.lnk = s.lnk) : Answers (.stationEngage l tag b) s l ⟨0xA5, tag, st, body⟩ [] u :=
    answered (x := stationEngageService b) rfl rfl rfl rfl act quiet
  have disengages {st : Status} {body : ReplyBody} {u : State} (act : (stationDisengageService b).act s = (u, st, body))
      (quiet : u.lnk = s.lnk) : Answers (.stationDisengage l tag b) s l ⟨0xA6, tag, st, body⟩ [] u :=
    answered (x := stationDisengageService b) rfl rfl rfl rfl act quiet
  have each {st : Status} {body : ReplyBody} (first : (tuneStationService b g d a tol).act s = (s, st, body))
      (rest : ∀ f, s.onStation b f = (s, st, body)) : ∀ c ∈ asks, Answers c.1 s l ⟨c.2, tag, st, body⟩ [] s := by
    intro c member
    simp only [asks, List.mem_cons, List.not_mem_nil, or_false] at member
    rcases member with rfl | rfl | rfl
    · exact tuned first rfl
    · exact engages (rest _) rfl
    · exact disengages (rest _) rfl
  refine ⟨fun line => each (if_pos line) fun f => State.onStation_unconfigured line, fun line many => ?_,
    fun i line is => ?_⟩
  · have unknown : stationOf b = none := stationOf_none many
    refine each ?_ fun f => State.onStation_unknown line unknown
    unfold tuneStationService
    dsimp only
    rw [if_neg line, unknown]
    rfl
  have known := stationOf_toNat is
  have act := tuneStationService_act (g := g) (d := d) (a := a) (tol := tol) line known
  intro x
  refine ⟨fun other => ?_, fun e desc => ?_, fun e desc => ?_, fun fit => ⟨fun engaged => ?_, fun idle => ⟨?_, ?_⟩,
    fun engaged stopped => ?_, fun engaged running => ?_⟩⟩
  · refine each ?_ fun f => State.onStation_unfit line known ?_
    · rw [act]
      rcases other with desc | desc <;> rw [show (s.station i).desc = _ from desc] <;> rfl
    · unfold Station.isResident Station.isIndirect
      rcases other with desc | desc <;> rw [show (s.station i).desc = _ from desc] <;> rfl
  · refine tuned ?_ rfl
    rw [act, show (s.station i).desc = _ from desc]
    rfl
  · intro fails
    rw [show (s.station i).desc = _ from desc] at act
    refine ⟨fun n bad least => ?_, fun passes => ?_⟩
    · have first : firstFailing (tuneChecks g.toNat d.toNat a.toNat tol.toNat) = some n :=
        firstFailing_eq_some (by simp [tuneChecks]) (tuneChecks_false.mpr bad)
          fun m lt fails => least m lt (tuneChecks_false.mp fails)
      refine tuned ?_ rfl
      rw [act]
      dsimp only
      rw [first]
      rfl
    · have none_ : firstFailing (tuneChecks g.toNat d.toNat a.toNat tol.toNat) = none :=
        firstFailing_eq_none fun n fails => passes n (tuneChecks_false.mp fails)
      refine tuned ?_ rfl
      rw [act]
      dsimp only
      rw [none_]
      rfl
  · refine engages ?_ rfl
    refine (State.onStation_fit line known (by simpa using fit)).trans ?_
    rw [if_pos engaged]
    rfl
  · refine disengages ?_ rfl
    refine (State.onStation_fit line known (by simpa using fit)).trans ?_
    rw [if_neg (by simp [show (s.station i).engaged = false from idle])]
    rfl
  · refine engages ?_ rfl
    refine (State.onStation_fit line known (by simpa using fit)).trans ?_
    rw [if_neg (by simp [show (s.station i).engaged = false from idle])]
    unfold State.engage done
    split
    next both => rw [if_pos (by exact both)]
    next both => rw [if_neg (by exact both)]
  · refine disengages ?_ rfl
    refine (State.onStation_fit line known (by simpa using fit)).trans ?_
    rw [if_pos engaged]
    unfold State.disengage done
    rw [if_neg (by simp [stopped])]
  · by_cases resident : x.isResident = true
    · obtain ⟨frame, station, chan, emboss⟩ := State.disengage_resident running resident
      obtain ⟨t, runs, end_, replied⟩ := disengaged_in_run take allowed line is fit engaged (tag := tag) (ns := [])
        (frame.lnk (by decide))
      have stations := fun k => (end_.stations (by decide) k).trans (station k)
      have chans := fun k : StationId => (end_.chans (by decide) (channelOf k)).trans (chan k)
      have unlike : ∀ e, x.desc ≠ .indirect e := fun e desc => by
        rw [Station.isResident, desc] at resident
        cases resident
      refine ⟨t, [], runs, replied, (frame.mono (by decide)).trans (end_.mono (by decide)), ?_, fun _ => ?_,
        (end_.chans (by decide) 8).trans emboss, fun e desc => absurd desc (unlike e), fun e d' j desc => absurd desc (unlike e)⟩
      · rw [chans, if_pos List.mem_cons_self]
        rfl
      · refine ⟨(end_.lsc (by decide)).trans (frame.lsc (by decide)), (end_.emb (by decide)).trans (frame.emb (by decide)), rfl,
          ?_, fun k other => ⟨fun belongs => ⟨?_, ?_⟩, fun apart => ⟨?_, ?_⟩⟩⟩
        · rw [stations, if_pos rfl]
        · rw [stations, if_neg other, if_pos (State.mem_led.mpr belongs)]
        · rw [chans, if_pos (State.mem_led.mpr belongs)]
          rfl
        · rw [stations, if_neg other, if_neg (mt State.mem_led.mp apart)]
        · rw [chans, if_neg (mt State.mem_led.mp apart)]
    · have indirect : x.isIndirect = true := fit.resolve_left resident
      obtain ⟨e, desc⟩ : ∃ e, x.desc = .indirect e := by
        unfold Station.isIndirect at indirect
        split at indirect
        next e desc => exact ⟨e, desc⟩
        next => cases indirect
      have other : ∀ r, (s.station e.target).desc = .resident r → e.target ≠ i := fun r resident' same => by
        rw [same, show (s.station i).desc = _ from desc] at resident'
        cases resident'
      obtain ⟨ns, left⟩ := State.withdrawn_leader other
      have is' := State.disengage_indirect running desc
      rw [← is'] at left
      obtain ⟨t, runs, end_, replied⟩ := disengaged_in_run take allowed line is fit engaged (tag := tag) left.raised
      have before : SameBut [.stg, .rlp] s (s.withdrawn i) := s.withdrawn_sameBut i
      have after : SameBut [.rlp, .lsc, .emb, .lnk] (s.withdrawn i) (s.disengage i) := by
        rw [is']
        exact (State.correctingEnd_affects _ _).1.mono (by decide)
      have stations : ∀ k, k ≠ e.target → t.station k = (s.withdrawn i).station k := fun k ne => by
        rw [end_.stations (by decide), is', State.correctingEnd_other ne]
      have chans : ∀ c, t.chan c = if c = channelOf i then (s.chan c).stopped else s.chan c := fun c => by
        rw [end_.chans (by decide), after.chans (by decide), State.withdrawn_chan]
      have stays (idle : ∀ r, (s.station e.target).desc = .resident r → (s.station e.target).st ≠ .correcting ∨
          ∃ k, k ≠ i ∧ BelongsTo s e.target k ∧ (s.chan (channelOf k)).inFlight = true) :
          t.lsc = s.lsc ∧ t.emb = s.emb ∧ ns = [] ∧ ∀ k, t.station k = (s.withdrawn i).station k := by
        obtain ⟨same, silent⟩ := left.stays idle
        rw [same] at end_
        exact ⟨(end_.lsc (by decide)).trans (before.lsc (by decide)), (end_.emb (by decide)).trans (before.emb (by decide)),
          silent, fun k => end_.stations (by decide) k⟩
      have unled (plain : (s.station e.target).isResident = false) : ∀ r, (s.station e.target).desc = .resident r →
          (s.station e.target).st ≠ .correcting ∨
          ∃ k, k ≠ i ∧ BelongsTo s e.target k ∧ (s.chan (channelOf k)).inFlight = true := fun r desc' => by
        rw [Station.isResident, desc'] at plain
        cases plain
      refine ⟨t, ns, runs, replied, ?_, ?_, fun h => absurd h resident, ?_, fun e' desc' => ?_,
        fun e' r j desc' ne desc'' job => ?_⟩
      · exact ((before.mono (by decide)).trans (after.mono (by decide))).trans (end_.mono (by decide))
      · rw [chans, if_pos rfl]
        rfl
      · rw [chans, if_neg fun h => channelOf_ne_emboss i h.symm]
      · cases desc.symm.trans desc'
        refine ⟨?_, fun k ne ne' => ?_, fun k ne => ?_, fun plain => ?_⟩
        · by_cases same : i = e.target
          · have plain : (s.station e.target).isResident = false := by rw [← same]; simpa using resident
            rw [(stays (unled plain)).2.2.2, State.withdrawn_station, if_pos rfl]
          · rw [stations i same, State.withdrawn_station, if_pos rfl]
        · rw [stations k ne', State.withdrawn_station, if_neg ne]
        · rw [chans, if_neg fun h => ne (channelOf_injective h)]
        · obtain ⟨lsc, emb, silent, same⟩ := stays (unled plain)
          exact ⟨lsc, emb, silent, fun ne => by rw [same, State.withdrawn_station, if_neg ne]⟩
      · cases desc.symm.trans desc'
        intro leader
        refine ⟨fun idle => ?_, fun correcting _ none_ => ⟨fun below => ?_, fun above => ?_⟩⟩
        · obtain ⟨lsc, emb, silent, same⟩ := stays fun _ _ => idle
          exact ⟨by rw [same, State.withdrawn_station, if_neg ne], lsc, emb, silent⟩
        · obtain ⟨settles, silent, settling⟩ := (left.ends r desc'' correcting none_).1 below
          refine ⟨((end_.lsc (by decide)).trans (settles.lsc (by decide))).trans (before.lsc (by decide)),
            ((end_.emb (by decide)).trans (settles.emb (by decide))).trans (before.emb (by decide)), silent, ?_⟩
          rw [end_.stations (by decide), settling, job]
          rfl
        · obtain ⟨lsc, emb, told, lost⟩ := (left.ends r desc'' correcting none_).2 above
          exact ⟨(end_.lsc (by decide)).trans lsc, (end_.emb (by decide)).trans emb, told,
            (end_.stations (by decide) _).trans lost⟩

end Sys2Proof.Machine
end

section
/-! PROOFS. Pulses, periods, settle ends and tapers (O45), and the colour head (O46). -/

namespace Sys2Proof.Machine

-- one proof at a time: the joined package would else open a thread for each of them
set_option Elab.async false

/-- The end of an event in which nothing has happened. -/
theorem State.endOfEvent_nothing (s : State) : SameBut [.lnk] s s.endOfEvent ∧ Silent s s.endOfEvent [] :=
  ⟨s.endOfEvent_sameBut, State.endOfEvent_silent_of_eq s s rfl⟩

/-! ### The torque's taper -/

theorem roundDiv_natCast (x d : Nat) : roundDiv (x : Int) d = if x = 0 then 0 else ((2 * x + d) / (2 * d) : Nat) := by
  unfold roundDiv
  split
  next zero => simp [zero]
  next pos => rw [Int.sign_natCast_of_ne_zero pos, Int.one_mul, Int.natAbs_natCast]

/-- The duty of the taper (R129). -/
theorem taperDuty_eq (j : Job) (wound : Nat) : (taperDuty j wound : Int) =
    max 0 (j.d0 - roundDiv (j.d0 * j.taper * min wound j.lt : Nat) (100 * j.lt)) := by
  unfold taperDuty
  rw [roundDiv_natCast]
  split
  next zero =>
    rw [zero]
    have none_ : (2 * 0 + 100 * j.lt) / (2 * (100 * j.lt)) = 0 := by
      rcases Nat.eq_zero_or_pos j.lt with zero | pos
      · simp [zero]
      · exact Nat.div_eq_of_lt (by omega)
    rw [none_]
    omega
  next => omega

/-- What the setting of a duty does (R83). -/
theorem Pwm.setTo_eq (p : Pwm) (duty : Nat) :
    p.setTo duty = { p with setDuty := duty, duty := if duty = 0 then 0 else p.duty } := by
  unfold Pwm.setTo
  split
  next zero => rw [zero]
  next => rfl

section
variable {s : State} {j : Job} {g : Segment}

theorem State.torqueDue_eq_false (below : ∀ g, s.wnd.active = some g → g.role = .roll →
    (ahead (back s.wpu.h j.dCut) g.start).toNat / 1000 ≤ s.wnd.torqueMark) : s.torqueDue j = false := by
  unfold State.torqueDue
  split
  next g active =>
    by_cases roll : g.role = .roll
    · have mark := below g active roll
      simp only [Bool.and_eq_false_iff, decide_eq_false_iff_not]
      exact .inr (Nat.not_lt.mpr mark)
    · simp [roll]
  next => rfl

theorem State.torqueDue_eq_true (active : s.wnd.active = some g) (roll : g.role = .roll)
    (further : s.wnd.torqueMark < (ahead (back s.wpu.h j.dCut) g.start).toNat / 1000) : s.torqueDue j = true := by
  unfold State.torqueDue
  rw [active]
  simp only [roll, Bool.and_eq_true, decide_eq_true_eq]
  exact ⟨rfl, further⟩

end

/-- What TORQUE_UPDATE does when it is due (R83, R129). -/
theorem State.torqueStep_wnd {s : State} {j : Job} {g : Segment} (active : s.wnd.active = some g) :
    let mark := (ahead (back s.wpu.h j.dCut) g.start).toNat / 1000
    let duty := taperDuty j (1000 * mark)
    s.torqueStep j = { s with wnd := { s.wnd with
      torqueMark := mark
      pwm := { s.wnd.pwm with setDuty := duty, duty := if duty = 0 then 0 else s.wnd.pwm.duty } } } := by
  intro mark duty
  unfold State.torqueStep
  rw [active]
  dsimp only [State.setTorque]
  rw [Pwm.setTo_eq]
  rfl

/-- Settles O45: each timed end writes one block. -/
theorem pulsesPeriodsAndTapers : Obligations.PulsesPeriodsAndTapers := by
  intro s
  have silent {u : State} (same : u.lnk = s.lnk) : Silent s u.endOfEvent [] := State.endOfEvent_silent_of_eq s u same
  refine ⟨fun c => ?_, fun i => ?_, ?_, ?_, ?_, ?_, ?_, ?_, fun j job => ?_⟩
  · have runs : exec (.stepPulseEnd c) s =
        .next (s.putChan c { s.chan c with stepHigh := false, highLeft := 0 }).endOfEvent := rfl
    refine ⟨_, runs, ?_, fun k other => ?_, frame_of_exec runs, silent rfl⟩
    · rw [State.endOfEvent_chan, State.chan_putChan, if_pos rfl]
    · rw [State.endOfEvent_chan, State.chan_putChan, if_neg other]
  · let u := if s.settleDue i then s.putStation i { s.station i with st := .tracking, acc := [], settleEnd := none } else s
    have runs : exec (.settleEnd i) s = .next u.endOfEvent := rfl
    have due : s.settleDue i = true ↔ (s.station i).st = .settling ∧
        ∃ x, (s.station i).settleEnd = some x ∧ reached s.wpu.h x = true := by
      simp only [State.settleDue, Bool.and_eq_true, beq_iff_eq, Option.any_eq_true]
      rfl
    have settled (is : s.settleDue i = true) :
        u = s.putStation i { s.station i with st := .tracking, acc := [], settleEnd := none } := if_pos is
    have stays (is : ¬s.settleDue i = true) : u = s := if_neg is
    have quiet : u.lnk = s.lnk := by
      by_cases is : s.settleDue i = true
      · rw [settled is]
        rfl
      · rw [stays is]
    refine ⟨_, runs, silent quiet, fun k other => ?_, frame_of_exec runs, fun x st end_ at_ => ?_, fun early => ?_⟩
    · rw [State.endOfEvent_station]
      by_cases is : s.settleDue i = true
      · rw [settled is, State.station_putStation, if_neg other]
      · rw [stays is]
    · rw [State.endOfEvent_station, settled (due.mpr ⟨st, x, end_, at_⟩), State.station_putStation_self]
    · rw [State.endOfEvent_station, stays fun h => early (due.mp h)]
  · exact ⟨_, rfl, State.endOfEvent_emb _, frame_of_exec (c := .pwmPeriodStart .nip) rfl, silent rfl⟩
  · exact ⟨_, rfl, State.endOfEvent_wnd _, frame_of_exec (c := .pwmPeriodStart .torque) rfl, silent rfl⟩
  · exact ⟨_, rfl, State.endOfEvent_shu _, frame_of_exec (c := .triggerPulseEnd) rfl, silent rfl⟩
  · exact ⟨_, rfl, State.endOfEvent_wnd _, frame_of_exec (c := .knifePulseEnd) rfl, silent rfl⟩
  · exact ⟨_, rfl, State.endOfEvent_wnd _, frame_of_exec (c := .turretPulseEnd) rfl, silent rfl⟩
  · exact ⟨_, rfl, State.endOfEvent_wnd _, frame_of_exec (c := .transferTimerExpiry) rfl, silent rfl⟩
  · have taken := State.withJob_some (fun j => if s.torqueDue j then s.torqueStep j else s) job
    have runs : exec .torqueUpdate s = .next (if s.torqueDue j then s.torqueStep j else s).endOfEvent :=
      congrArg (fun u : State => Host.Outcome.next u.endOfEvent) taken
    by_cases due : s.torqueDue j = true
    · rw [if_pos due] at runs
      have quiet : (s.torqueStep j).lnk = s.lnk := by
        unfold State.torqueStep
        split <;> rfl
      refine ⟨_, runs, silent quiet, frame_of_exec runs, fun below => ?_, fun g active roll => ?_⟩
      · rw [State.torqueDue_eq_false below] at due
        cases due
      · intro mark further
        refine ⟨_, ?_, taperDuty_eq j (1000 * mark)⟩
        rw [State.endOfEvent_wnd, State.torqueStep_wnd active]
    · rw [if_neg due] at runs
      refine ⟨_, runs, silent rfl, frame_of_exec runs, fun _ => s.endOfEvent_sameBut, fun g active roll => ?_⟩
      intro mark further
      exact absurd (State.torqueDue_eq_true active roll further) due

/-! ### The head -/

theorem State.shadeWritten_eq (s : State) (index : BitVec 32) (x : ShadeState) (reading : Option Shade) :
    s.updateRecord index (fun r => r.putShade x reading) = { s with trk := shadeWritten s.trk index x reading } := by
  have each : (fun r : RepeatRecord => if r.index = index then r.putShade x reading else r) = fun r =>
      if r.index = index ∧ r.shadeState = .pending then { r with shadeState := x, shade := reading } else r := by
    funext r
    unfold RepeatRecord.putShade
    by_cases same : r.index = index
    · by_cases pending : r.shadeState = .pending
      · rw [if_pos same, if_pos pending, if_pos ⟨same, pending⟩]
      · rw [if_pos same, if_neg pending, if_neg fun h => pending h.2]
    · rw [if_neg same, if_neg fun h => same h.1]
  unfold State.updateRecord shadeWritten
  rw [each]

/-- The notices that a state shows where a raised one is enabled. -/
theorem Silent.shows {s t : State} {ns : List Notice} (h : Silent s t ns) {n : Notice} (member : n ∈ ns) (l : LinkId)
    (enabled : (s.half l).mask.getLsbD n.kindIndex = true) : (t.half l).Shows n :=
  (h.2 l n).mpr (.inr ⟨member, enabled⟩)

section
variable {s : State} {m : Measurement}

/-- A timeout of the measurement in flight, before the line is told (R105). -/
def State.timedOut (s : State) (m : Measurement) : State :=
  { s with
    trk := shadeWritten s.trk m.index .absent none
    shu := { s.shu with
      head := if s.shu.faultCount + 1 < 3 then .idle else .offline
      meas := none, faultCount := s.shu.faultCount + 1
      counts := { s.shu.counts with timedOut := grown s.shu.counts.timedOut } } }

theorem State.headTimedOut_eq (s : State) (m : Measurement) : s.headTimedOut m =
    if s.shu.faultCount + 1 < 3 then s.timedOut m else ((s.timedOut m).raiseNotice .headFault).raiseCause .headOffline := by
  unfold State.headTimedOut State.timedOut
  rw [State.shadeWritten_eq]
  dsimp only
  split <;> rfl

/-- What a start point does in each state of the head (R98, R101, R102). -/
theorem State.startPoint_spec (s : State) (j : Job) (index : BitVec 32) (rest : List (BitVec 32 × Count)) :
    (s.shu.head = .idle → s.startPoint j index rest = { s with shu := { s.shu with
      starts := rest, head := .acquiring, trigger := true, triggerLeft := 400
      meas := some ⟨index, s.wpu.h, 0, some (40 * j.acquisitionUs + 40000 * j.headTimeoutMs), false⟩
      counts := { s.shu.counts with started := grown s.shu.counts.started } } }) ∧
    (s.shu.head = .acquiring ∨ s.shu.head = .reading → s.startPoint j index rest = { s with
      trk := shadeWritten s.trk index .skipped none
      shu := { s.shu with starts := rest, counts := { s.shu.counts with skipped := grown s.shu.counts.skipped } } }) ∧
    (s.shu.head = .offline → s.startPoint j index rest = { s with
      trk := shadeWritten s.trk index .absent none
      shu := { s.shu with
        starts := rest, counts := { s.shu.counts with notStarted := grown s.shu.counts.notStarted } } }) ∧
    (s.startPoint j index rest).lnk = s.lnk := by
  let u : State := { s with shu := { s.shu with starts := rest } }
  have by_head : s.startPoint j index rest =
      match s.shu.head with
      | .idle => u.startMeasurement j index
      | .acquiring | .reading =>
        let v := u.updateRecord index fun r => r.putShade .skipped none
        { v with shu := { v.shu with counts := { v.shu.counts with skipped := satInc v.shu.counts.skipped } } }
      | .offline =>
        let v := u.updateRecord index fun r => r.putShade .absent none
        { v with shu := { v.shu with counts := { v.shu.counts with notStarted := satInc v.shu.counts.notStarted } } } := rfl
  have timer : j.acquisitionUs * Config.cyclesPerUs + j.headTimeoutMs * Config.cyclesPerMs =
      40 * j.acquisitionUs + 40000 * j.headTimeoutMs := by
    rw [Nat.mul_comm 40, Nat.mul_comm 40000]
    rfl
  rw [by_head]
  refine ⟨fun head => ?_, fun head => ?_, fun head => ?_, ?_⟩
  · rw [head]
    dsimp only [State.startMeasurement]
    rw [timer]
    rfl
  · rcases head with head | head <;> rw [head] <;> dsimp only <;> rw [State.shadeWritten_eq] <;> rfl
  · rw [head]
    dsimp only
    rw [State.shadeWritten_eq]
    rfl
  · split <;> rfl

end

/-- Settles O46: each command of the head port in the state of the head that takes it. -/
theorem headStartsAnswersAndTimesOut : Obligations.HeadStartsAnswersAndTimesOut := by
  refine ⟨fun s => ⟨rfl, ?_, fun l tag take allowed => ?_⟩, fun s j job => ⟨?_, ?_⟩⟩
  · by_cases waits : ∃ m, s.shu.head = .acquiring ∧ s.shu.meas = some m
    · obtain ⟨m, head, meas⟩ := waits
      have taken : (match s.shu.head, s.shu.meas with
          | .acquiring, some m => s.headTimedOut m
          | _, _ => s) = s.headTimedOut m := by rw [head, meas]
      have runs : exec .headTimeout s = .next (s.headTimedOut m).endOfEvent :=
        congrArg (fun u : State => Host.Outcome.next u.endOfEvent) taken
      refine ⟨_, runs, fun idle => ?_, fun m' _ meas' => ?_⟩
      · rcases idle with h | h
        · exact absurd head h
        · rw [meas] at h
          cases h
      cases meas.symm.trans meas'
      rw [State.headTimedOut_eq]
      by_cases few : s.shu.faultCount + 1 < 3
      · rw [if_pos few]
        rw [State.headTimedOut_eq, if_pos few] at runs
        exact ⟨State.endOfEvent_trk _, frame_of_exec runs, State.endOfEvent_shu _,
          fun _ => ⟨State.endOfEvent_lsc _, State.endOfEvent_emb _, State.endOfEvent_silent_of_eq _ _ rfl⟩,
          fun many => absurd few (Nat.not_lt.mpr many)⟩
      · rw [if_neg few]
        rw [State.headTimedOut_eq, if_neg few] at runs
        have raised := (((s.timedOut m).raiseNotice .headFault).raiseCause_spec .headOffline).2
        have frame := (State.raiseCause_affects ((s.timedOut m).raiseNotice .headFault) .headOffline).1
        have shown : (((s.timedOut m).raiseNotice .headFault).raiseCause .headOffline).lnk =
            s.lnk.raised (.headFault :: causeTold ((s.timedOut m).raiseNotice .headFault) .headOffline) := raised
        refine ⟨?_, frame_of_exec runs, ?_, fun h => absurd h few, fun _ => ⟨?_, fun l enabled => ?_⟩⟩
        · rw [State.endOfEvent_trk, frame.trk (by decide)]
          rfl
        · rw [State.endOfEvent_shu, frame.shu (by decide)]
          rfl
        · rw [State.endOfEvent_lsc]
          exact (State.raiseCause_congr (s := s) (u := (s.timedOut m).raiseNotice .headFault) rfl rfl rfl rfl .headOffline).1
        · exact (State.endOfEvent_silent _ _ _ shown).shows List.mem_cons_self l enabled
    · have taken : (match s.shu.head, s.shu.meas with
          | .acquiring, some m => s.headTimedOut m
          | _, _ => s) = s := by
        split
        next m head meas => exact absurd ⟨m, head, meas⟩ waits
        next => rfl
      have runs : exec .headTimeout s = .next s.endOfEvent :=
        congrArg (fun u : State => Host.Outcome.next u.endOfEvent) taken
      exact ⟨_, runs, fun _ => s.endOfEvent_nothing, fun m head meas => absurd ⟨m, head, meas⟩ waits⟩
  · exact answers_act (x := headResetService) rfl take rfl allowed rfl rfl
  · have taken := State.withJob_some (fun j => match s.startDue with
      | some x => s.startPoint j x.1 x.2
      | none => s) job
    by_cases due : ∃ index p rest, s.shu.starts = (index, p) :: rest ∧ reached s.wpu.h p = true
    · obtain ⟨index, p, rest, starts, at_⟩ := due
      have first : s.startDue = some (index, rest) := by
        unfold State.startDue
        rw [starts]
        exact if_pos at_
      have is : (match s.startDue with
          | some x => s.startPoint j x.1 x.2
          | none => s) = s.startPoint j index rest := by rw [first]
      have runs : exec .shadeStartPoint s = .next (s.startPoint j index rest).endOfEvent :=
        congrArg (fun u : State => Host.Outcome.next u.endOfEvent) (taken.trans is)
      obtain ⟨idle, busy, offline, silent⟩ := s.startPoint_spec j index rest
      refine ⟨_, runs, State.endOfEvent_silent_of_eq _ _ silent, fun early => ?_, fun index' p' rest' starts' _ => ?_⟩
      · exact absurd at_ (by simp [early (index, p) rest starts])
      · cases starts.symm.trans starts'
        rw [State.endOfEvent_trk, State.endOfEvent_shu]
        refine ⟨frame_of_exec runs, fun head => ?_, fun head => ?_, fun head => ?_⟩
        · rw [idle head]
          exact ⟨rfl, rfl⟩
        · rw [busy head]
          exact ⟨rfl, rfl⟩
        · rw [offline head]
          exact ⟨rfl, rfl⟩
    · have none_ : s.startDue = none := by
        unfold State.startDue
        split
        next x rest starts =>
          exact if_neg fun at_ => due ⟨x.1, x.2, rest, starts, at_⟩
        next => rfl
      have is : (match s.startDue with
          | some x => s.startPoint j x.1 x.2
          | none => s) = s := by rw [none_]
      have runs : exec .shadeStartPoint s = .next s.endOfEvent :=
        congrArg (fun u : State => Host.Outcome.next u.endOfEvent) (taken.trans is)
      exact ⟨_, runs, s.endOfEvent_nothing.2, fun _ => s.endOfEvent_sameBut,
        fun index p rest starts at_ => absurd ⟨index, p, rest, starts, at_⟩ due⟩
  · have taken := State.withJob_some (fun j => match s.shu.head, s.shu.meas with
      | .acquiring, some m => s.headAnswers j m
      | _, _ => s) job
    by_cases waits : ∃ m, s.shu.head = .acquiring ∧ s.shu.meas = some m
    · obtain ⟨m, head, meas⟩ := waits
      have is : (match s.shu.head, s.shu.meas with
          | .acquiring, some m => s.headAnswers j m
          | _, _ => s) = s.headAnswers j m := by rw [head, meas]
      have runs : exec .dataReady s = .next (s.headAnswers j m).endOfEvent :=
        congrArg (fun u : State => Host.Outcome.next u.endOfEvent) (taken.trans is)
      refine ⟨_, runs, State.endOfEvent_silent_of_eq _ _ rfl, frame_of_exec runs, fun m' _ meas' => ?_, fun idle => ?_⟩
      · cases meas.symm.trans meas'
        exact State.endOfEvent_shu _
      · rcases idle with h | h
        · exact absurd head h
        · rw [meas] at h
          cases h
    · have is : (match s.shu.head, s.shu.meas with
          | .acquiring, some m => s.headAnswers j m
          | _, _ => s) = s := by
        split
        next m head meas => exact absurd ⟨m, head, meas⟩ waits
        next => rfl
      have runs : exec .dataReady s = .next s.endOfEvent :=
        congrArg (fun u : State => Host.Outcome.next u.endOfEvent) (taken.trans is)
      exact ⟨_, runs, s.endOfEvent_nothing.2, frame_of_exec runs, fun m head meas => absurd ⟨m, head, meas⟩ waits,
        fun _ => State.endOfEvent_shu _⟩

end Sys2Proof.Machine
end

section
/-! PROOFS. A read's reading and the drift window (O47), and the closing of an entry (O41). -/

namespace Sys2Proof.Machine

-- one proof at a time: the joined package would else open a thread for each of them
set_option Elab.async false

/-! ### The drift window -/

theorem foldl_add_eq_sum (f : Shade → Int) (l : List Shade) : l.foldl (fun n x => n + f x) 0 = (l.map f).sum := by
  have from_ : ∀ n : Int, l.foldl (fun n x => n + f x) n = n + (l.map f).sum := by
    induction l with
    | nil => simp
    | cons x l ih => intro n; rw [List.foldl_cons, ih, List.map_cons, List.sum_cons, Int.add_assoc]
  rw [from_, Int.zero_add]

theorem driftMean_eq (window : List Shade) : driftMean window =
    ⟨roundDiv (window.map Shade.l).sum 8, roundDiv (window.map Shade.a).sum 8, roundDiv (window.map Shade.b).sum 8⟩ := by
  unfold driftMean
  rw [foldl_add_eq_sum, foldl_add_eq_sum, foldl_add_eq_sum]
  rfl

/-- The comparison of a full window with the line batch (R111). -/
theorem driftCompare_spec (j : Job) (window : List Shade) (b : LineBatch) :
    let mean : Shade := ⟨roundDiv (window.map Shade.l).sum 8, roundDiv (window.map Shade.a).sum 8,
      roundDiv (window.map Shade.b).sum 8⟩
    let d2 := ((mean.l - b.ref.l) ^ 2 + (mean.a - b.ref.a) ^ 2 + (mean.b - b.ref.b) ^ 2).toNat
    let verdict := (driftCompare j window b).verdict
    driftCompare j window b = ⟨mean, d2, verdict⟩ ∧ (verdict = .drift ↔ j.tolB ^ 2 < d2) ∧
      (verdict = .inside ↔ d2 ≤ j.tolB ^ 2 ∧ d2 ≤ (j.tolB * j.warn / 100) ^ 2) := by
  intro mean d2 verdict
  have dist : shadeDist2 mean b.ref = d2 := by
    simp only [d2, ← shadeDist2_eq, Int.toNat_natCast]
  have is : verdict = if j.tolB ^ 2 < d2 then .drift else if j.warnAt ^ 2 < d2 then .warning else .inside := by
    simp only [verdict, driftCompare, driftMean_eq]
    rw [dist]
  refine ⟨?_, ?_, ?_⟩
  · simp only [verdict, driftCompare, driftMean_eq]
    rw [dist]
  · rw [is]
    (repeat' split) <;> simp_all
  · rw [is]
    show _ ↔ d2 ≤ j.tolB ^ 2 ∧ d2 ≤ j.warnAt ^ 2
    (repeat' split) <;> simp <;> omega

theorem State.updateOpenEntry_eq (s : State) (f : Entry → Entry) : s.updateOpenEntry f = { s with rlg := { s.rlg with
    log := s.rlg.log.map fun y => if (s.wnd.active.any fun g => g.seq == y.seq) = true then f y else y } } := by
  unfold State.updateOpenEntry
  cases s.wnd.active with
  | none => simp
  | some g =>
    simp only [State.updateEntry, Option.any_some, beq_iff_eq]
    refine congrArg (fun l => ({ s with rlg := { s.rlg with log := l } } : State)) (List.map_congr_left fun y _ => ?_)
    by_cases same : y.seq = g.seq
    · rw [if_pos same, if_pos same.symm]
    · rw [if_neg same, if_neg fun h => same h.symm]

section
variable {s : State}

/-- The effects of a verdict (R111). -/
theorem State.takeVerdict_spec (s : State) (c : DriftComparison) :
    (s.takeVerdict c).shu = { s.shu with lastDrift := some c } ∧ (s.takeVerdict c).trk = s.trk ∧
      (c.verdict = .inside → (s.takeVerdict c).rlg = s.rlg ∧ (s.takeVerdict c).lnk = s.lnk) ∧
      (c.verdict = .warning → (s.takeVerdict c).rlg = s.rlg ∧ (s.takeVerdict c).lnk = s.lnk.raised [.shadeWarning]) ∧
      (c.verdict = .drift → (s.takeVerdict c).lnk = s.lnk.raised [.shadeDrift] ∧
        (s.takeVerdict c).rlg = { s.rlg with log := s.rlg.log.map fun y =>
          if (s.wnd.active.any fun g => g.seq == y.seq) = true then
            { y with flags := { y.flags with driftSeen := true } } else y }) := by
  unfold State.takeVerdict
  dsimp only
  cases c.verdict with
  | drift =>
    dsimp only
    rw [State.updateOpenEntry_eq]
    exact ⟨rfl, rfl, nofun, nofun, fun _ => ⟨rfl, rfl⟩⟩
  | warning => exact ⟨rfl, rfl, nofun, fun _ => ⟨rfl, rfl⟩, nofun⟩
  | inside => exact ⟨rfl, rfl, fun _ => ⟨rfl, rfl⟩, nofun, nofun⟩

theorem State.shadePending_iff {index : BitVec 32} :
    s.shadePending index = true ↔ ∃ r ∈ s.trk.records, r.index = index ∧ r.shadeState = .pending := by
  simp [State.shadePending]

end

/-- Settles O47: the read's end, then the reading's by the record and the window. -/
theorem readCompleteWritesTheReading : Obligations.ReadCompleteWritesTheReading := by
  intro s j a b c d e f job raw x
  have taken := State.withJob_some (fun j => s.readDone j raw) job
  rcases (Classical.em (s.shu.select = true)).symm with select | select
  · have runs : exec (.readComplete a b c d e f) s = .next s.endOfEvent :=
      congrArg (fun u : State => Host.Outcome.next u.endOfEvent) (if_neg select)
    exact ⟨_, runs, fun _ => s.endOfEvent_nothing, fun h => absurd h select, fun m h => absurd h select⟩
  have runs : exec (.readComplete a b c d e f) s = .next (s.readDone j raw).endOfEvent :=
    congrArg (fun u : State => Host.Outcome.next u.endOfEvent) ((if_pos select).trans taken)
  refine ⟨_, runs, fun off => absurd select (by simp [off]), fun _ idle => ?_, fun m _ head meas => ?_⟩
  · have is : s.readDone j raw = { s with shu := { s.shu with select := false } } := by
      unfold State.readDone
      dsimp only
      split
      next m head meas =>
        rcases idle with h | h
        · exact absurd head h
        · rw [meas] at h
          cases h
      next => rfl
    rw [is] at runs ⊢
    refine ⟨State.endOfEvent_shu _, ?_, State.endOfEvent_silent_of_eq _ _ rfl⟩
    exact ((affects_shu s _).1.mono (by decide)).trans ((State.endOfEvent_sameBut _).mono (by decide))
  · intro pending idle clamped window
    let u : State := { s with shu := idle }
    have ended : s.readDone j raw = if m.smeared then u.takeSmeared m.index else u.takeReading j m.index raw := by
      unfold State.readDone
      dsimp only
      rw [head, meas]
      rfl
    have held : u.shadePending m.index = true ↔ pending := State.shadePending_iff
    let v : State := { s with shu := clamped }
    refine ⟨?_, fun smeared => ?_, fun sharp gone => ?_, fun sharp held' => ?_⟩
    · have frame : Affects [.shu, .trk, .rlg] s (s.readDone j raw) := State.readDone_affects s j raw
      exact frame.endOfEvent
    · rw [if_pos smeared] at ended
      rw [ended, State.endOfEvent_rlg, State.endOfEvent_trk, State.endOfEvent_shu]
      by_cases held' : pending
      · have is : u.takeSmeared m.index = { s with
            trk := shadeWritten s.trk m.index .smeared none
            shu := { idle with counts := { s.shu.counts with smeared := grown s.shu.counts.smeared } } } := by
          unfold State.takeSmeared
          rw [if_pos (held.mpr held'), State.shadeWritten_eq]
          rfl
        rw [is]
        exact ⟨rfl, State.endOfEvent_silent_of_eq _ _ rfl, fun _ => ⟨rfl, rfl⟩, fun h => absurd held' h⟩
      · have is : u.takeSmeared m.index = u := if_neg (mt held.mp held')
        rw [is]
        exact ⟨rfl, State.endOfEvent_silent_of_eq _ _ rfl, fun h => absurd h held', fun _ => ⟨rfl, rfl⟩⟩
    · have is : u.takeReading j m.index raw = v := if_neg (mt held.mp gone)
      rw [if_neg (by simp [sharp]), is] at ended
      rw [ended, State.endOfEvent_rlg, State.endOfEvent_trk, State.endOfEvent_shu]
      exact ⟨rfl, State.endOfEvent_silent_of_eq _ _ rfl, rfl, rfl⟩
    · intro told
      let w : State := { s with trk := shadeWritten s.trk m.index .present (some x), shu := told }
      have reads : s.readDone j raw = match s.shu.lineBatch with
          | none => w
          | some b => if window.length = 8 then w.takeVerdict (driftCompare j window b) else w := by
        rw [ended, if_neg (by simp [sharp])]
        unfold State.takeReading
        dsimp only
        rw [if_pos (by exact held.mpr held'), State.shadeWritten_eq]
        rfl
      refine ⟨?_, fun short => ?_, fun batch is full => ?_⟩
      · rw [State.endOfEvent_trk, reads]
        split
        · rfl
        · split
          · exact (w.takeVerdict_spec _).2.1
          · rfl
      · have stays : s.readDone j raw = w := by
          rw [reads]
          split
          · rfl
          next b is =>
            rcases short with h | h
            · rw [is] at h
              cases h
            · exact if_neg h
        rw [stays, State.endOfEvent_rlg, State.endOfEvent_shu]
        exact ⟨rfl, State.endOfEvent_silent_of_eq _ _ rfl, rfl⟩
      · rw [is] at reads
        dsimp only at reads
        rw [if_pos full] at reads
        intro mean d2
        obtain ⟨compare, drift, inside⟩ := driftCompare_spec j window batch
        obtain ⟨shu, -, quiet, warns, drifts⟩ := w.takeVerdict_spec (driftCompare j window batch)
        refine ⟨(driftCompare j window batch).verdict, ?_, drift, inside, fun v => ?_, fun v => ?_, fun v => ?_⟩
        · rw [reads, State.endOfEvent_shu, shu]
          exact congrArg (fun c => { told with lastDrift := some c }) compare
        · rw [reads, State.endOfEvent_rlg]
          exact ⟨(quiet v).1, State.endOfEvent_silent_of_eq _ _ (quiet v).2⟩
        · rw [reads, State.endOfEvent_rlg]
          exact ⟨(warns v).1, State.endOfEvent_silent _ _ _ (warns v).2⟩
        · rw [reads, State.endOfEvent_rlg]
          exact ⟨State.endOfEvent_silent _ _ _ (drifts v).1, (drifts v).2⟩

/-! ### A closing entry -/

section
variable {s : State} {j : Job} {e : Entry}

/-- A WASTE entry: of another role than ROLL, or too short (R141). -/
def Entry.IsWaste (e : Entry) (j : Job) : Prop := e.role ≠ .roll ∨ e.length.getD 0 < j.minRoll

theorem Entry.kindAt_eq (e : Entry) (j : Job) : (e.IsWaste j → e.kindAt j = .waste) ∧
    (¬e.IsWaste j → e.kindAt j = if e.length.getD 0 < j.lt then .short else .roll) := by
  unfold Entry.kindAt Entry.IsWaste
  refine ⟨?_, fun h => ?_⟩
  · rintro (role | short)
    · exact if_pos role
    · rw [if_pos short, ite_self]
  · obtain ⟨role, long⟩ := not_or.mp h
    rw [if_neg role, if_neg long]

/-- An entry summed up as it closes, with its kind (R141, R142). -/
def Entry.summed (e : Entry) (j : Job) : Entry := { e with kind := some (e.kindAt j) }.sumUp

/-- The shade summary of a closing entry (R142). -/
theorem Entry.summed_spec (e : Entry) (j : Job) :
    (e.readings = 0 → (e.summed j).mean = none ∧ (e.summed j).spread2 = none ∧ (e.summed j).flags.unmeasured = true) ∧
      (0 < e.readings → (e.summed j).mean =
          some ⟨roundDiv e.sum.l e.readings, roundDiv e.sum.a e.readings, roundDiv e.sum.b e.readings⟩ ∧
        (e.summed j).flags.unmeasured = e.flags.unmeasured ∧
        ∀ lo hi, e.low = some lo → e.high = some hi → (e.summed j).spread2 = some (((hi.l - lo.l).natAbs / 2) ^ 2 +
          ((hi.a - lo.a).natAbs / 2) ^ 2 + ((hi.b - lo.b).natAbs / 2) ^ 2)) := by
  refine ⟨fun none_ => ⟨?_, ?_, ?_⟩, fun some_ => ⟨?_, ?_, fun lo hi low high => ?_⟩⟩
  · exact if_pos none_
  · show Entry.spreadOf _ = none
    unfold Entry.spreadOf
    split
    · exact if_pos none_
    · rfl
  · show (e.flags.unmeasured || e.readings == 0) = true
    rw [none_]
    simp
  · exact if_neg (Nat.ne_of_gt some_)
  · show (e.flags.unmeasured || e.readings == 0) = e.flags.unmeasured
    rw [beq_eq_false_iff_ne.mpr (Nat.ne_of_gt some_), Bool.or_false]
  · show Entry.spreadOf _ = _
    unfold Entry.spreadOf
    dsimp only
    rw [low, high]
    exact if_neg (Nat.ne_of_gt some_)

theorem Entry.rejects_iff (e : Entry) (j : Job) : e.rejects j = true ↔
    j.rejReg < e.outCount ∨ j.rejEmb < e.embOff ∨ (∃ x, e.spread2 = some x ∧ j.tolB ^ 2 < x) ∨
      (j.rejectOnSplice = true ∧ 0 < e.splices) ∨ e.flags.eventLost = true := by
  simp only [Entry.rejects, Bool.or_eq_true, Bool.and_eq_true, decide_eq_true_eq, Option.any_eq_true, or_assoc]

theorem Entry.seconds_iff (e : Entry) (j : Job) : e.seconds j = true ↔
    j.bReg < e.outCount ∨ j.bUnknown < e.unknownCount ∨ 0 < e.defects ∨ (j.embossOn = true ∧ 0 < e.embLifted) ∨
      e.flags.overlength = true ∨ e.flags.unmeasured = true ∨ e.flags.batchOverflow = true := by
  simp only [Entry.seconds, Bool.or_eq_true, Bool.and_eq_true, decide_eq_true_eq, or_assoc]

theorem State.closeEntry_waste (waste : e.IsWaste j) :
    s.closeEntry j e = s.updateEntry e.seq fun _ => { e.summed j with state := .closed } := by
  have kind := (e.kindAt_eq j).1 waste
  unfold State.closeEntry Entry.summed
  rw [kind]
  rfl

theorem State.batchFor_none {roll : Nat} (mean : e.mean = none) : s.batchFor j roll e = (s, { e with batch := some 0 }) := by
  unfold State.batchFor
  split
  next => rfl
  next m is =>
    rw [mean] at is
    cases is

theorem State.batchFor_some {roll : Nat} {m : Shade} (mean : e.mean = some m) :
    let given := s.assignBatch j roll m
    s.batchFor j roll e = (given.1,
      { e with batch := some given.2, flags := { e.flags with batchOverflow := e.flags.batchOverflow || given.2 == 0 } }) := by
  unfold State.batchFor
  split
  next is =>
    rw [mean] at is
    cases is
  next m' is =>
    cases mean.symm.trans is
    rfl

/-- A ROLL or SHORT entry as it is closed: with the batch code and the overflow flag given it. -/
def Entry.labelled (e : Entry) (j : Job) (roll code : Nat) (overflowed : Bool) : Entry :=
  let graded := { e.summed j with
    roll := some roll, batch := some code, flags := { (e.summed j).flags with batchOverflow := overflowed } }
  { graded with
    grade := some (graded.gradeAt j), state := .closed, label := if e.flags.doffed then .missing else .due }

theorem State.closeEntry_labelled (roll : ¬e.IsWaste j) :
    let after : State := { s with rlg := { s.rlg with nextRoll := rollAfter s.rlg.nextRoll } }
    s.closeEntry j e = match (e.summed j).mean with
      | none => after.updateEntry e.seq fun _ => e.labelled j s.rlg.nextRoll 0 e.flags.batchOverflow
      | some mean =>
        let given := after.assignBatch j s.rlg.nextRoll mean
        given.1.updateEntry e.seq fun _ =>
          e.labelled j s.rlg.nextRoll given.2 (e.flags.batchOverflow || given.2 == 0) := by
  intro after
  have labelled : s.closeEntry j e = s.closeLabelled j (e.summed j) := by
    have kind := (e.kindAt_eq j).2 roll
    unfold State.closeEntry Entry.summed
    dsimp only
    split
    next waste =>
      rw [kind] at waste
      split at waste <;> cases waste
    next => rfl
    next => rfl
  rw [labelled]
  cases mean : (e.summed j).mean with
  | none =>
    have given := after.batchFor_none (j := j) (roll := s.rlg.nextRoll) (e := { e.summed j with roll := some s.rlg.nextRoll })
      mean
    unfold State.closeLabelled
    dsimp only
    rw [given]
    rfl
  | some m =>
    have given := after.batchFor_some (j := j) (roll := s.rlg.nextRoll) (e := { e.summed j with roll := some s.rlg.nextRoll })
      mean
    unfold State.closeLabelled
    dsimp only
    rw [given]
    rfl

/-- The grade of a labelled entry, by its own fields (R143). -/
theorem Entry.labelled_grade (e : Entry) (j : Job) (roll code : Nat) (overflowed : Bool) :
    let y := e.labelled j roll code overflowed
    (y.rejects j = true → y.grade = some .reject) ∧ (¬y.rejects j = true → y.seconds j = true → y.grade = some .b) ∧
      (¬y.rejects j = true → ¬y.seconds j = true → y.grade = some .a) := by
  intro y
  have is : y.grade = some (if y.rejects j then .reject else if y.seconds j then .b else .a) := rfl
  rw [is]
  exact ⟨fun h => by rw [if_pos h], fun h k => by rw [if_neg h, if_pos k], fun h k => by rw [if_neg h, if_neg k]⟩

end

/-- Settles O41: the summary, then by the entry's kind. -/
theorem closingGradesAnEntry : Obligations.ClosingGradesAnEntry := by
  intro s j e _ waste after mean half t
  obtain ⟨unread, read⟩ := e.summed_spec j
  have written : ∀ (u : State) (y : Entry), SameBut [.rlg] u (u.updateEntry e.seq fun _ => y) := fun u y => by
    intro b hb
    cases b <;> first | rfl | simp at hb
  by_cases is : e.IsWaste j
  · have closed := State.closeEntry_waste (s := s) is
    refine ⟨{ e.summed j with state := .closed }, ?_⟩
    rw [show t = _ from closed]
    refine ⟨rfl, rfl, (written s _).mono (by decide), rfl, unread, read, fun _ => ?_, fun h => absurd is h⟩
    exact ⟨congrArg some ((e.kindAt_eq j).1 is), rfl, rfl, rfl, rfl, rfl, rfl, written s _⟩
  · have closed := State.closeEntry_labelled (s := s) is
    have kind := (e.kindAt_eq j).2 is
    let u : State := { s with rlg := { s.rlg with nextRoll := after } }
    have numbered : SameBut [.rlg] s u := (fun b hb => by cases b <;> first | rfl | simp at hb)
    by_cases none_ : e.readings = 0
    · have nothing := (unread none_).1
      rw [nothing] at closed
      dsimp only at closed
      refine ⟨e.labelled j s.rlg.nextRoll 0 e.flags.batchOverflow, ?_⟩
      rw [show t = _ from closed]
      obtain ⟨first, second, third⟩ := e.labelled_grade j s.rlg.nextRoll 0 e.flags.batchOverflow
      refine ⟨rfl, rfl, ?_, rfl, unread, read, fun h => absurd h is, fun _ => ⟨congrArg some kind, rfl, rfl, rfl,
        fun _ => ⟨rfl, ?_, rfl⟩, fun some_ => absurd some_ (by omega), ?_⟩⟩
      · exact (numbered.trans (written u _)).mono (by decide)
      · exact numbered.trans (written u _)
      · intro rejects seconds
        exact ⟨fun h => first ((Entry.rejects_iff _ j).mpr h),
          fun h k => second (mt (Entry.rejects_iff _ j).mp h) ((Entry.seconds_iff _ j).mpr k),
          fun h k => third (mt (Entry.rejects_iff _ j).mp h) (mt (Entry.seconds_iff _ j).mp k)⟩
    · have some_ : 0 < e.readings := Nat.pos_of_ne_zero none_
      rw [(read some_).1] at closed
      dsimp only at closed
      let given := u.assignBatch j s.rlg.nextRoll mean
      have frame : SameBut [.lnk, .bat, .shu] u given.1 := (u.assignBatch_affects j s.rlg.nextRoll mean).1
      have rlg : given.1.rlg = u.rlg := frame.rlg (by decide)
      refine ⟨e.labelled j s.rlg.nextRoll given.2 (e.flags.batchOverflow || given.2 == 0), ?_⟩
      rw [show t = _ from closed]
      obtain ⟨first, second, third⟩ :=
        e.labelled_grade j s.rlg.nextRoll given.2 (e.flags.batchOverflow || given.2 == 0)
      have log : ∀ y : Entry, (given.1.updateEntry e.seq fun _ => y).rlg.log =
          s.rlg.log.map fun x => if x.seq = e.seq then y else x := fun y => by
        show List.map _ given.1.rlg.log = _
        rw [rlg]
      have seq : given.1.rlg.nextSeq = s.rlg.nextSeq := by rw [rlg]
      have number : given.1.rlg.nextRoll = after := by rw [rlg]
      refine ⟨log _, seq, ?_, rfl, unread, read, fun h => absurd h is,
        fun _ => ⟨congrArg some kind, rfl, number, rfl,
        fun h => absurd h none_, fun _ => ⟨rfl, written _ _, rfl⟩, ?_⟩⟩
      · exact ((numbered.mono (by decide)).trans (frame.mono (by decide))).trans ((written _ _).mono (by decide))
      · intro rejects seconds
        exact ⟨fun h => first ((Entry.rejects_iff _ j).mpr h),
          fun h k => second (mt (Entry.rejects_iff _ j).mp h) ((Entry.seconds_iff _ j).mpr k),
          fun h k => third (mt (Entry.rejects_iff _ j).mp h) (mt (Entry.seconds_iff _ j).mp k)⟩

end Sys2Proof.Machine
end

section
/-! PROOFS. What the winder plans: first eligible points, the search for cut1, splices judged, and an appended record
(O49). -/

namespace Sys2Proof.Machine

-- one proof at a time: the joined package would else open a thread for each of them
set_option Elab.async false

section
variable {s t u : State} {j : Job} {e y : Count}

/-! ### Eligible points -/

theorem find_split {α : Type} {p : α → Bool} {before after : List α} {a : α} (here : p a = true)
    (none_ : ∀ q ∈ before, p q = false) : (before ++ a :: after).find? p = some a := by
  rw [List.find?_append, List.find?_eq_none.mpr fun q member => by simp [none_ q member], Option.none_or]
  simp [here]

theorem State.firstPoint_first (s : State) (j : Job) (y : Count) : FirstEligible j s.wnd.points y (s.firstPoint j y) := by
  unfold FirstEligible State.firstPoint
  refine ⟨fun mode => by rw [mode], fun mode => ⟨fun none_ => ?_, fun before n x after is here earlier => ?_⟩⟩
  · rw [mode]
    dsimp only
    have unknown : (s.wnd.points.find? fun x => reached x.2 y) = none :=
      List.find?_eq_none.mpr fun q member => by rw [none_ q member]; exact Bool.false_ne_true
    rw [unknown]
  · rw [mode, is]
    dsimp only
    have found : (before ++ (n, x) :: after).find? (fun q => reached q.2 y) = some (n, x) := find_split (a := (n, x)) here earlier
    rw [found]

/-- The first eligible point is known, or pending at its floor. -/
theorem State.firstPoint_cases (s : State) (j : Job) (y : Count) :
    (∃ d n, s.firstPoint j y = .known d n) ∨ s.firstPoint j y = .fromFloor y := by
  unfold State.firstPoint
  split
  · exact .inl ⟨y, none, rfl⟩
  · split
    next x _ => exact .inl ⟨x.2, some x.1, rfl⟩
    · exact .inr rfl

theorem State.notBefore_known (s : State) (j : Job) (d : Count) (n : Option PointName) :
    (ahead s.floorDatum d ≤ 0 → s.notBefore j (.known d n) = .known d n) ∧
      (0 < ahead s.floorDatum d → FirstEligible j s.wnd.points s.floorDatum (s.notBefore j (.known d n))) := by
  refine ⟨fun late => if_neg (Int.not_lt.mpr late), fun early => ?_⟩
  rw [show s.notBefore j (.known d n) = s.firstPoint j s.floorDatum from if_pos early]
  exact s.firstPoint_first j _

/-- What the settling of a plan leaves (R119). -/
theorem State.settleTarget_settled (s : State) (j : Job) (plan : CutTarget) :
    Settled j s.wnd.points s.floorDatum plan (s.settleTarget j plan) := by
  cases plan with
  | known d n => rfl
  | seekingCut1 => rfl
  | waiting => rfl
  | named n =>
    refine ⟨fun unknown => ?_, fun before d after is others => ?_⟩
    · unfold State.settleTarget
      dsimp only
      rw [List.find?_eq_none.mpr fun q member => by simpa using unknown q member]
    · have found : s.settleTarget j (.named n) = s.notBefore j (.known d (some n)) := by
        unfold State.settleTarget
        dsimp only
        rw [is, find_split (p := fun x : PointName × Count => x.1 == n) (by simp) fun q member => by
          simpa using others q member]
      rw [found]
      exact s.notBefore_known j d (some n)
  | fromFloor y =>
    refine ⟨s.firstPoint j y, s.firstPoint_first j y, fun d n is => ?_, fun pending => ?_⟩
    · unfold State.settleTarget
      dsimp only
      rw [is]
      exact s.notBefore_known j d n
    · rcases s.firstPoint_cases j y with ⟨d, n, is⟩ | is
      · exact absurd is (pending d n)
      · unfold State.settleTarget
        dsimp only
        rw [is]
        rfl

/-! ### The search for cut1 -/

theorem greatestPoint_mem {l : List (PointName × Count)} {q : PointName × Count} (is : greatestPoint l = some q) : q ∈ l := by
  induction l generalizing q with
  | nil => cases is
  | cons x l ih =>
    unfold greatestPoint at is
    split at is
    next => cases is; simp
    next z last =>
      split at is <;> cases is
      · exact List.mem_cons_of_mem _ (ih last)
      · simp

theorem greatestPoint_eq_none {l : List (PointName × Count)} (is : greatestPoint l = none) : l = [] := by
  cases l with
  | nil => rfl
  | cons x l =>
    unfold greatestPoint at is
    split at is
    · cases is
    · split at is <;> cases is

/-- The greatest of some points is the one that lies beyond all before it and not before any after it. -/
theorem greatestPoint_split {before after : List (PointName × Count)} {q : PointName × Count}
    (earlier : ∀ x ∈ before, 0 < ahead q.2 x.2) (later : ∀ x ∈ after, ahead x.2 q.2 ≤ 0) :
    greatestPoint (before ++ q :: after) = some q := by
  induction before with
  | nil =>
    rw [List.nil_append]
    unfold greatestPoint
    split
    · rfl
    next z last => exact if_neg (Int.not_lt.mpr (later z (greatestPoint_mem last)))
  | cons x before ih =>
    rw [List.cons_append]
    unfold greatestPoint
    rw [ih fun z member => earlier z (List.mem_cons_of_mem _ member)]
    exact if_pos (earlier x List.mem_cons_self)

theorem State.beyondKnown_iff {limit : Count} :
    s.beyondKnown limit = true ↔ ∃ q ∈ s.wnd.points, 0 < ahead q.2 limit := by
  simp only [State.beyondKnown, List.any_eq_true, decide_eq_true_eq]

theorem State.classifyCut1_found (s : State) (j : Job) (limit : Count) :
    Cut1Found s j s.floorDatum limit (s.classifyCut1 j limit) := by
  have passed : s.firingReached j limit = reached s.wpu.h (fwd limit j.dCut) := rfl
  refine ⟨fun late => if_pos (passed.trans late), fun early mode => ?_, fun early mode => ?_⟩
  · unfold State.classifyCut1
    rw [if_neg (by simp [passed, early]), mode]
  · have range : s.cut1Range j limit = s.wnd.points.filter fun x =>
        reached x.2 s.floorDatum && reached limit x.2 && !reached s.wpu.h (fwd x.2 j.dCut) := rfl
    have is : s.classifyCut1 j limit = match greatestPoint (s.cut1Range j limit) with
        | some x => if s.beyondKnown limit then .fixed x.2 (some x.1) else .candidate x.2 (some x.1)
        | none => if s.beyondKnown limit then .none else .seeking := by
      unfold State.classifyCut1
      rw [if_neg (by simp [passed, early]), mode] <;> rfl
    refine ⟨fun none_ => ?_, fun before n z after points inRange earlier later => ?_⟩
    · have empty : s.cut1Range j limit = [] := by
        rw [range]
        refine List.filter_eq_nil_iff.mpr fun q member h => none_ q member ?_
        simp only [Bool.and_eq_true, Bool.not_eq_true'] at h
        exact ⟨h.1.1, h.1.2, h.2⟩
      rw [empty] at is
      rw [is]
      exact ⟨fun beyond => if_pos (State.beyondKnown_iff.mpr beyond), fun near => if_neg (mt State.beyondKnown_iff.mp near)⟩
    · have member : (reached z s.floorDatum && reached limit z && !reached s.wpu.h (fwd z j.dCut)) = true := by
        obtain ⟨a, b, c⟩ := inRange
        simp [a, b, c]
      have split : s.cut1Range j limit =
          (before.filter fun x => reached x.2 s.floorDatum && reached limit x.2 && !reached s.wpu.h (fwd x.2 j.dCut)) ++
          (n, z) :: after.filter fun x => reached x.2 s.floorDatum && reached limit x.2 && !reached s.wpu.h (fwd x.2 j.dCut) := by
        rw [range, points, List.filter_append, List.filter_cons_of_pos (by exact member)]
      have inside {q : PointName × Count}
          (h : (reached q.2 s.floorDatum && reached limit q.2 && !reached s.wpu.h (fwd q.2 j.dCut)) = true) :
          reached q.2 s.floorDatum = true ∧ reached limit q.2 = true ∧ reached s.wpu.h (fwd q.2 j.dCut) = false := by
        simp only [Bool.and_eq_true, Bool.not_eq_true'] at h
        exact ⟨h.1.1, h.1.2, h.2⟩
      have greatest : greatestPoint (s.cut1Range j limit) = some (n, z) := by
        rw [split]
        refine greatestPoint_split (fun q h => ?_) fun q h => ?_
        · obtain ⟨member, h⟩ := List.mem_filter.mp h
          exact earlier q member (inside h)
        · obtain ⟨member, h⟩ := List.mem_filter.mp h
          exact later q member (inside h)
      rw [greatest] at is
      rw [is]
      exact ⟨fun beyond => if_pos (State.beyondKnown_iff.mpr beyond), fun near => if_neg (mt State.beyondKnown_iff.mp near)⟩

theorem State.cut2Floor_eq (s : State) (j : Job) (c : Cut1) : s.cut2Floor j c = cut2FloorOf j s.floorDatum c := by
  cases c <;> rfl

theorem State.afterSplice_first (s : State) (j : Job) (x : Count) (c : Cut1) :
    FirstEligible j s.wnd.points (further (fwd x j.clearance) (cut2FloorOf j s.floorDatum c))
      (s.afterSplice j x (s.cut2Floor j c)) := by
  rw [State.cut2Floor_eq]
  exact s.firstPoint_first j _

theorem SplicePlan.cut_eq (q : SplicePlan) : q.cut = plannedUnder q := by
  unfold SplicePlan.cut plannedUnder
  cases q.cut1 <;> rfl

/-- An appended record's points become known, and the plans of the winder that await them are settled. -/
def State.pointsSettled (s : State) (j : Job) (r : RepeatRecord) : State :=
  let s := s.addPoints j r
  match s.wnd.plan, s.wnd.search with
  | some p, _ => s.reexamine j p
  | none, some limit => s.searchOn j limit
  | none, none => s.settlePlanned j

theorem State.winderAppend_eq (s : State) (j : Job) (r : RepeatRecord) :
    s.winderAppend j r = (s.pointsSettled j r).judgeSplices j := rfl

/-- A state with a plan, and the planned cut under it. -/
theorem State.planWith_eq (s : State) (j : Job) (limit last : Count) (c : Cut1) :
    let q : SplicePlan := ⟨limit, last, c, s.afterSplice j last (s.cut2Floor j c)⟩
    s.planWith j limit last c = { s with wnd := { s.wnd with plan := some q, planned := some (plannedUnder q) } } := by
  intro q
  unfold State.planWith State.setPlan
  rw [SplicePlan.cut_eq]

theorem State.setPlan_eq (s : State) (q : SplicePlan) :
    s.setPlan q = { s with wnd := { s.wnd with plan := some q, planned := some (plannedUnder q) } } := by
  unfold State.setPlan
  rw [SplicePlan.cut_eq]

/-- A search for cut1 under the plan q has been examined again, with cut2 found anew (R121). -/
def SearchedAnew (s : State) (j : Job) (q : SplicePlan) (u : State) : Prop :=
  ∃ c y, Cut1Found s j s.floorDatum q.limit c ∧
    FirstEligible j s.wnd.points (further (fwd q.lastSplice j.clearance) (cut2FloorOf j s.floorDatum c)) y ∧
    u.wnd.plan = some { q with cut1 := c, cut2 := y } ∧
    u.wnd.planned = some (plannedUnder { q with cut1 := c, cut2 := y })

/-- The cut2 of the plan q has been settled where it was pending (R119, R121). -/
def Cut2Settled (s : State) (j : Job) (q : SplicePlan) (u : State) : Prop :=
  ∃ y, Settled j s.wnd.points s.floorDatum q.cut2 y ∧ u.wnd.plan = some { q with cut2 := y } ∧
    ((∃ n, q.cut2 = .named n) ∨ (∃ f, q.cut2 = .fromFloor f) →
      u.wnd.planned = some (plannedUnder { q with cut2 := y })) ∧
    ((∀ n, q.cut2 ≠ .named n) → (∀ f, q.cut2 ≠ .fromFloor f) → u.wnd.planned = s.wnd.planned)

/-- Only the plan and the planned cut differ. -/
def Replanned (s u : State) : Prop := u = { s with wnd := { s.wnd with plan := u.wnd.plan, planned := u.wnd.planned } }

theorem State.settledCut2 (s : State) (j : Job) (q : SplicePlan) (planned : s.wnd.plan = some q) :
    let u := match q.cut2 with
      | .named _ | .fromFloor _ => s.setPlan { q with cut2 := s.settleTarget j q.cut2 }
      | .known _ _ | .seekingCut1 | .waiting => s
    Replanned s u ∧ Cut2Settled s j q u := by
  intro u
  have pending (is : u = s.setPlan { q with cut2 := s.settleTarget j q.cut2 })
      (some_ : (∃ n, q.cut2 = .named n) ∨ ∃ f, q.cut2 = .fromFloor f) : Replanned s u ∧ Cut2Settled s j q u := by
    rw [is, State.setPlan_eq]
    refine ⟨rfl, _, s.settleTarget_settled j q.cut2, rfl, fun _ => rfl, fun named floor => ?_⟩
    rcases some_ with ⟨n, h⟩ | ⟨f, h⟩
    · exact absurd h (named n)
    · exact absurd h (floor f)
  have stays (is : u = s) (same : Settled j s.wnd.points s.floorDatum q.cut2 q.cut2)
      (no : ¬((∃ n, q.cut2 = .named n) ∨ ∃ f, q.cut2 = .fromFloor f)) : Replanned s u ∧ Cut2Settled s j q u := by
    rw [is]
    exact ⟨rfl, q.cut2, same, planned, fun h => absurd h no, fun _ _ => rfl⟩
  have target : (∃ n, q.cut2 = .named n) ∨ (∃ f, q.cut2 = .fromFloor f) ∨ (∃ d n, q.cut2 = .known d n) ∨
      q.cut2 = .seekingCut1 ∨ q.cut2 = .waiting := by cases q.cut2 <;> simp
  rcases target with ⟨n, is⟩ | ⟨f, is⟩ | ⟨d, n, is⟩ | is | is
  · exact pending (by simp only [u, is]) (.inl ⟨n, is⟩)
  · exact pending (by simp only [u, is]) (.inr ⟨f, is⟩)
  · exact stays (by simp only [u, is]) (by rw [is]; rfl) (by simp [is])
  · exact stays (by simp only [u, is]) (by rw [is]; rfl) (by simp [is])
  · exact stays (by simp only [u, is]) (by rw [is]; rfl) (by simp [is])

/-- A plan that stands, examined again (R121). -/
theorem State.reexamine_spec (s : State) (j : Job) (q : SplicePlan) (planned : s.wnd.plan = some q) :
    Replanned s (s.reexamine j q) ∧
    ((∃ d n, q.cut1 = .candidate d n) ∨ q.cut1 = .seeking → SearchedAnew s j q (s.reexamine j q)) ∧
    ((∃ d n, q.cut1 = .fixed d n) ∨ q.cut1 = .none → Cut2Settled s j q (s.reexamine j q)) := by
  have searching (is : s.reexamine j q = s.planWith j q.limit q.lastSplice (s.classifyCut1 j q.limit)) :
      Replanned s (s.reexamine j q) ∧ SearchedAnew s j q (s.reexamine j q) := by
    rw [is, State.planWith_eq]
    exact ⟨rfl, _, _, s.classifyCut1_found j q.limit, s.afterSplice_first j q.lastSplice _, rfl, rfl⟩
  have settling (is : s.reexamine j q = match q.cut2 with
      | .named _ | .fromFloor _ => s.setPlan { q with cut2 := s.settleTarget j q.cut2 }
      | .known _ _ | .seekingCut1 | .waiting => s) : Replanned s (s.reexamine j q) ∧ Cut2Settled s j q (s.reexamine j q) := by
    rw [is]
    exact s.settledCut2 j q planned
  have cut1 : (∃ d n, q.cut1 = .candidate d n) ∨ q.cut1 = .seeking ∨ (∃ d n, q.cut1 = .fixed d n) ∨ q.cut1 = .none := by
    cases q.cut1 <;> simp
  rcases cut1 with ⟨d, n, is⟩ | is | ⟨d, n, is⟩ | is
  · obtain ⟨frame, found⟩ := searching (by unfold State.reexamine; rw [is])
    exact ⟨frame, fun _ => found, by simp [is]⟩
  · obtain ⟨frame, found⟩ := searching (by unfold State.reexamine; rw [is])
    exact ⟨frame, fun _ => found, by simp [is]⟩
  · obtain ⟨frame, settled⟩ := settling (by unfold State.reexamine; rw [is] <;> rfl)
    exact ⟨frame, by simp [is], fun _ => settled⟩
  · obtain ⟨frame, settled⟩ := settling (by unfold State.reexamine; rw [is] <;> rfl)
    exact ⟨frame, by simp [is], fun _ => settled⟩

/-- The search for cut1 that END_JOB has kept goes on (R121, R130). -/
theorem State.searchOn_spec (s : State) (j : Job) (limit : Count) :
    let u := s.searchOn j limit
    u = { s with wnd := { s.wnd with planned := u.wnd.planned, search := u.wnd.search } } ∧ ∃ c,
      Cut1Found s j s.floorDatum limit c ∧
      (∀ d n, c = .fixed d n → u.wnd.planned = some ⟨.known d n, .tail, false⟩ ∧ u.wnd.search = none) ∧
      (∀ d n, c = .candidate d n → u.wnd.planned = some ⟨.known d n, .tail, false⟩ ∧ u.wnd.search = some limit) ∧
      (c = .seeking → u.wnd.planned = some ⟨.seekingCut1, .tail, false⟩ ∧ u.wnd.search = some limit) ∧
      (c = .none → u.wnd.search = none ∧
        ∃ y, FirstEligible j s.wnd.points s.floorDatum y ∧ u.wnd.planned = some ⟨y, .tail, false⟩) := by
  intro u
  have found := s.classifyCut1_found j limit
  have by_cut1 : u = match s.classifyCut1 j limit with
      | .fixed d n => s.planTail (.known d n) none
      | .candidate d n => s.planTail (.known d n) (some limit)
      | .seeking => s.planTail .seekingCut1 (some limit)
      | .none => s.planTail (s.firstPoint j s.floorDatum) none := rfl
  generalize s.classifyCut1 j limit = c at found by_cut1
  rw [by_cut1]
  cases c with
  | fixed d n =>
    exact ⟨rfl, _, found, fun d' n' is => (by cases is; exact ⟨rfl, rfl⟩), nofun, nofun, nofun⟩
  | candidate d n =>
    exact ⟨rfl, _, found, nofun, fun d' n' is => (by cases is; exact ⟨rfl, rfl⟩), nofun, nofun⟩
  | seeking => exact ⟨rfl, _, found, nofun, nofun, fun _ => ⟨rfl, rfl⟩, nofun⟩
  | none => exact ⟨rfl, _, found, nofun, nofun, nofun, fun _ => ⟨rfl, _, s.firstPoint_first j _, rfl⟩⟩

end

/-- Settles O49: the points become known, then the plan, the search or the planned cut that awaits them. -/
theorem appendedRecordsSettleThePlans : Obligations.AppendedRecordsSettleThePlans := by
  intro s j r e eMin
  have floor : s.floorDatum = e := by
    unfold State.floorDatum
    rw [eMin]
    rfl
  subst floor
  intro points seen cut2
  have by_plan : s.pointsSettled j r = match s.wnd.plan, s.wnd.search with
      | some q, _ => seen.reexamine j q
      | none, some limit => seen.searchOn j limit
      | none, none => seen.settlePlanned j := rfl
  refine ⟨s.pointsSettled j r, s.winderAppend_eq j r, ?_⟩
  cases plan : s.wnd.plan with
  | some q =>
    have is : s.pointsSettled j r = seen.reexamine j q := by rw [by_plan, plan]
    obtain ⟨frame, searches, settles⟩ := seen.reexamine_spec j q plan
    rw [← is] at frame searches settles
    have search : (s.pointsSettled j r).wnd.search = seen.wnd.search := by rw [frame]
    refine ⟨?_, nofun, fun q' held => ?_, nofun⟩
    · rw [search]
      exact frame
    · cases held
      exact ⟨search, searches, settles⟩
  | none =>
    cases search : s.wnd.search with
    | some limit =>
      have is : s.pointsSettled j r = seen.searchOn j limit := by rw [by_plan, plan, search]
      obtain ⟨frame, found⟩ := seen.searchOn_spec j limit
      rw [← is] at frame found
      have same : (s.pointsSettled j r).wnd.plan = seen.wnd.plan := by rw [frame]
      refine ⟨?_, nofun, nofun, fun limit' _ held => ?_⟩
      · rw [same]
        exact frame
      · cases held
        exact ⟨same.trans plan, found⟩
    | none =>
      have is : s.pointsSettled j r = seen.settlePlanned j := by rw [by_plan, plan, search]
      rw [is]
      cases planned : s.wnd.planned with
      | none =>
        have stays : seen.settlePlanned j = seen := by
          unfold State.settlePlanned
          rw [show seen.wnd.planned = none from planned]
        rw [stays]
        exact ⟨rfl, fun _ _ => ⟨plan, search, fun _ => planned, nofun⟩, nofun, nofun⟩
      | some c =>
        have settled : seen.settlePlanned j = { seen with wnd := { seen.wnd with
            planned := some { c with target := seen.settleTarget j c.target } } } := by
          unfold State.settlePlanned
          rw [show seen.wnd.planned = some c from planned]
        rw [settled]
        refine ⟨rfl, fun _ _ => ⟨plan, search, nofun, fun c' held => ?_⟩, nofun, nofun⟩
        cases held
        exact ⟨_, seen.settleTarget_settled j c.target, rfl⟩

end Sys2Proof.Machine
end

section
/-! PROOFS. Splices are judged: which, with what effect, and what the judging leaves as it is. -/

namespace Sys2Proof.Machine

-- one proof at a time: the joined package would else open a thread for each of them
set_option Elab.async false

section
variable {s t u : State} {j : Job} {e : WebEvent} {x : Count} {g : Segment}

/-! ### What one judged splice does -/

theorem CutTarget.isAfter_iff {y : CutTarget} {d : Count} : y.isAfter d = true ↔ LiesAfter y d := by
  unfold CutTarget.isAfter LiesAfter
  split
  next x n =>
    refine ⟨fun later x' n' is => ?_, fun later => decide_eq_true (later x n rfl)⟩
    cases is
    exact of_decide_eq_true later
  next other => exact ⟨fun _ x n is => absurd is (other x n), fun _ => rfl⟩

/-- A splice judged while a plan stands (R122). -/
theorem State.extendPlan_spec (s : State) (j : Job) (q : SplicePlan) (x : Count) :
    let t := s.extendPlan j q x
    Replanned s t ∧ ∃ y,
      FirstEligible j s.wnd.points (further (fwd x j.clearance) (cut2FloorOf j s.floorDatum q.cut1)) y ∧
      let moves := ∀ d n, q.cut2 = .known d n → LiesAfter y d
      (moves → t.wnd.plan = some { q with lastSplice := x, cut2 := y } ∧
        t.wnd.planned = some (plannedUnder { q with lastSplice := x, cut2 := y })) ∧
      (¬moves → t.wnd.plan = some { q with lastSplice := x } ∧ t.wnd.planned = s.wnd.planned) := by
  intro t
  let y := s.afterSplice j x (s.cut2Floor j q.cut1)
  have moves_iff : (match q.cut2 with
      | .known d _ => y.isAfter d
      | _ => true) = true ↔ ∀ d n, q.cut2 = .known d n → LiesAfter y d := by
    split
    next d n is =>
      rw [CutTarget.isAfter_iff]
      refine ⟨fun after d' n' same => ?_, fun after => after d n is⟩
      cases is.symm.trans same
      exact after
    next other => exact ⟨fun _ d n is => absurd is (other d n), fun _ => rfl⟩
  have is : t = if (match q.cut2 with
      | .known d _ => y.isAfter d
      | _ => true) = true then s.setPlan { q with lastSplice := x, cut2 := y }
      else { s with wnd := { s.wnd with plan := some { q with lastSplice := x } } } := rfl
  have first := s.afterSplice_first j x q.cut1
  by_cases moves : ∀ d n, q.cut2 = .known d n → LiesAfter y d
  · rw [if_pos (moves_iff.mpr moves), State.setPlan_eq] at is
    rw [is]
    exact ⟨rfl, y, first, fun _ => ⟨rfl, rfl⟩, fun h => absurd moves h⟩
  · rw [if_neg (mt moves_iff.mp moves)] at is
    rw [is]
    exact ⟨rfl, y, first, fun h => absurd h moves, fun _ => ⟨rfl, rfl⟩⟩

/-- A splice judged in a LEAD_IN or REMOVE segment (R122). -/
theorem State.extendPlanned_spec (s : State) (j : Job) (x : Count) :
    let t := s.extendPlanned j x
    Replanned s t ∧ t.wnd.plan = s.wnd.plan ∧
    ((∀ c p n, s.wnd.planned = some c → c.target ≠ .known p n) → t = s) ∧
    ∀ c p n, s.wnd.planned = some c → c.target = .known p n →
      ∃ y, FirstEligible j s.wnd.points (further (fwd x j.clearance) s.floorDatum) y ∧
        (LiesAfter y p → t.wnd.planned = some { c with target := y, replanned := false }) ∧
        (¬LiesAfter y p → t = s) := by
  intro t
  by_cases known : ∃ c p n, s.wnd.planned = some c ∧ c.target = .known p n
  · obtain ⟨c, p, n, planned, target⟩ := known
    let y := s.afterSplice j x s.floorDatum
    have is : t = if y.isAfter p = true then
        { s with wnd := { s.wnd with planned := some { c with target := y, replanned := false } } } else s := by
      show s.extendPlanned j x = _
      unfold State.extendPlanned
      rw [planned]
      dsimp only
      rw [target]
    have first : FirstEligible j s.wnd.points (further (fwd x j.clearance) s.floorDatum) y := s.firstPoint_first j _
    have knows (t' : State) (h : (LiesAfter y p → t'.wnd.planned = some { c with target := y, replanned := false }) ∧
        (¬LiesAfter y p → t' = s)) : ∀ c p n, s.wnd.planned = some c → c.target = .known p n →
      ∃ y, FirstEligible j s.wnd.points (further (fwd x j.clearance) s.floorDatum) y ∧
        (LiesAfter y p → t'.wnd.planned = some { c with target := y, replanned := false }) ∧ (¬LiesAfter y p → t' = s) := by
      intro c' p' n' planned' target'
      cases planned.symm.trans planned'
      cases target.symm.trans target'
      exact ⟨y, first, h⟩
    by_cases after : LiesAfter y p
    · rw [if_pos (CutTarget.isAfter_iff.mpr after)] at is
      rw [is]
      exact ⟨rfl, rfl, fun h => absurd target (h c p n planned), knows _ ⟨fun _ => rfl, fun h => absurd after h⟩⟩
    · rw [if_neg (mt CutTarget.isAfter_iff.mp after)] at is
      rw [is]
      exact ⟨rfl, rfl, fun _ => rfl, knows _ ⟨fun h => absurd h after, fun _ => rfl⟩⟩
  · have is : t = s := by
      show s.extendPlanned j x = _
      unfold State.extendPlanned
      split
      next c planned =>
        split
        next p n target => exact absurd ⟨c, p, n, planned, target⟩ known
        next => rfl
      next => rfl
    rw [is]
    exact ⟨rfl, rfl, fun _ => rfl, fun c p n planned target => absurd ⟨c, p, n, planned, target⟩ known⟩

/-- A splice judged in the TAIL does nothing (R120). -/
theorem State.judge_tail (active : s.wnd.active = some g) (role : g.role = .tail) (j : Job) (x : Count) :
    s.judge j x = s := by
  unfold State.judge
  rw [active]
  dsimp only
  rw [role]

theorem State.judge_rollStarts (active : s.wnd.active = some g) (role : g.role = .roll) (plan : s.wnd.plan = none) (j : Job)
    (x : Count) : s.judge j x = s.startPlan j x := by
  unfold State.judge
  rw [active]
  dsimp only
  rw [role, plan]

theorem State.judge_rollExtends {q : SplicePlan} (active : s.wnd.active = some g) (role : g.role = .roll)
    (plan : s.wnd.plan = some q) (j : Job) (x : Count) : s.judge j x = s.extendPlan j q x := by
  unfold State.judge
  rw [active]
  dsimp only
  rw [role, plan]

theorem State.judge_moves (active : s.wnd.active = some g) (role : g.role = .leadIn ∨ g.role = .remove) (j : Job) (x : Count) :
    s.judge j x = s.extendPlanned j x := by
  unfold State.judge
  rw [active]
  dsimp only
  rcases role with role | role <;> rw [role]

theorem State.judge_replanned (s : State) (j : Job) (x : Count) : Replanned s (s.judge j x) := by
  cases active : s.wnd.active with
  | none =>
    have is : s.judge j x = s := by
      unfold State.judge
      rw [active]
    rw [is]
    rfl
  | some g =>
    have role : g.role = .roll ∨ (g.role = .leadIn ∨ g.role = .remove) ∨ g.role = .tail := by cases g.role <;> simp
    rcases role with roll | moved | tail
    · cases plan : s.wnd.plan with
      | none =>
        rw [State.judge_rollStarts active roll plan]
        unfold State.startPlan
        dsimp only
        rw [State.planWith_eq]
        rfl
      | some q =>
        rw [State.judge_rollExtends active roll plan]
        exact (s.extendPlan_spec j q x).1
    · rw [State.judge_moves active moved]
      exact (s.extendPlanned_spec j x).1
    · rw [State.judge_tail active tail]
      rfl

/-! ### Which splices are judged -/

theorem State.judgeable_iff : s.judgeable j e = true ↔
    (s.lsc.lineState = .run ∨ s.lsc.lineState = .hold) ∧ j.splicePolicy = .remove ∧ e.kind = .splice ∧ e.judged = false ∧
      ∃ g c p n, s.wnd.active = some g ∧ s.wnd.planned = some c ∧ c.target = .known p n ∧
        reached e.datum g.start = true ∧ reached e.datum p = false := by
  unfold State.judgeable
  simp only [Bool.and_eq_true, Bool.or_eq_true, beq_iff_eq, Bool.not_eq_true', and_assoc]
  refine and_congr_right fun _ => and_congr_right fun _ => and_congr_right fun _ => and_congr_right fun _ => ?_
  cases s.wnd.active with
  | none => simp
  | some g =>
    cases s.wnd.planned with
    | none => simp
    | some c =>
      dsimp only
      cases target : c.target with
      | known p n => simp [target]
      | _ => simp [target]

theorem modify_of_getElem {α : Type} {l : List α} {n : Nat} {x : α} (at_ : l[n]? = some x) (f : α → α) :
    l.modify n f = l.set n (f x) := by
  induction l generalizing n with
  | nil => cases at_
  | cons y l ih =>
    cases n with
    | zero =>
      cases at_
      rfl
    | succ n => exact congrArg (y :: ·) (ih at_)

theorem State.judgeAt_eq (s : State) (j : Job) (n : Nat) : s.judgeAt j n =
    match s.trk.events[n]? with
    | some e => if s.judgeable j e = true then
        ({ s with trk := { s.trk with events := s.trk.events.set n { e with judged := true } } } : State).judge j e.datum
      else s
    | none => s := by
  unfold State.judgeAt
  cases at_ : s.trk.events[n]? with
  | none => rfl
  | some e =>
    have set : s.trk.events.modify n (fun e => { e with judged := true }) = s.trk.events.set n { e with judged := true } := by
      exact modify_of_getElem at_ _
    unfold State.modifyEvent
    dsimp only
    rw [set]

theorem State.judgeAt_idle {n : Nat} (idle : ∀ e, s.trk.events[n]? = some e → s.judgeable j e = false) :
    s.judgeAt j n = s := by
  rw [State.judgeAt_eq]
  split
  next e at_ => rw [idle e at_, if_neg (by simp)]
  next => rfl

theorem foldl_judgeAt_idle {l : List Nat} (idle : ∀ n ∈ l, ∀ e, s.trk.events[n]? = some e → s.judgeable j e = false) :
    l.foldl (fun (s : State) n => s.judgeAt j n) s = s := by
  induction l with
  | nil => rfl
  | cons n l ih =>
    rw [List.foldl_cons, State.judgeAt_idle (idle n List.mem_cons_self)]
    exact ih fun m member => idle m (List.mem_cons_of_mem _ member)

theorem State.judgeSplices_idle (idle : ∀ e ∈ s.trk.events, s.judgeable j e = false) : s.judgeSplices j = s :=
  foldl_judgeAt_idle fun _ _ e at_ => idle e (List.mem_of_getElem? at_)

/-- A splice that alone may be judged is judged. -/
theorem State.judgeSplices_one {before after : List WebEvent} (is : s.trk.events = before ++ e :: after)
    (judgeable : s.judgeable j e = true) (others : ∀ x ∈ before ++ after, x.kind = .splice → x.judged = true) :
    s.judgeSplices j = ({ s with trk := { s.trk with events := before ++ { e with judged := true } :: after } } : State).judge
      j e.datum := by
  have past (u : State) {x : WebEvent} (h : x.kind = .splice → x.judged = true) : u.judgeable j x = false := by
    refine Classical.byContradiction fun may => ?_
    obtain ⟨-, -, kind, judged, -⟩ := State.judgeable_iff.mp (by simpa using may)
    rw [h kind] at judged
    cases judged
  let v : State := { s with trk := { s.trk with events := before ++ { e with judged := true } :: after } }
  have here : s.judgeAt j before.length = v.judge j e.datum := by
    have at_ : s.trk.events[before.length]? = some e := by simp [is]
    rw [State.judgeAt_eq, at_]
    dsimp only
    rw [if_pos judgeable, is]
    simp only [List.set_append_right _ _ (Nat.le_refl _), Nat.sub_self, List.set_cons_zero, v]
  have events : (v.judge j e.datum).trk.events = before ++ { e with judged := true } :: after := by
    rw [v.judge_replanned j e.datum]
  have length : s.trk.events.length = before.length + (1 + after.length) := by
    rw [is, List.length_append, List.length_cons, Nat.add_comm 1]
  unfold State.judgeSplices
  rw [length, List.range_add, List.foldl_append]
  have first : (List.range before.length).foldl (fun (s : State) n => s.judgeAt j n) s = s := by
    refine foldl_judgeAt_idle fun n member x at_ => past s (others x ?_)
    rw [is, List.getElem?_append_left (List.mem_range.mp member)] at at_
    exact List.mem_append_left _ (List.mem_of_getElem? at_)
  rw [first, Nat.add_comm 1, List.range_succ_eq_map, List.map_cons, List.foldl_cons, Nat.add_zero, here]
  refine foldl_judgeAt_idle fun n member x at_ => past _ ?_
  simp only [List.map_map, List.mem_map, Function.comp_apply] at member
  obtain ⟨m, -, rfl⟩ := member
  rw [events, List.getElem?_append_right (by omega), show before.length + Nat.succ m - before.length = m + 1 by omega,
    List.getElem?_cons_succ] at at_
  exact others x (List.mem_append_right _ (List.mem_of_getElem? at_))

/-! ### What the judging leaves -/

/-- An event with its judgement taken back. -/
def WebEvent.unjudged (e : WebEvent) : WebEvent := { e with judged := false }

/-- The winder has judged splices: its plan and its planned cut may differ, and which events are judged. A planned cut that
did not wait does not wait now. -/
structure Judged (s t : State) : Prop where
  is : t = { s with
    wnd := { s.wnd with plan := t.wnd.plan, planned := t.wnd.planned }
    trk := { s.trk with events := t.trk.events } }
  events : t.trk.events.map WebEvent.unjudged = s.trk.events.map WebEvent.unjudged
  waiting : ∀ c, t.wnd.planned = some c → c.target = .waiting → t.wnd.planned = s.wnd.planned

theorem Judged.refl (s : State) : Judged s s := ⟨rfl, rfl, fun _ _ _ => rfl⟩

theorem Judged.trans (h : Judged s t) (k : Judged t u) : Judged s u := by
  refine ⟨?_, k.events.trans h.events, fun c planned waits => ?_⟩
  · have last := k.is
    rw [h.is] at last
    exact last
  · have same := k.waiting c planned waits
    exact same.trans (h.waiting c (same ▸ planned) waits)

theorem firstEligible_not_waiting {points : List (PointName × Count)} {y : Count} {target : CutTarget}
    (h : FirstEligible j points y target) : target ≠ .waiting := by
  cases mode : j.cutMode with
  | length =>
    rw [h.1 mode]
    nofun
  | matched =>
    obtain ⟨unknown, known⟩ := h.2 mode
    by_cases none_ : ∀ q ∈ points, reached q.2 y = false
    · rw [unknown none_]
      nofun
    · have some_ : ∃ q, points.find? (fun q => reached q.2 y) = some q := by
        refine Option.isSome_iff_exists.mp (List.find?_isSome.mpr ?_)
        refine Classical.byContradiction fun no => ?_
        exact none_ fun q member => by
          refine Classical.byContradiction fun at_ => ?_
          exact no ⟨q, member, by simpa using at_⟩
      obtain ⟨q, found⟩ := some_
      obtain ⟨here, before, after, is, earlier⟩ := List.find?_eq_some_iff_append.mp found
      rw [known before q.1 q.2 after is here fun x member => by simpa using earlier x member]
      nofun

theorem plannedUnder_not_waiting {q : SplicePlan} (h : q.cut2 ≠ .waiting) : (plannedUnder q).target ≠ .waiting := by
  unfold plannedUnder
  cases q.cut1 with
  | none => exact h
  | _ => nofun

theorem Replanned.judged {s t : State} (is : Replanned s t)
    (waiting : ∀ c, t.wnd.planned = some c → c.target = .waiting → t.wnd.planned = s.wnd.planned) : Judged s t := by
  have trk : t.trk = s.trk := by rw [show t = _ from is]
  refine ⟨?_, by rw [trk], waiting⟩
  rw [trk]
  exact is

/-- One splice judged. -/
theorem State.judge_judged (s : State) (j : Job) (x : Count) : Judged s (s.judge j x) := by
  refine (s.judge_replanned j x).judged fun c planned waits => ?_
  cases active : s.wnd.active with
  | none =>
    unfold State.judge
    rw [active]
  | some g =>
    have role : g.role = .roll ∨ (g.role = .leadIn ∨ g.role = .remove) ∨ g.role = .tail := by cases g.role <;> simp
    rcases role with roll | moved | tail
    · cases plan : s.wnd.plan with
      | none =>
        rw [State.judge_rollStarts active roll plan] at planned
        unfold State.startPlan at planned
        dsimp only at planned
        rw [State.planWith_eq] at planned
        cases planned
        exact absurd waits (plannedUnder_not_waiting (firstEligible_not_waiting (s.afterSplice_first j x _)))
      | some q =>
        rw [State.judge_rollExtends active roll plan] at planned ⊢
        obtain ⟨-, y, first, moves, stays⟩ := s.extendPlan_spec j q x
        by_cases is : ∀ d n, q.cut2 = .known d n → LiesAfter y d
        · rw [(moves is).2] at planned
          cases planned
          exact absurd waits (plannedUnder_not_waiting (firstEligible_not_waiting first))
        · exact (stays is).2
    · rw [State.judge_moves active moved] at planned ⊢
      obtain ⟨-, -, pending, known⟩ := s.extendPlanned_spec j x
      by_cases is : ∃ c p n, s.wnd.planned = some c ∧ c.target = .known p n
      · obtain ⟨c', p, n, planned', target⟩ := is
        obtain ⟨y, first, moves, stays⟩ := known c' p n planned' target
        by_cases after : LiesAfter y p
        · rw [moves after] at planned
          cases planned
          exact absurd waits (firstEligible_not_waiting first)
        · rw [stays after]
      · rw [pending fun c p n planned target => is ⟨c, p, n, planned, target⟩]
    · rw [State.judge_tail active tail]

theorem State.judgeAt_judged (s : State) (j : Job) (n : Nat) : Judged s (s.judgeAt j n) := by
  rw [State.judgeAt_eq]
  split
  next e at_ =>
    split
    · let u : State := { s with trk := { s.trk with events := s.trk.events.set n { e with judged := true } } }
      refine Judged.trans (t := u) ⟨rfl, ?_, fun _ _ _ => rfl⟩ (u.judge_judged j e.datum)
      refine List.ext_getElem? fun m => ?_
      simp only [u, List.getElem?_map, List.getElem?_set]
      split
      next same =>
        subst same
        obtain ⟨short, -⟩ := List.getElem?_eq_some_iff.mp at_
        rw [if_pos short, at_]
        rfl
      next => rfl
    · exact Judged.refl s
  next => exact Judged.refl s

/-- The judging of the list's splices. -/
theorem State.judgeSplices_judged (s : State) (j : Job) : Judged s (s.judgeSplices j) := by
  unfold State.judgeSplices
  generalize List.range _ = l
  induction l generalizing s with
  | nil => exact Judged.refl s
  | cons n l ih => exact (s.judgeAt_judged j n).trans (ih _)

theorem Judged.sameBut {s t : State} (h : Judged s t) : SameBut [.trk, .wnd] s t := by
  have is := h.is
  intro b hb
  rw [is]
  cases b <;> first | rfl | simp at hb

theorem Judged.records {s t : State} (h : Judged s t) : t.trk.records = s.trk.records ∧ t.trk.eventLost = s.trk.eventLost := by
  rw [h.is]
  exact ⟨rfl, rfl⟩

theorem Judged.faces {s t : State} (h : Judged s t) : t.trk.events.map eventFace = s.trk.events.map eventFace := by
  have face : eventFace = eventFace ∘ WebEvent.unjudged := rfl
  rw [face, ← List.map_map, ← List.map_map, h.events]

/-- Without a known planned cut no splice may be judged. -/
theorem State.judgeSplices_unknown (unknown : ∀ c p n, s.wnd.planned = some c → c.target ≠ .known p n) :
    s.judgeSplices j = s := by
  refine State.judgeSplices_idle fun e _ => ?_
  refine Classical.byContradiction fun may => ?_
  obtain ⟨-, -, -, -, g, c, p, n, -, planned, target, -⟩ := State.judgeable_iff.mp (by simpa using may)
  exact unknown c p n planned target

end

end Sys2Proof.Machine
end

section
/-! PROOFS. The mark scanner: origins fixed, window expiries (O21) and edges (O20); the end of a speed window (O17). -/

namespace Sys2Proof.Machine

-- one proof at a time: the joined package would else open a thread for each of them
set_option Elab.async false

/-! ### The winder's part of an appended record -/

section
variable {s v : State} {j : Job}

theorem Replanned.sameBut {s t : State} (is : Replanned s t) : SameBut [.wnd] s t := by
  intro b hb
  rw [show t = _ from is]
  cases b <;> first | rfl | simp at hb

theorem State.pointsSettled_sameBut (s : State) (j : Job) (r : RepeatRecord) : SameBut [.wnd] s (s.pointsSettled j r) := by
  let u := s.addPoints j r
  have first : SameBut [.wnd] s u := by
    intro b hb
    cases b <;> first | rfl | simp at hb
  refine first.trans ?_
  unfold State.pointsSettled
  dsimp only
  split
  next _ _ q plan => exact (u.reexamine_spec j q plan).1.sameBut
  next _ _ limit _ _ =>
    have is := (u.searchOn_spec j limit).1
    intro b hb
    rw [is]
    cases b <;> first | rfl | simp at hb
  next =>
    intro b hb
    unfold State.settlePlanned
    split
    · cases b <;> rfl
    · cases b <;> first | rfl | simp at hb

theorem State.winderAppend_sameBut (s : State) (j : Job) (r : RepeatRecord) :
    SameBut [.trk, .wnd] s (s.winderAppend j r) ∧ (s.winderAppend j r).trk.records = s.trk.records ∧
      (s.winderAppend j r).trk.eventLost = s.trk.eventLost := by
  rw [State.winderAppend_eq]
  have first := s.pointsSettled_sameBut j r
  have judged := (s.pointsSettled j r).judgeSplices_judged j
  refine ⟨(first.mono (by decide)).trans judged.sameBut, ?_, ?_⟩
  · rw [judged.records.1, first.trk (by decide)]
  · rw [judged.records.2, first.trk (by decide)]

/-! ### An origin is fixed -/

/-- The windows of the emboss unit with the one that an appended record expects (R84). -/
theorem State.addWindow_eq (s : State) (j : Job) (r : RepeatRecord) :
    s.addWindow j r = { s with emb := { s.emb with windows := s.emb.windows ++
      if j.embossOn = true ∧ r.index.toNat % j.k = j.phaseSelect then
        [⟨r.index, r.kind, fwd r.origin (j.dEm + j.oEm), none⟩] else [] } } := by
  unfold State.addWindow
  simp only [Bool.and_eq_true, beq_iff_eq]
  split
  · rfl
  · rw [List.append_nil]

/-- The start list with the point of a record that is sampled (R100). -/
theorem State.addStart_eq (s : State) (j : Job) (r : RepeatRecord) :
    s.addStart j r = { s with shu := { s.shu with starts := s.shu.starts ++
      if r.shadeState = .pending then [(r.index, fwd r.origin (j.dSh + j.oSh))] else [] } } := by
  unfold State.addStart
  split
  · rfl
  · rw [List.append_nil]

/-- A state that differs from s in the reference state, the line, the nip and the links reads like s where an origin is
fixed. -/
structure ReadsLike (s v : State) : Prop where
  frame : SameBut [.msc, .lsc, .emb, .lnk] s v
  msc : v.msc = { s.msc with refState := v.msc.refState, missCount := v.msc.missCount }
  windows : v.emb.windows = s.emb.windows
  line : (v.lsc.lineState == .run || v.lsc.lineState == .hold) = (s.lsc.lineState == .run || s.lsc.lineState == .hold)

/-- What a fixed origin leaves (R9, R27). -/
theorem State.fixOrigin_spec (like : ReadsLike s v) (j : Job) (o : Count) (kind : OriginKind) :
    let t := v.fixOrigin j o kind
    OriginFixed j s t o kind ∧ t.msc.refState = v.msc.refState ∧ t.msc.missCount = v.msc.missCount ∧
      t.msc.capture = (match kind with
        | .marked => some ⟨s.msc.nextIndex, o, [], none⟩
        | .flywheel => s.msc.capture) ∧
      t.emb = { v.emb with windows := t.emb.windows } ∧ SameBut [.msc, .trk, .shu, .emb, .wnd] v t := by
  intro t
  let r := v.newRecord j o kind
  let m : Msc := { v.msc with
    origin := some ⟨o, kind⟩, prevEdge := none, nextIndex := v.msc.nextIndex + 1
    capture := match kind with
      | .marked => some { index := r.index, origin := o, edges := [], overflow := none }
      | .flywheel => v.msc.capture
    closings := v.msc.closings ++ [⟨r.index, o, kind⟩] }
  let a : State := { v with msc := m, trk := { v.trk with records := v.trk.records ++ [r] } }
  let w := (a.addStart j r).addWindow j r
  have is : t = w.winderAppend j r := rfl
  have index : v.msc.nextIndex = s.msc.nextIndex := by rw [like.msc]
  have shade : r.shadeState = if s.msc.nextIndex.toNat % j.sampleInterval = 0 then .pending else .notScheduled := by
    rw [← index]
    rfl
  have pending : r.shadeState = .pending ↔ s.msc.nextIndex.toNat % j.sampleInterval = 0 := by
    rw [shade]
    split <;> simp [*]
  have made : w = { a with
      shu := { s.shu with starts := s.shu.starts ++
        (if s.msc.nextIndex.toNat % j.sampleInterval = 0 then [(s.msc.nextIndex, fwd o (j.dSh + j.oSh))] else []) }
      emb := { v.emb with windows := s.emb.windows ++
        (if j.embossOn = true ∧ s.msc.nextIndex.toNat % j.k = j.phaseSelect then
          [⟨s.msc.nextIndex, kind, fwd o (j.dEm + j.oEm), none⟩] else []) } } := by
    show (a.addStart j r).addWindow j r = _
    rw [State.addWindow_eq, State.addStart_eq]
    simp only [pending]
    rw [← index, ← like.windows, show s.shu = v.shu from (like.frame.shu (by decide)).symm]
    rfl
  have trk : v.trk = s.trk := like.frame.trk (by decide)
  have events : v.trk.events = s.trk.events := by rw [trk]
  have sees : Sees s w := by
    rw [made]
    exact ⟨like.frame.wpu (by decide), like.frame.wnd (by decide), events, like.line⟩
  have after := sees.append j r
  obtain ⟨frame, records, lost⟩ := w.winderAppend_sameBut j r
  rw [← is] at after frame records lost
  have msc : t.msc = m := by
    rw [frame.msc (by decide), made]
  have shu := frame.shu (by decide)
  have emb := frame.emb (by decide)
  rw [made] at shu emb
  have rlp : v.rlp = s.rlp := like.frame.rlp (by decide)
  have left : SameBut [.msc, .trk, .shu, .emb, .wnd] v t := by
    refine SameBut.trans (t := w) ?_ (frame.mono (by decide))
    rw [made]
    intro b hb
    cases b <;> first | rfl | exact like.frame.shu (by decide) | simp at hb
  refine ⟨⟨?_, ?_, ?_, ?_, ?_, ?_, ?_, shu, ?_, r, ?_, index, rfl, rfl, rfl, rfl, rfl, rfl, rfl, rfl, shade, fun i => ?_, ?_, ?_,
    ?_, ?_⟩, ?_, ?_, ?_, ?_, left⟩
  · rw [msc]
  · rw [msc]
  · rw [msc]
    exact congrArg (· + 1) index
  · rw [msc]
    show v.msc.closings ++ [⟨v.msc.nextIndex, o, kind⟩] = _
    rw [index, like.msc]
  · rw [msc]
    show v.msc.gates = _
    rw [like.msc]
  · rw [msc]
    show v.msc.offsets = _
    rw [like.msc]
  · rw [msc]
    show v.msc.oMax = _
    rw [like.msc]
  · rw [emb]
  · rw [records, made]
    exact congrArg (fun x => Trk.records x ++ [r]) trk
  · show (Vector.ofFn fun i : Fin 8 => if (v.station i).isResident then StationOutcome.absent else .notUsed)[i] = _
    simp only [State.station, rlp, Fin.getElem_fin, Vector.getElem_ofFn]
    rfl
  · show eligiblePoints j o = _
    unfold eligiblePoints
    cases j.cutMode <;> cases j.matchType <;> rfl
  · exact after.events
  · rw [lost, made]
    show v.trk.eventLost = _
    rw [trk]
  · exact after.wnd
  · rw [msc]
  · rw [msc]
  · rw [msc]
    cases kind with
    | marked => exact congrArg (fun n => some (⟨n, o, [], none⟩ : Capture)) index
    | flywheel =>
      show v.msc.capture = _
      rw [like.msc]
  · rw [emb]

/-- A fixed origin, at the end of the event. -/
theorem originFixed_congr {s t t' : State} {o : Count} {kind : OriginKind} (fixed : OriginFixed j s t o kind)
    (same : SameBut [.lnk] t t') : OriginFixed j s t' o kind := by
  unfold OriginFixed at fixed ⊢
  rw [show t'.msc = t.msc from same.msc (by decide), show t'.shu = t.shu from same.shu (by decide),
    show t'.emb = t.emb from same.emb (by decide), show t'.trk = t.trk from same.trk (by decide),
    show t'.wnd = t.wnd from same.wnd (by decide)]
  exact fixed

/-! ### Window expiries -/

/-- The reference state set. -/
theorem State.setRef_like (s : State) (x : RefState) (n : Nat) : ReadsLike s (s.setRef x n) := by
  refine ⟨fun b hb => ?_, rfl, rfl, rfl⟩
  cases b <;> first | rfl | simp at hb

theorem evaluated_windows (j : Job) (may : Bool) (e : Emb) : (evaluated j may e).windows = e.windows := by
  unfold evaluated
  split <;> rfl

theorem State.evaluateNip_windows (job : s.lsc.job = some j) : s.evaluateNip.emb.windows = s.emb.windows := by
  rw [State.evaluateNip_eq job]
  exact evaluated_windows j _ _

theorem State.raiseCause_windows (job : s.lsc.job = some j) (c : HoldCause) :
    (s.raiseCause c).emb.windows = s.emb.windows := by
  rw [State.raiseCause_emb]
  split
  · refine State.evaluateNip_windows (s := { s with lsc := s.lsc.raised c }) (j := j) ?_
    rw [← job]
    unfold Lsc.raised
    (repeat' split) <;> rfl
  · rfl

/-- A raised cause keeps RUN and HOLD together, and the others apart. -/
theorem Lsc.raised_line (l : Lsc) (c : HoldCause) :
    ((l.raised c).lineState == .run || (l.raised c).lineState == .hold) = (l.lineState == .run || l.lineState == .hold) := by
  unfold Lsc.raised
  (repeat' split) <;> simp_all

/-- The notices of a lost reference (R30). -/
def refLostTold (s : State) : List Notice :=
  (s.referenceStation.map Notice.stationAlarm).toList ++ causeTold s .refLost

theorem State.refLost_spec (job : s.lsc.job = some j) (n : Nat) :
    ReadsLike s (s.refLost n) ∧ (s.refLost n).msc = { s.msc with refState := .lost, missCount := n } ∧
      (s.refLost n).lsc = (s.raiseCause .refLost).lsc ∧ (s.refLost n).emb = (s.raiseCause .refLost).emb ∧
      (s.refLost n).lnk = s.lnk.raised (refLostTold s) := by
  let u : State := match s.referenceStation with
    | some i => (s.setRef .lost n).raiseNotice (.stationAlarm i)
    | none => s.setRef .lost n
  have is : s.refLost n = u.raiseCause .refLost := rfl
  have first : u = { s with
      msc := { s.msc with refState := .lost, missCount := n }
      lnk := s.lnk.raised (s.referenceStation.map Notice.stationAlarm).toList } := by
    show (match s.referenceStation with
      | some i => (s.setRef .lost n).raiseNotice (.stationAlarm i)
      | none => s.setRef .lost n) = _
    cases s.referenceStation <;> rfl
  rw [is, first]
  let v : State := { s with
      msc := { s.msc with refState := .lost, missCount := n }
      lnk := s.lnk.raised (s.referenceStation.map Notice.stationAlarm).toList }
  obtain ⟨lsc, emb, told⟩ := State.raiseCause_congr (s := s) (u := v) rfl rfl rfl rfl .refLost
  have frame := (v.raiseCause_affects .refLost).1
  have raised := (v.raiseCause_spec .refLost).2
  have msc : (v.raiseCause .refLost).msc = v.msc := frame.msc (by decide)
  refine ⟨⟨?_, ?_, ?_, ?_⟩, msc, lsc, emb, ?_⟩
  · refine SameBut.trans (t := v) (fun b hb => ?_) (frame.mono (by decide))
    cases b <;> first | rfl | simp at hb
  · rw [msc]
  · rw [emb]
    exact State.raiseCause_windows job .refLost
  · rw [lsc, State.raiseCause_lsc]
    exact s.lsc.raised_line .refLost
  · rw [raised, told]
    exact s.lnk.raised_append _ _

/-- How the reference state, the line, the nip and the notices stand where a projected origin is to be fixed (R29, R30, R31). -/
inductive Missed (j : Job) (s v : State) : Prop where
  | lost (was : s.msc.refState = .lost) (is : v = s)
  | few (was : s.msc.refState ≠ .lost) (below : s.msc.missCount + 1 < j.refMissLimit)
    (is : v = s.setRef .flywheel (s.msc.missCount + 1))
  | many (was : s.msc.refState ≠ .lost) (limit : j.refMissLimit ≤ s.msc.missCount + 1)
    (is : v = s.refLost (s.msc.missCount + 1))

theorem ReadsLike.refl (s : State) : ReadsLike s s := ⟨SameBut.refl _ s, rfl, rfl, rfl⟩

theorem mem_refLostTold {n : Notice} (member : n ∈ refLostTold s) :
    n = .lineState ∨ ∃ i, n = .stationAlarm i ∧ (s.station i).desc = .reference := by
  rcases List.mem_append.mp member with alarm | told
  · refine .inr ?_
    cases found : s.referenceStation with
    | none =>
      rw [found] at alarm
      cases alarm
    | some i =>
      rw [found] at alarm
      refine ⟨i, by simpa using alarm, ?_⟩
      simpa using (find_finRange_iff.mp found).1
  · unfold causeTold at told
    split at told
    · exact .inl (by simpa using told)
    · cases told

theorem State.referenceStation_eq {i : StationId} (here : (s.station i).desc = .reference)
    (before : ∀ k, k < i → (s.station k).desc ≠ .reference) : s.referenceStation = some i :=
  find_finRange_iff.mpr ⟨by simp [here], fun k lt => by simpa using before k lt⟩

/-- A projected origin fixed where one was missed. -/
theorem Missed.projectedFixed {t' : State} {o : Origin} (missed : Missed j s v) (job : s.lsc.job = some j)
    (same : SameBut [.lnk] (v.fixOrigin j (fwd o.datum j.L) .flywheel) t')
    (silent : ∀ ns, v.lnk = s.lnk.raised ns → Silent s t' ns) : ProjectedFixed j o s t' := by
  have left (like : ReadsLike s v) : OriginFixed j s t' (fwd o.datum j.L) .flywheel ∧ t'.msc.capture = s.msc.capture ∧
      SameBut [.msc, .trk, .shu, .emb, .wnd, .lsc, .lnk] s t' ∧ t'.msc.refState = v.msc.refState ∧
      t'.msc.missCount = v.msc.missCount ∧ t'.lsc = v.lsc ∧ t'.emb = { v.emb with windows := t'.emb.windows } := by
    obtain ⟨fixed, ref, misses, capture, emb, frame⟩ := State.fixOrigin_spec like j (fwd o.datum j.L) .flywheel
    rw [show t'.msc = _ from same.msc (by decide), show t'.emb = _ from same.emb (by decide),
      show t'.lsc = _ from same.lsc (by decide)]
    exact ⟨originFixed_congr fixed same, capture,
      ((like.frame.mono (by decide)).trans (frame.mono (by decide))).trans (same.mono (by decide)), ref, misses,
      frame.lsc (by decide), emb⟩
  cases missed with
  | lost was is =>
    subst is
    obtain ⟨fixed, capture, frame, ref, misses, lsc, emb⟩ := left (ReadsLike.refl _)
    exact ⟨fixed, capture, frame, fun _ => ⟨ref.trans was, misses⟩, fun h => absurd was h,
      fun _ => ⟨lsc, emb, silent [] rfl⟩, fun h => absurd was h⟩
  | few was below is =>
    subst is
    obtain ⟨fixed, capture, frame, ref, misses, lsc, emb⟩ := left (s.setRef_like _ _)
    exact ⟨fixed, capture, frame, fun h => absurd h was, fun _ => ⟨misses, ref.trans (if_pos below).symm⟩,
      fun _ => ⟨lsc, emb, silent [] rfl⟩, fun _ limit => absurd below (Nat.not_lt.mpr limit)⟩
  | many was limit is =>
    subst is
    obtain ⟨like, msc, lsc', emb', lnk⟩ := s.refLost_spec job (s.msc.missCount + 1)
    obtain ⟨fixed, capture, frame, ref, misses, lsc, emb⟩ := left like
    rw [msc] at ref misses
    rw [emb'] at emb
    refine ⟨fixed, capture, frame, fun h => absurd h was, fun _ => ⟨misses, ref.trans (if_neg (Nat.not_lt.mpr limit)).symm⟩,
      fun h => ?_, fun _ _ => ⟨lsc.trans lsc', emb, refLostTold s, silent _ lnk, fun n => mem_refLostTold, fun i here before => ?_⟩⟩
    · rcases h with h | h
      · exact absurd h was
      · exact absurd h (Nat.not_lt.mpr limit)
    · unfold refLostTold
      rw [State.referenceStation_eq here before]
      exact List.mem_cons_self

/-- The expiry of the current window of LOCKED or FLYWHEEL (R29, R30). -/
theorem State.referenceExpiry_eq {o : Origin} (origin : s.msc.origin = some o) (was : s.msc.refState ≠ .lost) (j : Job) :
    ∃ v, Missed j s v ∧ s.referenceExpiry j = v.fixOrigin j (fwd o.datum j.L) .flywheel := by
  by_cases few : s.msc.missCount + 1 < j.refMissLimit
  · refine ⟨_, .few was few rfl, ?_⟩
    unfold State.referenceExpiry
    rw [origin]
    dsimp only
    rw [if_pos few]
    rfl
  · refine ⟨_, .many was (Nat.not_lt.mp few) rfl, ?_⟩
    unfold State.referenceExpiry
    rw [origin]
    dsimp only
    rw [if_neg few]
    rfl

/-- The expiry of the reacquisition window (R31). -/
theorem State.reacquisitionExpiry_eq {o : Origin} (origin : s.msc.origin = some o) (was : s.msc.refState = .lost) (j : Job) :
    ∃ v, Missed j s v ∧ s.reacquisitionExpiry j = v.fixOrigin j (fwd o.datum j.L) .flywheel := by
  refine ⟨s, .lost was rfl, ?_⟩
  unfold State.reacquisitionExpiry
  rw [origin]
  rfl

theorem Missed.lnk {o : Origin} (missed : Missed j s v) (job : s.lsc.job = some j) :
    (v.fixOrigin j (fwd o.datum j.L) .flywheel).lnk = v.lnk ∧ ∃ ns, v.lnk = s.lnk.raised ns := by
  have kept (like : ReadsLike s v) : (v.fixOrigin j (fwd o.datum j.L) .flywheel).lnk = v.lnk :=
    (State.fixOrigin_spec like j (fwd o.datum j.L) .flywheel).2.2.2.2.2.lnk (by decide)
  cases missed with
  | lost was is => subst is; exact ⟨kept (ReadsLike.refl _), [], rfl⟩
  | few was below is => subst is; exact ⟨kept (s.setRef_like _ _), [], rfl⟩
  | many was limit is =>
    subst is
    obtain ⟨like, -, -, -, lnk⟩ := s.refLost_spec job (s.msc.missCount + 1)
    exact ⟨kept like, _, lnk⟩

end

theorem windowExpired_tracking {s : State} {j : Job} {o : Origin} (expired : WindowExpired s.msc j o s.wpu.h)
    (was : s.msc.refState ≠ .lost) : s.msc.tracking = true := by
  unfold Msc.tracking
  rcases expired with ⟨h | h, -⟩ | ⟨h, -⟩
  · simp [h]
  · simp [h]
  · exact absurd h was

/-- Settles O21: in each state of the reference the expiry that is due fixes the projected origin. -/
theorem windowExpiryFixesAProjectedOrigin : Obligations.WindowExpiryFixesAProjectedOrigin := by
  intro s j o job origin
  have due : s.expiryDue j = true ↔ WindowExpired s.msc j o s.wpu.h := by
    rw [expiryDue_iff, origin]
    simp
  have fixes {v w : State} (missed : Missed j s v) (is : w = v.fixOrigin j (fwd o.datum j.L) .flywheel) :
      ProjectedFixed j o s w.endOfEvent := by
    refine missed.projectedFixed job (is ▸ w.endOfEvent_sameBut) fun ns raised => State.endOfEvent_silent s w ns ?_
    rw [is, (missed.lnk job).1, raised]
  constructor
  · have taken := State.withJob_some (fun j => if s.msc.tracking && s.expiryDue j then s.referenceExpiry j else s) job
    by_cases here : s.msc.refState ≠ .lost ∧ WindowExpired s.msc j o s.wpu.h
    · obtain ⟨was, expired⟩ := here
      have is : (if (s.msc.tracking && s.expiryDue j) = true then s.referenceExpiry j else s) = s.referenceExpiry j :=
        if_pos (by rw [windowExpired_tracking expired was, due.mpr expired]; rfl)
      have runs : exec .referenceWindowExpiry s = .next (s.referenceExpiry j).endOfEvent :=
        congrArg (fun u : State => Host.Outcome.next u.endOfEvent) (taken.trans is)
      obtain ⟨v, missed, fixed⟩ := State.referenceExpiry_eq origin was j
      refine ⟨_, runs, fun _ _ => fixes missed fixed, fun h => ?_⟩
      rcases h with h | h
      · exact absurd h was
      · exact absurd expired h
    · have is : (if (s.msc.tracking && s.expiryDue j) = true then s.referenceExpiry j else s) = s := by
        refine if_neg fun h => ?_
        obtain ⟨tracking, due'⟩ := Bool.and_eq_true_iff.mp h
        refine here ⟨fun was => ?_, due.mp due'⟩
        simp [Msc.tracking, was] at tracking
      have runs : exec .referenceWindowExpiry s = .next s.endOfEvent :=
        congrArg (fun u : State => Host.Outcome.next u.endOfEvent) (taken.trans is)
      exact ⟨_, runs, fun was expired => absurd ⟨was, expired⟩ here, fun _ => s.endOfEvent_nothing⟩
  · have taken := State.withJob_some (fun j => if s.msc.refState == .lost && s.expiryDue j then s.reacquisitionExpiry j else s)
      job
    by_cases here : s.msc.refState = .lost ∧ WindowExpired s.msc j o s.wpu.h
    · obtain ⟨was, expired⟩ := here
      have is : (if (s.msc.refState == .lost && s.expiryDue j) = true then s.reacquisitionExpiry j else s) =
          s.reacquisitionExpiry j := if_pos (by rw [was, due.mpr expired]; rfl)
      have runs : exec .reacquisitionWindowExpiry s = .next (s.reacquisitionExpiry j).endOfEvent :=
        congrArg (fun u : State => Host.Outcome.next u.endOfEvent) (taken.trans is)
      obtain ⟨v, missed, fixed⟩ := State.reacquisitionExpiry_eq origin was j
      refine ⟨_, runs, fun _ _ => fixes missed fixed, fun h => ?_⟩
      rcases h with h | h
      · exact absurd was h
      · exact absurd expired h
    · have is : (if (s.msc.refState == .lost && s.expiryDue j) = true then s.reacquisitionExpiry j else s) = s := by
        refine if_neg fun h => ?_
        obtain ⟨was, due'⟩ := Bool.and_eq_true_iff.mp h
        exact here ⟨eq_of_beq was, due.mp due'⟩
      have runs : exec .reacquisitionWindowExpiry s = .next s.endOfEvent :=
        congrArg (fun u : State => Host.Outcome.next u.endOfEvent) (taken.trans is)
      exact ⟨_, runs, fun was expired => absurd ⟨was, expired⟩ here, fun _ => s.endOfEvent_nothing⟩

/-! ### Edges -/

theorem exists_mem_toList {α : Type} {n : Nat} {v : Vector α n} {p : α → Prop} :
    (∃ a ∈ v.toList, p a) ↔ ∃ k : Fin n, p v[k] := by
  simp only [Vector.mem_toList_iff, Vector.mem_iff_getElem]
  exact ⟨fun ⟨a, ⟨k, hk, is⟩, h⟩ => ⟨⟨k, hk⟩, is ▸ h⟩, fun ⟨k, h⟩ => ⟨_, ⟨k.val, k.isLt, rfl⟩, h⟩⟩

theorem Gate.admits_iff (g : Gate) (x c : Count) : g.admits (positionByte x c) = true ↔ GateMatches g x c := by
  unfold Gate.admits GateMatches positionByte
  rw [Bool.and_eq_true, beq_iff_eq]
  refine and_congr_right fun _ => ⟨fun zero i lt unmasked => ?_, fun agree => BitVec.eq_of_getLsbD_eq fun i lt => ?_⟩
  · have bit := congrArg (fun b : Byte => b.getLsbD i) zero
    simp only [BitVec.getLsbD_and, BitVec.getLsbD_xor, BitVec.getLsbD_not, BitVec.getLsbD_extractLsb', lt, unmasked, decide_true,
      Bool.true_and, Bool.not_false, Bool.and_true] at bit
    simpa using bit
  · have same := agree i lt
    simp only [BitVec.getLsbD_and, BitVec.getLsbD_xor, BitVec.getLsbD_not, BitVec.getLsbD_extractLsb', lt, decide_true,
      Bool.true_and]
    cases masked : g.mask.getLsbD i with
    | true => simp
    | false => simp [same masked]

theorem Msc.reference_eq_some {m : Msc} {c : Count} : m.reference = some c ↔
    (∃ o, m.origin = some o ∧ c = o.datum) ∨ (m.origin = none ∧ m.prevEdge = some c) := by
  unfold Msc.reference
  cases m.origin with
  | some o => simp [eq_comm]
  | none => simp

/-- The admission of an edge for a role or BOTH (R25). -/
theorem Msc.admitted_iff (m : Msc) {role : GateRole} {takes : Gate → Bool}
    (takes_iff : ∀ g : Gate, takes g = true ↔ g.role = role ∨ g.role = .both) (x : Count) :
    m.admitted takes x = true ↔ EdgeAdmitted m role x := by
  have some_ : (m.gates.toList.any Gate.enabled) = true ↔ ∃ k : Fin 4, m.gates[k].enabled = true := by
    rw [List.any_eq_true]
    exact exists_mem_toList
  unfold Msc.admitted EdgeAdmitted
  by_cases none_ : ∀ k : Fin 4, m.gates[k].enabled = false
  · rw [if_neg fun h => ?_]
    · exact ⟨fun _ => .inl none_, fun _ => rfl⟩
    · obtain ⟨k, on⟩ := some_.mp h
      rw [none_ k] at on
      cases on
  · have on : (m.gates.toList.any Gate.enabled) = true := by
      rw [some_]
      refine Classical.byContradiction fun off => ?_
      exact none_ fun k => by simpa using fun h => off ⟨k, h⟩
    rw [if_pos on]
    have matches_ (c : Count) : (m.gates.toList.any fun g => takes g && g.admits (positionByte x c)) = true ↔
        ∃ k : Fin 4, (m.gates[k].role = role ∨ m.gates[k].role = .both) ∧ GateMatches m.gates[k] x c := by
      rw [List.any_eq_true]
      simp only [Bool.and_eq_true, takes_iff, Gate.admits_iff]
      exact exists_mem_toList
    refine ⟨fun h => .inr ?_, fun h => ?_⟩
    · split at h
      next c is =>
        obtain ⟨k, role, here⟩ := (matches_ c).mp h
        exact ⟨k, c, role, here, Msc.reference_eq_some.mp is⟩
      next => cases h
    · obtain ⟨k, c, role, here, is⟩ := h.resolve_left none_
      rw [Msc.reference_eq_some.mpr is]
      exact (matches_ c).mpr ⟨k, role, here⟩

theorem reached_iff {h a : Count} : reached h a = true ↔ 0 ≤ ahead h a := decide_eq_true_iff

theorem reached_eq_false {h a : Count} : reached h a = false ↔ ahead h a < 0 := by
  rw [← Bool.not_eq_true, reached_iff, Int.not_le]

theorem Msc.inWindow_iff (m : Msc) (j : Job) (x : Count) :
    m.inWindow j x = true ↔ ∃ o, m.origin = some o ∧ WindowHolds m j o x := by
  unfold Msc.inWindow WindowHolds
  have near (o : Origin) : decide ((ahead x (nextOrigin j o.datum)).natAbs ≤ j.wRef) = true ↔
      -(j.wRef : Int) ≤ ahead x (fwd o.datum j.L) ∧ ahead x (fwd o.datum j.L) ≤ j.wRef := by
    rw [decide_eq_true_eq]
    show (ahead x (fwd o.datum j.L)).natAbs ≤ j.wRef ↔ _
    omega
  cases m.origin with
  | none => cases m.refState <;> simp
  | some o =>
    cases m.refState with
    | seeking => simp
    | locked => simpa using near o
    | flywheel => simpa using near o
    | lost =>
      simp only [Bool.and_eq_true, Bool.not_eq_true', reached_iff, reached_eq_false]
      simp [nextOrigin]

theorem Msc.fixes_iff (m : Msc) (j : Job) (x : Count) : m.fixes j x = true ↔ EdgeFixes m j x := by
  unfold Msc.fixes EdgeFixes
  rw [Bool.and_eq_true, Bool.or_eq_true, beq_iff_eq, Msc.inWindow_iff, Msc.admitted_iff m (role := .ref)]
  intro g
  simp [Gate.takesRef]

/-- A taken edge that fixes no origin (R23, R25, R33, R34). -/
theorem State.otherEdge_spec (s : State) (j : Job) (x : Count) :
    let t := s.otherEdge j x
    t.lnk = s.lnk ∧
    (s.msc.capture = none → SameBut [.msc] s t ∧
      t.msc = if s.msc.refState = .seeking then { s.msc with prevEdge := some x } else s.msc) ∧
    (∀ c, s.msc.capture = some c →
      let joins := EdgeAdmitted s.msc .marks x ∧ 0 < ahead x c.origin ∧ reached (fwd c.origin (s.msc.oMax + j.wMark)) x = true
      (¬joins → t = s) ∧
      (joins → c.edges.length < 16 →
        t = { s with msc := { s.msc with capture := some { c with edges := c.edges ++ [x] } } }) ∧
      (joins → 16 ≤ c.edges.length → t = { s with
        msc := { s.msc with capture := some { c with overflow := some (c.overflow.getD x) } }
        trk := { s.trk with records := s.trk.records.map fun r =>
          if r.index = c.index then { r with overflow := true } else r } })) := by
  intro t
  have admitted : s.msc.admitted Gate.takesMarks x = true ↔ EdgeAdmitted s.msc .marks x :=
    Msc.admitted_iff s.msc (fun g => by simp [Gate.takesMarks]) x
  cases capture : s.msc.capture with
  | none =>
    have is : t = if s.msc.refState = .seeking then { s with msc := { s.msc with prevEdge := some x } } else s := by
      show s.otherEdge j x = _
      unfold State.otherEdge
      rw [capture]
    rw [is]
    refine ⟨by split <;> rfl, fun _ => ⟨fun b hb => ?_, by split <;> rfl⟩, nofun⟩
    split <;> cases b <;> first | rfl | simp at hb
  | some c =>
    have is : t = if s.msc.admitted Gate.takesMarks x then s.offerEdge j c x else s := by
      show s.otherEdge j x = _
      unfold State.otherEdge
      rw [capture]
    have near : (decide (0 < ahead x c.origin) && reached (fwd c.origin (s.msc.oMax + j.wMark)) x) = true ↔
        0 < ahead x c.origin ∧ reached (fwd c.origin (s.msc.oMax + j.wMark)) x = true := by
      rw [Bool.and_eq_true, decide_eq_true_eq]
    have stays (no : ¬(EdgeAdmitted s.msc .marks x ∧ 0 < ahead x c.origin ∧
        reached (fwd c.origin (s.msc.oMax + j.wMark)) x = true)) : t = s := by
      rw [is]
      by_cases marks : EdgeAdmitted s.msc .marks x
      · rw [if_pos (admitted.mpr marks)]
        exact if_neg fun h => no ⟨marks, near.mp h⟩
      · exact if_neg (mt admitted.mp marks)
    have taken (joins : EdgeAdmitted s.msc .marks x ∧ 0 < ahead x c.origin ∧
        reached (fwd c.origin (s.msc.oMax + j.wMark)) x = true) : t = if c.edges.length < Config.captureCap then
          { s with msc := { s.msc with capture := some { c with edges := c.edges ++ [x] } } }
        else { s with
          msc := { s.msc with capture := some { c with overflow := some (c.overflow.getD x) } }
          trk := { s.trk with records := s.trk.records.map fun r =>
            if r.index = c.index then { r with overflow := true } else r } } := by
      rw [is, if_pos (admitted.mpr joins.1)]
      exact if_pos (near.mpr joins.2)
    refine ⟨?_, nofun, fun c' held => ?_⟩
    · by_cases joins : EdgeAdmitted s.msc .marks x ∧ 0 < ahead x c.origin ∧
          reached (fwd c.origin (s.msc.oMax + j.wMark)) x = true
      · rw [taken joins]
        split <;> rfl
      · rw [stays joins]
    · cases held
      exact ⟨stays, fun joins room => (taken joins).trans (if_pos room),
        fun joins full => (taken joins).trans (if_neg (Nat.not_lt.mpr full))⟩

/-- An edge at H, once no expiry is due. -/
theorem State.edgeTaken (u : State) (j : Job) :
    EdgeTaken j u (if u.msc.fixes j u.wpu.h then (u.setRef .locked 0).fixOrigin j u.wpu.h .marked
      else u.otherEdge j u.wpu.h).endOfEvent := by
  by_cases fixes : EdgeFixes u.msc j u.wpu.h
  · rw [if_pos ((Msc.fixes_iff _ j _).mpr fixes)]
    have like := u.setRef_like .locked 0
    obtain ⟨fixed, ref, misses, capture, emb, frame⟩ := State.fixOrigin_spec like j u.wpu.h .marked
    generalize (u.setRef .locked 0).fixOrigin j u.wpu.h .marked = t at fixed ref misses capture emb frame ⊢
    have quiet : t.lnk = u.lnk := frame.lnk (by decide)
    refine ⟨State.endOfEvent_silent_of_eq u t quiet, fun _ => ?_, fun h => absurd fixes h⟩
    rw [State.endOfEvent_msc, State.endOfEvent_emb]
    refine ⟨originFixed_congr fixed t.endOfEvent_sameBut, ref, misses, capture, emb, ?_⟩
    have first : SameBut [.msc, .trk, .shu, .emb, .wnd, .lnk] u (u.setRef .locked 0) :=
      (u.setRef_affects .locked 0).1.mono (by decide)
    exact (first.trans (frame.mono (by decide))).trans (t.endOfEvent_sameBut.mono (by decide))
  · rw [if_neg (mt (Msc.fixes_iff _ j _).mp fixes)]
    obtain ⟨quiet, free, open_⟩ := u.otherEdge_spec j u.wpu.h
    refine ⟨State.endOfEvent_silent_of_eq u _ quiet, fun h => absurd h fixes, fun _ => ⟨fun none_ => ?_, fun c held => ?_⟩⟩
    · obtain ⟨frame, msc⟩ := free none_
      exact ⟨(frame.mono (by decide)).trans ((State.endOfEvent_sameBut _).mono (by decide)),
        (State.endOfEvent_msc _).trans msc⟩
    · obtain ⟨stays, joined, overflows⟩ := open_ c held
      refine ⟨fun no => ?_, fun joins room => ?_, fun joins full => ?_⟩
      · rw [stays no]
        exact u.endOfEvent_sameBut
      · rw [joined joins room]
        exact ⟨((affects_msc u _).1.mono (by decide)).trans ((State.endOfEvent_sameBut _).mono (by decide)),
          State.endOfEvent_msc _⟩
      · refine ⟨(u.otherEdge_affects j u.wpu.h).endOfEvent, ?_⟩
        rw [overflows joins full]
        exact ⟨State.endOfEvent_msc _, State.endOfEvent_trk _⟩

/-- A MARK_EDGE while a job runs and the web is not in reverse (R4, R23). -/
def State.markTaken (s : State) : State :=
  if s.running && !s.reverse then s.withJob fun j => s.takeEdge j s.wpu.h else s

theorem exec_markEdge (s : State) : exec .markEdge s = .next s.markTaken.endOfEvent := rfl

/-- Settles O20: the expiry that is due, then the edge. -/
theorem markEdgeFixesAnOriginOrIsCaptured : Obligations.MarkEdgeFixesAnOriginOrIsCaptured := by
  intro s
  have runs := exec_markEdge s
  by_cases idle : s.running = false ∨ s.reverse = true
  · have is : s.markTaken = s := if_neg fun h => by rcases idle with h' | h' <;> simp [h'] at h
    rw [is] at runs
    refine ⟨_, runs, fun _ => s.endOfEvent_nothing, fun j _ running forward => ?_⟩
    rcases idle with h | h
    · rw [h] at running
      cases running
    · rw [h] at forward
      cases forward
  · obtain ⟨running, forward⟩ : s.running = true ∧ s.reverse = false := by simpa using idle
    have is : s.markTaken = s.withJob fun j => s.takeEdge j s.wpu.h := if_pos (by simp [running, forward])
    cases job : s.lsc.job with
    | none =>
      rw [is, State.withJob_none _ job] at runs
      exact ⟨_, runs, fun h => absurd h idle, fun j held => by cases held⟩
    | some j =>
      rw [is, State.withJob_some _ job] at runs
      refine ⟨_, runs, fun h => absurd h idle, fun j' held _ _ => ?_⟩
      cases held
      have edge : ∀ u : State, s.takeExpiry j = u → u.wpu = s.wpu → EdgeTaken j u (s.takeEdge j s.wpu.h).endOfEvent := by
        rintro u expired same
        have taken := u.edgeTaken j
        rw [same] at taken
        have by_expiry : s.takeEdge j s.wpu.h = if u.msc.fixes j s.wpu.h then (u.setRef .locked 0).fixOrigin j s.wpu.h .marked
            else u.otherEdge j s.wpu.h := by
          unfold State.takeEdge
          dsimp only
          rw [expired]
        rw [by_expiry]
        exact taken
      refine ⟨fun current => ?_, fun o origin expired => ?_⟩
      · refine edge s (if_neg fun due => ?_) rfl
        obtain ⟨o, origin, expired⟩ := (expiryDue_iff s j).mp due
        exact current o origin expired
      · have due : s.expiryDue j = true := (expiryDue_iff s j).mpr ⟨o, origin, expired⟩
        have fixed : ∃ v, Missed j s v ∧ s.takeExpiry j = v.fixOrigin j (fwd o.datum j.L) .flywheel := by
          rcases expired with ⟨tracking, -⟩ | ⟨lost, -⟩
          · have was : s.msc.refState ≠ .lost := fun h => by
              rw [h] at tracking
              rcases tracking with h | h <;> cases h
            obtain ⟨v, missed, fixed⟩ := State.referenceExpiry_eq origin was j
            refine ⟨v, missed, Eq.trans ?_ fixed⟩
            refine (if_pos due).trans ?_
            rcases tracking with h | h <;> rw [h]
          · obtain ⟨v, missed, fixed⟩ := State.reacquisitionExpiry_eq origin lost j
            refine ⟨v, missed, Eq.trans ?_ fixed⟩
            refine (if_pos due).trans ?_
            rw [lost]
        obtain ⟨v, missed, fixed⟩ := fixed
        refine ⟨s.takeExpiry j, missed.projectedFixed job (fixed ▸ SameBut.refl _ _) fun ns raised => ?_,
          edge _ rfl ((s.takeExpiry_affects j).1.wpu (by decide))⟩
        refine State.silent_of_raised ?_
        rw [fixed, (missed.lnk job).1, raised]

/-! ### The end of a speed window -/

section
variable {s : State} {j : Job}

theorem evaluated_evaluated (j : Job) (e : Emb) : evaluated j false (evaluated j false e) = evaluated j false e := by
  cases nip : e.nip <;> simp [evaluated, nip, liftingEmb]

/-- With the line out of RUN no nip may be closed (R77). -/
theorem closePermitted_of_line (line : s.lsc.lineState ≠ .run) (j : Job) (e : Emb) : ClosePermitted s j e = false := by
  simp [ClosePermitted, line]

theorem Lsc.raised_job (l : Lsc) (c : HoldCause) : (l.raised c).job = l.job := by
  unfold Lsc.raised
  (repeat' split) <;> rfl

theorem Lsc.raised_stops {l : Lsc} {c : HoldCause} (stops : (l.holdMask.any fun m => m.has c) = true ∧ l.lineState = .run) :
    l.raised c = { l with lineState := .hold, latched := l.latched.add c, runPermit := false } := if_pos stops

/-- A raised cause reaches the nip where it stops the line (R78, R183). -/
theorem State.raiseCause_emb_of_job (job : s.lsc.job = some j) (c : HoldCause) : (s.raiseCause c).emb =
    if (s.lsc.holdMask.any fun m => m.has c) = true ∧ s.lsc.lineState = .run then evaluated j false s.emb else s.emb := by
  rw [State.raiseCause_emb]
  split
  next stops =>
    let u : State := { s with lsc := s.lsc.raised c }
    have line : u.lsc.lineState ≠ .run ∧ u.lsc.job = some j := by
      rw [show u.lsc = _ from Lsc.raised_stops stops]
      exact ⟨nofun, job⟩
    show u.evaluateNip.emb = _
    rw [State.evaluateNip_eq line.2, closePermitted_of_line line.1]
  next => rfl

/-- The nip judged again after a raised cause is the nip judged once (R78). -/
theorem State.raiseCause_evaluated (job : s.lsc.job = some j) (c : HoldCause) :
    evaluated j (ClosePermitted (s.raiseCause c) j (s.raiseCause c).emb) (s.raiseCause c).emb =
      evaluated j (ClosePermitted (s.raiseCause c) j s.emb) s.emb := by
  rw [State.raiseCause_emb_of_job job]
  split
  next stops =>
    have line : (s.raiseCause c).lsc.lineState ≠ .run := by
      rw [State.raiseCause_lsc, Lsc.raised_stops stops]
      nofun
    rw [closePermitted_of_line line, closePermitted_of_line line, evaluated_evaluated]
  next => rfl

theorem windowSpeed_eq (now start : Count) :
    windowSpeed now start = if 0 < ahead now start then 100 * (ahead now start).toNat else 0 := by
  unfold windowSpeed
  split
  · rfl
  · omega

/-- The comparison with the overspeed limit (R6). -/
theorem State.checkSpeed_eq (s : State) (j : Job) :
    let above := decide (j.vMax + j.vMax / 10 < s.wpu.v)
    let counted : State := { s with wpu := { s.wpu with
      overCount := if above then min 2 (s.wpu.overCount + 1) else 0
      overspeedCond := above && (s.wpu.overspeedCond || s.wpu.overCount == 1) } }
    s.checkSpeed j = if above && s.wpu.overCount == 1 then counted.raiseCause .overspeed else counted := by
  intro above counted
  have limit : above = decide (j.overspeedLimit < s.wpu.v) := rfl
  unfold State.checkSpeed
  by_cases over_ : j.overspeedLimit < s.wpu.v
  · have is : above = true := decide_eq_true over_
    rw [if_pos over_]
    dsimp only [counted]
    rw [is]
    rfl
  · have is : above = false := decide_eq_false over_
    rw [if_neg over_]
    dsimp only [counted]
    rw [is]
    rfl

end

/-- Settles O17: the window's end, the comparison, and the nip judged by what they leave. -/
theorem speedWindowEndMeasuresAndJudges : Obligations.SpeedWindowEndMeasuresAndJudges := by
  intro s v above
  let u : State := { s with wpu := s.wpu.closeWindow }
  have speed : u.wpu.v = v := windowSpeed_eq _ _
  have runs : exec .speedWindowEnd s = .next (u.withJob u.checkSpeed).evaluateNip.endOfEvent := rfl
  cases job : s.lsc.job with
  | none =>
    have checked : u.withJob u.checkSpeed = u := State.withJob_none _ job
    rw [checked] at runs
    have quiet : above = false := by
      simp only [above, job]
      rfl
    have never : u.mayClose = false := by simp [State.mayClose, State.closeFails, u, job]
    have judged : u.evaluateNip = match s.emb.nip with
        | .engaging | .closed => { u with emb := { s.emb with
            nip := .lifting, nipTime := some 0, closedSince := none, pwm := { s.emb.pwm with setDuty := 0, duty := 0 } } }
        | .lifted | .lifting => u := by
      unfold State.evaluateNip
      rw [never]
      have lift : u.nipLift = { u with emb := { s.emb with
            nip := .lifting, nipTime := some 0, closedSince := none, pwm := { s.emb.pwm with setDuty := 0, duty := 0 } } } := by
        unfold State.nipLift
        rw [show u.lsc.job = none from job]
        rfl
      rw [lift]
      show (match s.emb.nip with
        | .lifted => _
        | .engaging | .closed => _
        | .lifting => _) = _
      cases s.emb.nip <;> rfl
    rw [quiet, Bool.false_and]
    refine ⟨_, runs, ?_, ?_, fun j held => (by cases held), fun _ => ?_, frame_of_exec runs,
      State.endOfEvent_silent_of_eq s _ u.evaluateNip_lnk⟩
    · rw [State.endOfEvent_wpu, u.evaluateNip_affects.1.wpu (by decide), ← speed]
      rfl
    · rw [State.endOfEvent_lsc, u.evaluateNip_affects.1.lsc (by decide)]
      rfl
    · rw [State.endOfEvent_emb, judged]
      cases s.emb.nip <;> rfl
  | some j =>
    have checked : u.withJob u.checkSpeed = u.checkSpeed j := State.withJob_some _ job
    have is := u.checkSpeed_eq j
    rw [speed] at is
    have held : above = decide (j.vMax + j.vMax / 10 < v) := by
      simp only [above, job]
      rfl
    rw [← held] at is
    let counted : State := { s with wpu := { u.wpu with
      overCount := if above then min 2 (s.wpu.overCount + 1) else 0
      overspeedCond := above && (s.wpu.overspeedCond || s.wpu.overCount == 1) } }
    have second : u.checkSpeed j =
        if (above && s.wpu.overCount == 1) = true then counted.raiseCause .overspeed else counted := is
    rw [checked] at runs
    have wpu : counted.wpu = { s.wpu with
        v := v, encoderCond := s.wpu.encoderCond && s.wpu.faultInWindow, faultInWindow := false,
        windowStart := s.wpu.w, windowTime := 0
        overCount := if above then min 2 (s.wpu.overCount + 1) else 0
        overspeedCond := above && (s.wpu.overspeedCond || s.wpu.overCount == 1) } := by
      rw [← speed]
      rfl
    by_cases raised : (above && s.wpu.overCount == 1) = true
    · rw [second, if_pos raised] at runs
      rw [if_pos raised, if_pos raised]
      let w := counted.raiseCause .overspeed
      have frame := (counted.raiseCause_affects .overspeed).1
      have lsc : w.lsc = (s.raiseCause .overspeed).lsc := by
        rw [State.raiseCause_lsc, State.raiseCause_lsc]
      have held' : w.lsc.job = some j := by
        rw [State.raiseCause_lsc]
        exact (Lsc.raised_job _ _).trans job
      have judged := State.evaluateNip_eq (s := w) held'
      have nip := State.raiseCause_evaluated (s := counted) job .overspeed
      have told : causeTold counted .overspeed = causeTold s .overspeed := rfl
      have lnk := (counted.raiseCause_spec .overspeed).2
      refine ⟨_, runs, ?_, ?_, fun j' same => ?_, fun none_ => ?_, frame_of_exec runs, ?_⟩
      · rw [State.endOfEvent_wpu, judged]
        exact (frame.wpu (by decide)).trans wpu
      · rw [State.endOfEvent_lsc, judged]
        exact lsc
      · cases same
        have same : ∀ e, ClosePermitted w.evaluateNip.endOfEvent j e = ClosePermitted w j e := fun e => by
          unfold ClosePermitted
          rw [State.endOfEvent_lsc, State.endOfEvent_trk, State.endOfEvent_wpu, judged]
        rw [same, State.endOfEvent_emb, judged]
        exact nip
      · cases none_
      · refine State.endOfEvent_silent s _ _ ?_
        rw [judged]
        exact told ▸ lnk
    · rw [second, if_neg raised] at runs
      rw [if_neg raised, if_neg raised]
      have judged := State.evaluateNip_eq (s := counted) job
      refine ⟨_, runs, ?_, ?_, fun j' same => ?_, fun none_ => ?_, frame_of_exec runs, ?_⟩
      · rw [State.endOfEvent_wpu, judged]
        exact wpu
      · rw [State.endOfEvent_lsc, judged]
      · cases same
        have same : ∀ e, ClosePermitted counted.evaluateNip.endOfEvent j e = ClosePermitted counted j e := fun e => by
          unfold ClosePermitted
          rw [State.endOfEvent_lsc, State.endOfEvent_trk, State.endOfEvent_wpu, judged]
        rw [same, State.endOfEvent_emb, judged]
      · cases none_
      · exact State.endOfEvent_silent_of_eq s _ counted.evaluateNip_lnk

end Sys2Proof.Machine
end

section
/-! PROOFS. The events of the web track: their arrival (O36), the defect line (O37), attribution and removal (O38), and the
splices that are judged (O48). -/

namespace Sys2Proof.Machine

-- one proof at a time: the joined package would else open a thread for each of them
set_option Elab.async false

section
variable {s t u : State} {j : Job} {e : WebEvent} {before after : List WebEvent}

/-! ### The place of an event in the list -/

theorem insertSorted_split (e : WebEvent) (l : List WebEvent) : ∃ before after, l = before ++ after ∧
    insertSorted e l = before ++ e :: after ∧ insertAt e l = before.length ∧ (∀ x ∈ before, ahead x.datum e.datum ≤ 0) ∧
    ∀ x, after.head? = some x → 0 < ahead x.datum e.datum := by
  induction l with
  | nil => exact ⟨[], [], rfl, rfl, rfl, nofun, nofun⟩
  | cons y l ih =>
    by_cases later : 0 < ahead y.datum e.datum
    · refine ⟨[], y :: l, rfl, if_pos later, if_pos later, nofun, fun x first => ?_⟩
      cases first
      exact later
    · obtain ⟨before, after, is, sorted, at_, earlier, next⟩ := ih
      refine ⟨y :: before, after, by rw [is]; rfl, ?_, ?_, fun x member => ?_, next⟩
      · unfold insertSorted
        rw [if_neg later, sorted]
        rfl
      · unfold insertAt
        rw [if_neg later, at_]
        rfl
      · rcases List.mem_cons.mp member with rfl | member
        · exact Int.not_lt.mp later
        · exact earlier x member

theorem getElem?_at_length {α : Type} (before : List α) (x : α) (after : List α) :
    (before ++ x :: after)[before.length]? = some x := by simp

theorem modify_at_length {α : Type} (before : List α) (x : α) (after : List α) (f : α → α) :
    (before ++ x :: after).modify before.length f = before ++ f x :: after := by
  rw [modify_of_getElem (getElem?_at_length before x after), List.set_append_right _ _ (Nat.le_refl _), Nat.sub_self]
  rfl

/-- The event behind before has changed. -/
theorem State.modifyEvent_eq (is : s.trk.events = before ++ e :: after) (f : WebEvent → WebEvent) :
    s.modifyEvent before.length f = { s with trk := { s.trk with events := before ++ f e :: after } } := by
  unfold State.modifyEvent
  rw [is, modify_at_length]

/-! ### Coverage and lift check of one event -/

theorem closePermitted_zone {x : Emb} (zone : x.zoneActive = true) (s : State) (j : Job) : ClosePermitted s j x = false := by
  simp [ClosePermitted, zone]

/-- The coverage of one event begins (R80). -/
theorem State.coverBegin_eq (job : s.lsc.job = some j) (is : s.trk.events = before ++ e :: after) :
    s.coverBegin j before.length =
      { s with trk := { s.trk with events := before ++ { e with joined := true } :: after }, emb := covering s j e } := by
  have at_ : s.trk.events[before.length]? = some e := by rw [is, getElem?_at_length]
  let zone : Emb := { s.emb with
    zoneActive := true
    release := some (match s.emb.zoneActive, s.emb.release with
      | true, some r => further r (coverStop s j e)
      | _, _ => coverStop s j e)
    heldOpen := e.isOpen || (s.emb.zoneActive && s.emb.heldOpen) }
  let v : State := { s with trk := { s.trk with events := before ++ { e with joined := true } :: after }, emb := zone }
  have begun : s.coverBegin j before.length = v.evaluateNip := by
    unfold State.coverBegin
    rw [at_]
    dsimp only
    rw [State.modifyEvent_eq is]
    have release : (if s.emb.zoneActive = true then (s.emb.release.map fun r => further r (s.coverEndAt j e)).getD
        (s.coverEndAt j e) else s.coverEndAt j e) = match s.emb.zoneActive, s.emb.release with
        | true, some r => further r (coverStop s j e)
        | _, _ => coverStop s j e := by
      cases s.emb.zoneActive <;> cases s.emb.release <;> rfl
    rw [release]
  rw [begun, State.evaluateNip_eq (s := v) job, closePermitted_zone rfl]
  rfl

theorem satInc_eq_grown (n : Nat) : satInc n = grown n := rfl

/-- The lift check of one event (R81). -/
theorem State.liftCheck_eq (is : s.trk.events = before ++ e :: after) (j : Job) :
    let late := s.emb.nip == .lifting
    s.liftCheck j before.length = { s with
      trk := {
        events := before ++ { e with checked := true, liftLate := e.liftLate || late } :: after
        eventLost := s.trk.eventLost
        records := s.trk.records.map fun r =>
          if (late && ((recordCovering j.L s.trk.records e.datum).any fun x => x.index == r.index)) = true then
            { r with liftLate := true }
          else r }
      emb := if late then { s.emb with lateCount := grown s.emb.lateCount, lastLate := some (e.kind, e.datum) } else s.emb
      lnk := s.lnk.raised (if late then [.embossAlarm] else []) } := by
  intro late
  have at_ : s.trk.events[before.length]? = some e := by rw [is, getElem?_at_length]
  unfold State.liftCheck
  rw [at_]
  dsimp only
  by_cases lifting : s.emb.nip = .lifting
  · have isLate : late = true := by simp [late, lifting]
    rw [if_pos lifting, State.modifyEvent_eq is, isLate]
    simp only [Bool.or_true, Bool.true_and, if_true]
    cases covered : recordCovering j.L s.trk.records e.datum with
    | none => simp [State.raiseNotice, Lnk.raised, satInc_eq_grown]
    | some r =>
      have same (x : RepeatRecord) : (r.index == x.index) = true ↔ x.index = r.index := by
        rw [beq_iff_eq, eq_comm]
      simp only [Option.any_some, same]
      rfl
  · have inTime : late = false := by simp [late, lifting]
    rw [if_neg lifting, State.modifyEvent_eq is, inTime]
    simp [Lnk.raised]

theorem State.liftCheckDue_eq (s : State) (j : Job) (e : WebEvent) : s.liftCheckDue j e =
    (lifts j e.kind && !e.checked && reached s.wpu.h (fwd e.datum j.dEm) && !coverBegins s j e) := by
  unfold State.liftCheckDue
  rw [isLifting_eq_lifts, coverBeginDue_eq]
  rfl

/-! ### An event enters the list -/

theorem coverBegins_joined (joined : e.joined = true) (s : State) (j : Job) : coverBegins s j e = false := by
  simp [coverBegins, joined]

/-- What falls due at the arrival of an event that stands behind before (R79 to R81). -/
theorem State.coverAtInsertion_eq (job : s.lsc.job = some j) (is : s.trk.events = before ++ e :: after)
    (fresh : e.joined = false ∧ e.checked = false ∧ e.liftLate = false) :
    let covers := coverBegins s j e
    let checks := lifts j e.kind && reached s.wpu.h (fwd e.datum j.dEm)
    let emb := if covers then covering s j e else s.emb
    let late := checks && emb.nip == .lifting
    s.coverAtInsertion j before.length = { s with
      trk := {
        events := before ++ { e with joined := covers, checked := checks, liftLate := late } :: after
        eventLost := s.trk.eventLost
        records := s.trk.records.map fun r =>
          if (late && ((recordCovering j.L s.trk.records e.datum).any fun x => x.index == r.index)) = true then
            { r with liftLate := true }
          else r }
      emb := if late then { emb with lateCount := grown emb.lateCount, lastLate := some (e.kind, e.datum) } else emb
      lnk := s.lnk.raised (if late then [.embossAlarm] else []) } := by
  intro covers checks emb late
  obtain ⟨apart, unchecked, inTime⟩ := fresh
  let x : WebEvent := { e with joined := covers }
  let w : State := { s with trk := { s.trk with events := before ++ x :: after }, emb := emb }
  have at_ : s.trk.events[before.length]? = some e := by rw [is, getElem?_at_length]
  have first : (if (s.trk.events[before.length]?).any (fun e => s.coverBeginDue j e) = true then s.coverBegin j before.length
      else s) = w := by
    rw [at_, Option.any_some, coverBeginDue_eq]
    by_cases due : coverBegins s j e = true
    · have yes : covers = true := due
      rw [if_pos due, State.coverBegin_eq job is]
      simp only [w, x, emb, yes, if_true]
    · have no : covers = false := by simpa using due
      rw [if_neg due]
      have same : x = e := by
        simp only [x, no, ← apart]
      simp only [w, same, emb, no, Bool.false_eq_true, if_false, ← is]
  have second : w.liftCheckDue j x = checks := by
    have over_ : coverBegins w j x = false := by
      by_cases due : covers = true
      · exact coverBegins_joined due w j
      · have no : covers = false := by simpa using due
        have same : x = e := by simp only [x, no, ← apart]
        rw [same]
        exact no
    rw [State.liftCheckDue_eq, over_]
    show (lifts j e.kind && !e.checked && reached s.wpu.h (fwd e.datum j.dEm) && !false) = _
    rw [unchecked]
    simp only [Bool.not_false, Bool.and_true, checks]
  unfold State.coverAtInsertion
  rw [first]
  dsimp only
  have there : w.trk.events[before.length]? = some x := getElem?_at_length before x after
  rw [there, Option.any_some, second]
  by_cases due : checks = true
  · rw [if_pos due, State.liftCheck_eq (s := w) (e := x) rfl j]
    simp only [w, x, late, due, inTime, Bool.true_and, Bool.false_or]
  · have no : checks = false := by simpa using due
    rw [if_neg due]
    have notLate : late = false := by simp only [late, no, Bool.false_and]
    have same : ({ e with joined := covers, checked := checks, liftLate := late } : WebEvent) = x := by
      simp only [x, no, notLate, inTime, unchecked]
    rw [same, notLate]
    simp [w, Lnk.raised]

/-- An event enters the list, which has room (R15, R79 to R81, R120). -/
theorem State.enterEvent_spec (job : s.lsc.job = some j) (kind : EventKind) (d : Count) (isOpen : Bool) :
    let t := s.enterEvent j (WebEvent.fresh kind d isOpen)
    ∃ told, EventEntered j s t kind d isOpen told ∧ SameBut [.trk, .emb, .wnd, .lnk] s t ∧ t.lnk = s.lnk.raised told := by
  intro t
  let e := WebEvent.fresh kind d isOpen
  obtain ⟨before, after, is, sorted, at_, earlier, next⟩ := insertSorted_split e s.trk.events
  let v : State := { s with trk := { s.trk with events := before ++ e :: after } }
  let u := v.coverAtInsertion j before.length
  have entered : t = u.judgeSplices j := by
    show (State.coverAtInsertion _ j _).judgeSplices j = _
    rw [sorted, at_]
  have due : u = _ := State.coverAtInsertion_eq (s := v) job rfl ⟨rfl, rfl, rfl⟩
  have judged := u.judgeSplices_judged j
  have frame : SameBut [.trk, .emb, .lnk] s u := by
    rw [due]
    intro b hb
    cases b <;> first | rfl | simp at hb
  refine ⟨_, ⟨rfl, u, before, after, is, earlier, next, ?_, ?_, frame, ?_⟩, ?_, ?_⟩
  · rw [due]
    rfl
  · rw [due]
    rfl
  · rw [entered]
    exact SameBut.refl _ _
  · rw [entered]
    exact (frame.mono (by decide)).trans (judged.sameBut.mono (by decide))
  · rw [entered, judged.sameBut.lnk (by decide), due]
    rfl

/-! ### A full list -/

/-- The links of u are those of s, and of raised notices the told ones, in some order. -/
def Tells (s u : State) (told : List Notice) : Prop :=
  ∃ raised, u.lnk = s.lnk.raised raised ∧ ∀ n, n ∈ raised ↔ n ∈ told

theorem Tells.of_raised {told : List Notice} (raised : u.lnk = s.lnk.raised told) : Tells s u told :=
  ⟨told, raised, fun _ => Iff.rfl⟩

theorem Tells.nothing (same : u.lnk = s.lnk) : Tells s u [] := .of_raised same

theorem Notified.of_mem {told raised : List Notice} (h : Notified s t raised) (same : ∀ n, n ∈ raised ↔ n ∈ told) :
    Notified s t told := fun k n => by rw [h k n, same n]

theorem Tells.silent {told : List Notice} (h : Tells s u told) : Silent s u.endOfEvent told := by
  obtain ⟨raised, lnk, same⟩ := h
  obtain ⟨kept, notified⟩ := State.endOfEvent_silent s u raised lnk
  exact ⟨kept, notified.of_mem same⟩

theorem Tells.trans {told told' : List Notice} (h : Tells s t told) (k : Tells t u told') : Tells s u (told ++ told') := by
  obtain ⟨a, lnk, same⟩ := h
  obtain ⟨b, lnk', same'⟩ := k
  refine ⟨a ++ b, by rw [lnk', lnk, Lnk.raised_append], fun n => ?_⟩
  rw [List.mem_append, List.mem_append, same, same']

/-- A full-list arrival (R21). -/
theorem State.fullArrival_spec (job : s.lsc.job = some j) : ∃ told, EventLost j s s.fullArrival told ∧
    SameBut [.trk, .emb, .rlg, .lsc, .lnk] s s.fullArrival ∧ Tells s s.fullArrival told := by
  by_cases was : s.trk.eventLost = true
  · have is : s.fullArrival = s.raiseNotice .eventListFull := by
      unfold State.fullArrival
      rw [if_pos was]
    have trk : s.trk = { s.trk with eventLost := true } := by rw [← was]
    refine ⟨[.eventListFull], ?_, ?_, .of_raised (by rw [is]; rfl)⟩
    · rw [is]
      unfold EventLost
      simp only [was, if_true]
      exact ⟨trk, rfl, rfl, rfl, rfl, trivial⟩
    · rw [is]
      intro b hb
      cases b <;> first | rfl | simp at hb
  · have first : s.trk.eventLost = false := by simpa using was
    let flagged : Entry → Entry := fun e => { e with flags := { e.flags with eventLost := true } }
    let v : State := { s with trk := { s.trk with eventLost := true } }
    let w : State := { v with
      rlg := { s.rlg with log := s.rlg.log.map fun y =>
        if (s.wnd.active.any fun g => g.seq == y.seq) = true then flagged y else y }
      emb := evaluated j false s.emb }
    have nip : (v.updateOpenEntry flagged).evaluateNip = w := by
      rw [State.updateOpenEntry_eq, State.evaluateNip_eq (by exact job)]
      have may : ClosePermitted v j s.emb = false := by simp [ClosePermitted, v]
      exact congrArg (fun b => ({ w with emb := evaluated j b s.emb } : State)) may
    have is : s.fullArrival = (w.raiseCause .eventLost).raiseNotice .eventListFull := by
      unfold State.fullArrival
      rw [if_neg was]
      exact congrArg (fun u : State => (u.raiseCause .eventLost).raiseNotice .eventListFull) nip
    have frame := (w.raiseCause_affects .eventLost).1
    have lsc : (w.raiseCause .eventLost).lsc = (s.raiseCause .eventLost).lsc := by
      rw [State.raiseCause_lsc, State.raiseCause_lsc]
    have emb : (w.raiseCause .eventLost).emb = evaluated j false s.emb := by
      rw [State.raiseCause_emb_of_job (s := w) job]
      split
      · exact evaluated_evaluated j s.emb
      · rfl
    refine ⟨.eventListFull :: causeTold s .eventLost, ?_, ?_, causeTold w .eventLost ++ [.eventListFull], ?_, fun n => ?_⟩
    · rw [is]
      unfold EventLost
      simp only [first, Bool.false_eq_true, if_false]
      exact ⟨frame.trk (by decide), lsc, emb, frame.rlg (by decide), frame.wnd (by decide), trivial⟩
    · rw [is]
      have first : SameBut [.trk, .emb, .rlg, .lsc, .lnk] s w := by
        intro b hb
        cases b <;> first | rfl | simp at hb
      have last := ((w.raiseCause .eventLost).raiseNotice_affects .eventListFull).1
      exact (first.trans (frame.mono (by decide))).trans (last.mono (by decide))
    · rw [is]
      show (w.raiseCause .eventLost).lnk.raised [.eventListFull] = _
      rw [(w.raiseCause_spec .eventLost).2, Lnk.raised_append]
    · show n ∈ causeTold s .eventLost ++ [.eventListFull] ↔ _
      simp [or_comm]

/-! ### An arrival -/

/-- An event arrives (R15, R21). -/
theorem State.arrive_spec (job : s.lsc.job = some j) (kind : EventKind) (d : Count) (isOpen : Bool) :
    let t := s.arrive j (WebEvent.fresh kind d isOpen)
    ∃ told, Arrives j s t kind d isOpen told ∧ Tells s t told := by
  intro t
  by_cases full : 16 ≤ s.trk.events.length
  · have is : t = s.fullArrival := if_pos (decide_eq_true full)
    obtain ⟨told, lost, frame, tells⟩ := State.fullArrival_spec job
    rw [is]
    exact ⟨told, ⟨fun room => absurd full (Nat.not_le.mpr room), fun _ => ⟨lost, frame⟩⟩, tells⟩
  · have is : t = s.enterEvent j (WebEvent.fresh kind d isOpen) := if_neg fun h => full (of_decide_eq_true h)
    obtain ⟨told, entered, frame, lnk⟩ := State.enterEvent_spec job kind d isOpen
    rw [is]
    exact ⟨told, ⟨fun _ => ⟨entered, frame⟩, fun h => absurd h full⟩, .of_raised lnk⟩

/-- Tells is what the links of a request's owner show with its reply. -/
theorem Answers.of_mem {c : Instr} {l : LinkId} {r : Reply} {told raised : List Notice} (h : Answers c s l r raised u)
    (same : ∀ n, n ∈ raised ↔ n ∈ told) : Answers c s l r told u := by
  obtain ⟨t, runs, frame, replies, notified⟩ := h
  exact ⟨t, runs, frame, replies, notified.of_mem same⟩

theorem arrives_sameBut {kind : EventKind} {d : Count} {isOpen : Bool} {told : List Notice}
    (h : Arrives j s u kind d isOpen told) (same : SameBut [.lnk] u t) : Arrives j s t kind d isOpen told := by
  refine ⟨fun room => ?_, fun full => ?_⟩
  · obtain ⟨⟨what, w, before, after, is, earlier, next, trk, emb, frame, judged⟩, outside⟩ := h.1 room
    exact ⟨⟨what, w, before, after, is, earlier, next, trk, emb, frame, judged.trans same⟩,
      outside.trans (same.mono (by decide))⟩
  · obtain ⟨lost, outside⟩ := h.2 full
    refine ⟨?_, outside.trans (same.mono (by decide))⟩
    unfold EventLost at lost ⊢
    rw [same.trk (by decide), same.lsc (by decide), same.emb (by decide), same.rlg (by decide), same.wnd (by decide)]
    exact lost

end

/-- Settles O36: an arrival enters the list or meets a full one. -/
theorem eventsArrive : Obligations.EventsArrive := by
  refine ⟨fun s => ⟨?_, fun idle => ⟨?_, fun l tag take allowed => ?_⟩⟩, fun s j job running => ⟨fun forward => ?_, ?_,
    fun l tag take allowed => ?_⟩⟩
  · refine ⟨_, rfl, fun ignored => ?_⟩
    have off : (s.running && !s.reverse) = false := by rcases ignored with h | h <;> simp [h]
    rw [off]
    exact s.endOfEvent_nothing
  · refine ⟨_, rfl, ?_⟩
    rw [idle]
    exact s.endOfEvent_nothing
  · exact answers_act (x := markEventService) rfl take rfl allowed
      (by simp only [markEventService, idle, Bool.false_eq_true, if_false]; rfl) rfl
  · obtain ⟨told, arrives, tells⟩ := State.arrive_spec job .splice (fwd s.wpu.h j.uSpl) false
    have is : (if (s.running && !s.reverse) = true then
        s.withJob fun j => s.arrive j (WebEvent.fresh .splice (fwd s.wpu.h j.uSpl) false) else s) =
        s.arrive j (WebEvent.fresh .splice (fwd s.wpu.h j.uSpl) false) := by
      rw [if_pos (by simp [running, forward])]
      exact State.withJob_some _ job
    have runs : exec .splicePulse s = .next _ := congrArg (fun u : State => Host.Outcome.next u.endOfEvent) is
    exact ⟨_, told, runs, arrives_sameBut arrives (State.endOfEvent_sameBut _), tells.silent⟩
  · obtain ⟨told, arrives, tells⟩ := State.arrive_spec job .operator s.wpu.h false
    have is : (if s.running = true then
        s.withJob fun j => s.arrive j (WebEvent.fresh .operator s.wpu.h false) else s) =
        s.arrive j (WebEvent.fresh .operator s.wpu.h false) := by
      rw [if_pos running]
      exact State.withJob_some _ job
    have runs : exec .operatorButton s = .next _ := congrArg (fun u : State => Host.Outcome.next u.endOfEvent) is
    exact ⟨_, told, runs, arrives_sameBut arrives (State.endOfEvent_sameBut _), tells.silent⟩
  · obtain ⟨told, arrives, raised, lnk, same⟩ := State.arrive_spec job .operator s.wpu.h false
    have act : markEventService.act s = (s.arrive j (WebEvent.fresh .operator s.wpu.h false), .done,
        .markEvent s.wpu.h (decide (16 ≤ s.trk.events.length))) := by
      simp only [markEventService, running, if_true, State.answerWithJob, job]
      rfl
    have answers := (answers_act (x := markEventService) (c := .markEvent l tag) rfl take rfl allowed act lnk).of_mem same
    obtain ⟨t, runs, frame, replied⟩ := answers
    exact ⟨t, told, runs, arrives_sameBut arrives frame, replied⟩

/-! ### The defect line -/

section
variable {s : State} {j : Job} {e : WebEvent} {before after : List WebEvent}

/-- An opening occasion of the defect line (R17). -/
theorem State.openingOccasion_spec (job : s.lsc.job = some j) :
    ∃ told, OccasionTaken j s (s.openingOccasion j) told ∧ Tells s (s.openingOccasion j) told := by
  have due : (s.pins.defectLine && !s.defectOpen && s.running && !s.reverse) =
      (s.pins.defectLine && s.running && !s.reverse && !(s.trk.events.any WebEvent.isOpen)) := by
    unfold State.defectOpen
    cases s.pins.defectLine <;> cases s.running <;> cases s.reverse <;> cases s.trk.events.any WebEvent.isOpen <;> rfl
  unfold State.openingOccasion
  rw [due]
  by_cases opens : (s.pins.defectLine && s.running && !s.reverse && !(s.trk.events.any WebEvent.isOpen)) = true
  · obtain ⟨told, arrives, tells⟩ := State.arrive_spec job .defect (fwd s.wpu.h j.uDef) true
    rw [if_pos opens]
    exact ⟨told, ⟨fun no => by simp [no] at opens, fun _ => arrives⟩, tells⟩
  · rw [if_neg opens]
    exact ⟨[], ⟨fun _ => ⟨rfl, rfl⟩, fun yes => absurd yes opens⟩, .nothing rfl⟩

theorem arrives_outside {t : State} {kind : EventKind} {d : Count} {isOpen : Bool} {told : List Notice}
    (h : Arrives j s t kind d isOpen told) : SameBut [.trk, .emb, .rlg, .wnd, .lsc, .lnk] s t := by
  by_cases room : s.trk.events.length < 16
  · exact (h.1 room).2.mono (by decide)
  · exact (h.2 (Nat.not_lt.mp room)).2.mono (by decide)

theorem occasionTaken_outside {t : State} {told : List Notice} (h : OccasionTaken j s t told) :
    SameBut [.trk, .emb, .rlg, .wnd, .lsc, .lnk] s t := by
  by_cases opens : (s.pins.defectLine && s.running && !s.reverse && !(s.trk.events.any WebEvent.isOpen)) = true
  · exact arrives_outside (h.2 opens)
  · rw [(h.1 (by simpa using opens)).1]
    exact SameBut.refl _ s

theorem findIdx_at_length {α : Type} {p : α → Bool} {before after : List α} {x : α} (here : p x = true)
    (earlier : ∀ y ∈ before, p y = false) : (before ++ x :: after).findIdx? p = some before.length := by
  have none_ : before.findIdx? p = none := List.findIdx?_eq_none_iff.mpr earlier
  rw [List.findIdx?_append, none_, List.findIdx?_cons, here]
  simp

theorem State.closeDefect_none (none_ : ∀ e ∈ s.trk.events, e.isOpen = false) (j : Job) (f : WebEvent → Nat) :
    s.closeDefect j f = s := by
  have nowhere : s.trk.events.findIdx? WebEvent.isOpen = none := List.findIdx?_eq_none_iff.mpr none_
  unfold State.closeDefect
  rw [nowhere]

/-- The emboss block once an event's zone with a length is no longer held open (R80). -/
def zoneClosed (j : Job) (e : WebEvent) (length : Nat) (x : Emb) : Emb :=
  let stop := fwd e.datum (length + j.trail + j.dEm + 1)
  if e.joined && x.zoneActive then
    { x with release := some ((x.release.map fun r => further r stop).getD stop), heldOpen := false }
  else x

/-- The open DEFECT event closes (R17, R80). -/
theorem State.closeDefect_eq (is : s.trk.events = before ++ e :: after) (opened : e.isOpen = true)
    (earlier : ∀ x ∈ before, x.isOpen = false) (j : Job) (f : WebEvent → Nat) :
    s.closeDefect j f = { s with
      trk := { s.trk with events := before ++ { e with isOpen := false, length := f e } :: after }
      emb := zoneClosed j e (f e) s.emb } := by
  have at_ : s.trk.events.findIdx? WebEvent.isOpen = some before.length := by
    rw [is]
    exact findIdx_at_length opened earlier
  unfold State.closeDefect
  rw [at_]
  dsimp only
  rw [State.modifyEvent_eq is]
  dsimp only
  rw [getElem?_at_length]
  dsimp only
  unfold State.coverClosed zoneClosed
  dsimp only
  split <;> rfl

theorem State.closeDefect_sameBut (s : State) (j : Job) (f : WebEvent → Nat) : SameBut [.trk, .emb] s (s.closeDefect j f) := by
  unfold State.closeDefect
  split
  · exact SameBut.refl _ s
  · dsimp only
    split
    · unfold State.coverClosed
      split <;> (intro b hb; cases b <;> first | rfl | simp at hb)
    · intro b hb
      cases b <;> first | rfl | simp at hb

theorem State.eventLength_open (opened : e.isOpen = true) : s.eventLength j e = (ahead (fwd s.wpu.h j.uDef) e.datum).toNat :=
  if_pos opened

theorem exec_defectLineRise (s : State) : exec .defectLineRise s = .next (if (!s.pins.defectLine) = true then
    ({ s with pins := { s.pins with defectLine := true } } : State).withJob
      (State.openingOccasion { s with pins := { s.pins with defectLine := true } })
    else { s with pins := { s.pins with defectLine := true } } : State).endOfEvent := rfl

theorem exec_defectLineFall (s : State) : exec .defectLineFall s = .next
    (State.withJob { s with pins := { s.pins with defectLine := false } } fun j =>
      State.closeDefect { s with pins := { s.pins with defectLine := false } } j
        (State.eventLength { s with pins := { s.pins with defectLine := false } } j)).endOfEvent := rfl

theorem exec_defectLengthLimit (s : State) : exec .defectLengthLimit s = .next (s.withJob fun j =>
    if s.defectLimitDue j then (s.closeDefect j fun _ => Config.defectLimit).openingOccasion j else s).endOfEvent := rfl

end

/-- Settles O37: the edges of the defect line and the limit of an open event's length. -/
theorem defectLineOpensAndClosesEvents : Obligations.DefectLineOpensAndClosesEvents := by
  intro s j job opens
  refine ⟨?_, ?_, ?_⟩
  · let v : State := { s with pins := { s.pins with defectLine := true } }
    have first : SameBut [.pins, .lnk] s v := by
      intro b hb
      cases b <;> first | rfl | simp at hb
    by_cases active : s.pins.defectLine = true
    · have runs : exec .defectLineRise s = .next v.endOfEvent := by
        rw [exec_defectLineRise, active]
        rfl
      refine ⟨_, [], runs, v.endOfEvent_pins, State.endOfEvent_silent_of_eq _ _ rfl, fun _ => ⟨?_, rfl⟩,
        fun low => by simp [active] at low⟩
      exact first.trans (v.endOfEvent_sameBut.mono (by decide))
    · have low : s.pins.defectLine = false := by simpa using active
      obtain ⟨told, taken, tells⟩ := State.openingOccasion_spec (s := v) job
      have runs : exec .defectLineRise s = .next (v.openingOccasion j).endOfEvent := by
        rw [exec_defectLineRise, low]
        exact congrArg (fun u : State => Host.Outcome.next u.endOfEvent) (State.withJob_some v.openingOccasion job)
      have ends := (v.openingOccasion j).endOfEvent_sameBut
      have pins : (v.openingOccasion j).pins = v.pins := (occasionTaken_outside taken).pins (by decide)
      refine ⟨_, told, runs, by rw [State.endOfEvent_pins, pins], tells.silent, fun quiet => ?_, fun _ due => ?_⟩
      · obtain ⟨same, nothing⟩ := taken.1 (by
          rcases quiet with h | h
          · exact absurd h active
          · exact h)
        rw [same] at ends ⊢
        exact ⟨first.trans (ends.mono (by decide)), nothing⟩
      · exact arrives_sameBut (taken.2 due) ends
  · let v : State := { s with pins := { s.pins with defectLine := false } }
    let u := v.closeDefect j (v.eventLength j)
    have runs : exec .defectLineFall s = .next u.endOfEvent := by
      rw [exec_defectLineFall]
      exact congrArg (fun u : State => Host.Outcome.next u.endOfEvent)
        (State.withJob_some (fun j => v.closeDefect j (v.eventLength j)) job)
    have frame : SameBut [.trk, .emb] v u := v.closeDefect_sameBut j (v.eventLength j)
    have first : SameBut [.pins, .lnk] s v := by
      intro b hb
      cases b <;> first | rfl | simp at hb
    have ends := u.endOfEvent_sameBut
    refine ⟨_, runs, ?_, State.endOfEvent_silent_of_eq _ _ (frame.lnk (by decide)), ?_, fun none_ => ?_, fun before e after is opened earlier => ?_⟩
    · rw [State.endOfEvent_pins]
      exact frame.pins (by decide)
    · exact ((first.mono (by decide)).trans (frame.mono (by decide))).trans (ends.mono (by decide))
    · have same : u = v := State.closeDefect_none (s := v) none_ j _
      rw [same] at ends ⊢
      exact first.trans (ends.mono (by decide))
    · intro length stop
      have closed : u = _ := State.closeDefect_eq (s := v) is opened earlier j (v.eventLength j)
      rw [State.endOfEvent_trk, State.endOfEvent_emb, closed, State.eventLength_open opened]
      exact ⟨rfl, rfl⟩
  · by_cases due : s.defectLimitDue j = true
    · let u := s.closeDefect j fun _ => Config.defectLimit
      have frame : SameBut [.trk, .emb] s u := s.closeDefect_sameBut j _
      have job' : u.lsc.job = some j := by rw [frame.lsc (by decide), job]
      obtain ⟨told, taken, raised, lnk, same⟩ := State.openingOccasion_spec job'
      have tells : Tells s (u.openingOccasion j) told := ⟨raised, by rw [lnk, frame.lnk (by decide)], same⟩
      have is : (if s.defectLimitDue j = true then (s.closeDefect j fun _ => Config.defectLimit).openingOccasion j else s) =
          u.openingOccasion j := if_pos due
      have runs : exec .defectLengthLimit s = .next (u.openingOccasion j).endOfEvent :=
        congrArg (fun u : State => Host.Outcome.next u.endOfEvent) ((State.withJob_some _ job).trans is)
      have ends := (u.openingOccasion j).endOfEvent_sameBut
      refine ⟨_, told, runs, tells.silent, fun short => ?_, fun before e after is opened others _ => ?_⟩
      · obtain ⟨e, member, isDue⟩ := List.any_eq_true.mp due
        obtain ⟨opened, long⟩ := Bool.and_eq_true_iff.mp isDue
        have length := of_decide_eq_true long
        rw [State.eventLength_open opened] at length
        exact absurd (short e member opened) (Nat.not_lt.mpr length)
      · intro stop closed
        have same : u = closed := State.closeDefect_eq is opened (fun x member => others x (List.mem_append_left _ member)) j _
        have closedAll : closed.trk.events.any WebEvent.isOpen = false := by
          simp only [List.any_eq_false, closed, List.mem_append, List.mem_cons]
          rintro x (member | rfl | member)
          · simp [others x (List.mem_append_left _ member)]
          · simp
          · simp [others x (List.mem_append_right _ member)]
        have opens' : (closed.pins.defectLine && closed.running && !closed.reverse &&
            !(closed.trk.events.any WebEvent.isOpen)) = (s.pins.defectLine && s.running && !s.reverse) := by
          rw [closedAll, Bool.not_false, Bool.and_true]
          rfl
        rw [same] at taken ends ⊢
        refine ⟨fun no => ?_, fun yes => ?_⟩
        · obtain ⟨stays, nothing⟩ := taken.1 (opens'.trans no)
          rw [stays] at ends ⊢
          exact ⟨ends, nothing⟩
        · exact arrives_sameBut (taken.2 (opens'.trans yes)) ends
    · have is : (if s.defectLimitDue j = true then (s.closeDefect j fun _ => Config.defectLimit).openingOccasion j else s) =
          s := if_neg due
      have runs : exec .defectLengthLimit s = .next s.endOfEvent :=
        congrArg (fun u : State => Host.Outcome.next u.endOfEvent) ((State.withJob_some _ job).trans is)
      refine ⟨_, [], runs, s.endOfEvent_nothing.2, fun _ => ⟨s.endOfEvent_sameBut, rfl⟩,
        fun before e after is opened _ long => absurd (List.any_eq_true.mpr ⟨e, ?_, ?_⟩) due⟩
      · rw [is]
        exact List.mem_append_right _ List.mem_cons_self
      · rw [opened, State.eventLength_open opened]
        exact decide_eq_true long

end Sys2Proof.Machine
end

section
/-! PROOFS. Events leave the list (O38), are judged at their arrival (O48), and cover the nip (O43). -/

namespace Sys2Proof.Machine

-- one proof at a time: the joined package would else open a thread for each of them
set_option Elab.async false

/-! ### The entry that contains a datum -/

section
variable {s t : State} {j : Job} {e : WebEvent} {before after : List WebEvent} {d : Count}

theorem State.updateContaining_changed (s : State) (d : Count) {f g : Entry → Entry} (same : ∀ x, f x = g x) :
    EntryChanged s (s.updateContaining d f) d g ∧ SameBut [.rlg] s (s.updateContaining d f) := by
  have is : f = g := funext same
  subst is
  unfold State.updateContaining
  split
  next nowhere =>
    refine ⟨⟨rfl, rfl, fun before y after log here newest => ?_, fun _ => rfl⟩, SameBut.refl _ s⟩
    rw [State.entryOf_eq log here newest] at nowhere
    cases nowhere
  next y found =>
    refine ⟨⟨rfl, rfl, fun before y' after log here newest => ?_, fun none_ => ?_⟩, fun b hb => ?_⟩
    · rw [State.entryOf_eq log here newest] at found
      cases found
      rfl
    · rw [State.entryOf_none none_] at found
      cases found
    · cases b <;> first | rfl | simp at hb

theorem State.updateContaining_eq (s : State) (d : Count) (f : Entry → Entry) :
    s.updateContaining d f = { s with rlg := (s.updateContaining d f).rlg } := by
  unfold State.updateContaining
  split <;> rfl

theorem Entry.count_eq (kind : EventKind) (x : Entry) : x.count kind = countedEvent kind x := by
  cases kind <;> rfl

/-- A change of the log is read from the log alone. -/
theorem entryChanged_congr {u : State} {f : Entry → Entry} (h : EntryChanged s t d f) (same : u.rlg = t.rlg) :
    EntryChanged s u d f := by
  unfold EntryChanged at h ⊢
  rw [same]
  exact h

/-! ### Attribution -/

/-- The event behind before is attributed (R19, R139). -/
theorem State.attribute_eq (is : s.trk.events = before ++ e :: after) : s.attribute before.length =
    { s with
      trk := { s.trk with events := before ++ { e with attributed := true } :: after }
      rlg := (s.updateContaining e.datum fun x => x.count e.kind).rlg } := by
  let w := s.updateContaining e.datum fun x => x.count e.kind
  have at_ : s.trk.events[before.length]? = some e := by rw [is, getElem?_at_length]
  have kept : w = { s with rlg := w.rlg } := s.updateContaining_eq e.datum _
  unfold State.attribute
  rw [at_]
  dsimp only
  show w.modifyEvent before.length _ = _
  rw [kept]
  exact State.modifyEvent_eq (s := { s with rlg := w.rlg }) is _

theorem State.attributionDue_iff (s : State) (j : Job) (e : WebEvent) : s.attributionDue j e = true ↔
    e.attributed = false ∧ reached s.wpu.h (fwd e.datum j.dCut) = true ∧ Uncut s e.datum := by
  unfold State.attributionDue
  simp only [Bool.and_eq_true, Bool.not_eq_true', State.at, and_assoc, cutAt_eq_false_iff]

theorem State.removalDue_iff (s : State) (j : Job) (e : WebEvent) : s.removalDue j e = true ↔
    e.isOpen = false ∧ reached s.wpu.h (fwd e.datum (e.length + j.dCut)) = true ∧ Uncut s e.datum := by
  unfold State.removalDue
  simp only [Bool.and_eq_true, Bool.not_eq_true', State.at, and_assoc, cutAt_eq_false_iff]

/-! ### Removal -/

/-- The end of the EVENT_LOST condition, if it is present (R21, R78). -/
theorem State.endEventLost_spec (job : s.lsc.job = some j) : SameBut [.trk, .emb] s s.endEventLost ∧
    s.endEventLost.trk = { s.trk with eventLost := false } ∧ (s.trk.eventLost = false → s.endEventLost = s) := by
  unfold State.endEventLost
  split
  next lost =>
    rw [State.evaluateNip_eq (by exact job)]
    refine ⟨fun b hb => ?_, rfl, fun h => absurd lost (by simp [h])⟩
    cases b <;> first | rfl | simp at hb
  next lost =>
    have no : s.trk.eventLost = false := by simpa using lost
    exact ⟨SameBut.refl _ s, by rw [← no], fun _ => rfl⟩

/-- The event behind before is removed, counted first where it was not (R20, R21). -/
theorem State.removeEvent_spec (job : s.lsc.job = some j) (is : s.trk.events = before ++ e :: after) :
    let t := s.removeEvent before.length
    t.trk = { s.trk with
      events := before ++ after, eventLost := s.trk.eventLost && decide (12 < before.length + after.length) } ∧
    t.rlg = (if e.attributed then s else s.updateContaining e.datum fun x => x.count e.kind).rlg ∧
    (s.trk.eventLost = t.trk.eventLost → t.emb = s.emb) ∧ SameBut [.trk, .rlg, .emb] s t := by
  intro t
  let log := (if e.attributed then s else s.updateContaining e.datum fun x => x.count e.kind).rlg
  let v : State := { s with trk := { s.trk with events := before ++ after }, rlg := log }
  have at_ : s.trk.events[before.length]? = some e := by rw [is, getElem?_at_length]
  have removed : t = if (before ++ after).length ≤ 12 then v.endEventLost else v := by
    have erased (x : WebEvent) : (before ++ x :: after).eraseIdx before.length = before ++ after := by
      rw [List.eraseIdx_append_of_length_le (Nat.le_refl _), Nat.sub_self]
      rfl
    show s.removeEvent before.length = _
    unfold State.removeEvent
    rw [at_, Option.any_some]
    by_cases counted : e.attributed = true
    · simp only [counted, Bool.not_true, Bool.false_eq_true, if_false, is, erased, v, log, if_true]
    · simp only [show e.attributed = false by simpa using counted, Bool.not_false, if_true, State.attribute_eq is, erased, v, log,
        Bool.false_eq_true, if_false]
  have first : SameBut [.trk, .rlg, .emb] s v := by
    intro b hb
    cases b <;> first | rfl | simp at hb
  obtain ⟨frame, trk, stays⟩ := State.endEventLost_spec (s := v) (j := j) job
  rw [removed, List.length_append]
  by_cases few : before.length + after.length ≤ 12
  · rw [if_pos few, trk, decide_eq_false (Nat.not_lt.mpr few), Bool.and_false]
    refine ⟨rfl, frame.rlg (by decide), fun same => ?_, first.trans (frame.mono (by decide))⟩
    rw [stays same]
  · rw [if_neg few, decide_eq_true (Nat.lt_of_not_le few), Bool.and_true]
    exact ⟨rfl, rfl, fun _ => rfl, first⟩

end

/-- Of the events of a list one of which is due, there is a first. -/
theorem exists_first_due {α : Type} {p : α → Bool} {l : List α} (some_ : ¬∀ x ∈ l, p x = false) :
    ∃ before x after, l = before ++ x :: after ∧ p x = true ∧ ∀ y ∈ before, p y = false := by
  have found : ∃ x, l.find? p = some x := Option.isSome_iff_exists.mp (List.find?_isSome.mpr (by simpa using some_))
  obtain ⟨x, is⟩ := found
  obtain ⟨here, before, after, split, earlier⟩ := List.find?_eq_some_iff_append.mp is
  exact ⟨before, x, after, split, here, fun y member => by simpa using earlier y member⟩

/-- The first element that is due stands in one place. -/
theorem first_due_unique {α : Type} {p : α → Bool} {before before' after after' : List α} {x x' : α}
    (same : before ++ x :: after = before' ++ x' :: after') (here : p x = true) (here' : p x' = true)
    (earlier : ∀ y ∈ before, p y = false) (earlier' : ∀ y ∈ before', p y = false) :
    before = before' ∧ x = x' ∧ after = after' := by
  have length : before.length = before'.length := by
    have first := findIdx_at_length (after := after) here earlier
    rw [same, findIdx_at_length here' earlier'] at first
    exact (Option.some.inj first).symm
  obtain ⟨rfl, rest⟩ := List.append_inj same length
  obtain ⟨rfl, rfl⟩ := List.cons.inj rest
  exact ⟨rfl, rfl, rfl⟩

/-- Settles O38: the first event due is attributed, and removed. -/
theorem eventsAreAttributedAndRemoved : Obligations.EventsAreAttributedAndRemoved := by
  intro s j job uncut
  refine ⟨s.attributionDue_iff j, s.removalDue_iff j, ?_, ?_⟩
  · have taken := State.withJob_some (fun j =>
      match s.trk.events.findIdx? fun e => s.attributionDue j e with
      | some n => s.attribute n
      | none => s) job
    by_cases idle : ∀ e ∈ s.trk.events, s.attributionDue j e = false
    · have nowhere : s.trk.events.findIdx? (fun e => s.attributionDue j e) = none := List.findIdx?_eq_none_iff.mpr idle
      rw [nowhere] at taken
      have runs : exec .eventAttribution s = .next s.endOfEvent :=
        congrArg (fun u : State => Host.Outcome.next u.endOfEvent) taken
      refine ⟨_, runs, s.endOfEvent_nothing.2, fun _ => s.endOfEvent_sameBut, fun before e after is due _ => ?_⟩
      rw [idle e (is ▸ List.mem_append_right _ List.mem_cons_self)] at due
      cases due
    · obtain ⟨before, e, after, is, due, earlier⟩ := exists_first_due idle
      have at_ : s.trk.events.findIdx? (fun e => s.attributionDue j e) = some before.length := by
        rw [is]
        exact findIdx_at_length due earlier
      rw [at_] at taken
      have runs : exec .eventAttribution s = .next (s.attribute before.length).endOfEvent :=
        congrArg (fun u : State => Host.Outcome.next u.endOfEvent) taken
      have frame : SameBut [.trk, .rlg] s (s.attribute before.length) := by
        rw [State.attribute_eq is]
        intro b hb
        cases b <;> first | rfl | simp at hb
      have counted := (s.updateContaining_changed e.datum (Entry.count_eq e.kind)).1
      have ends := (s.attribute before.length).endOfEvent_sameBut
      refine ⟨_, runs, State.endOfEvent_silent_of_eq _ _ (frame.lnk (by decide)), fun none_ => absurd none_ idle,
        fun before' e' after' is' due' earlier' => ?_⟩
      obtain ⟨rfl, rfl, rfl⟩ := first_due_unique (is'.symm.trans is) due' due earlier' earlier
      refine ⟨?_, entryChanged_congr counted ?_, (frame.mono (by decide)).trans (ends.mono (by decide))⟩
      · rw [State.endOfEvent_trk, State.attribute_eq is]
      · rw [State.endOfEvent_rlg, State.attribute_eq is]
  · have taken := State.withJob_some (fun j =>
      match s.trk.events.findIdx? fun e => s.removalDue j e with
      | some n => s.removeEvent n
      | none => s) job
    by_cases idle : ∀ e ∈ s.trk.events, s.removalDue j e = false
    · have nowhere : s.trk.events.findIdx? (fun e => s.removalDue j e) = none := List.findIdx?_eq_none_iff.mpr idle
      rw [nowhere] at taken
      have runs : exec .eventRemoval s = .next s.endOfEvent :=
        congrArg (fun u : State => Host.Outcome.next u.endOfEvent) taken
      refine ⟨_, runs, s.endOfEvent_nothing.2, fun _ => s.endOfEvent_sameBut, fun before e after is due _ => ?_⟩
      rw [idle e (is ▸ List.mem_append_right _ List.mem_cons_self)] at due
      cases due
    · obtain ⟨before, e, after, is, due, earlier⟩ := exists_first_due idle
      have at_ : s.trk.events.findIdx? (fun e => s.removalDue j e) = some before.length := by
        rw [is]
        exact findIdx_at_length due earlier
      rw [at_] at taken
      have runs : exec .eventRemoval s = .next (s.removeEvent before.length).endOfEvent :=
        congrArg (fun u : State => Host.Outcome.next u.endOfEvent) taken
      obtain ⟨trk, rlg, emb, frame⟩ := State.removeEvent_spec job is
      have ends := (s.removeEvent before.length).endOfEvent_sameBut
      refine ⟨_, runs, State.endOfEvent_silent_of_eq _ _ (frame.lnk (by decide)), fun none_ => absurd none_ idle,
        fun before' e' after' is' due' earlier' => ?_⟩
      obtain ⟨rfl, rfl, rfl⟩ := first_due_unique (is'.symm.trans is) due' due earlier' earlier
      rw [State.endOfEvent_trk, State.endOfEvent_emb, State.endOfEvent_rlg]
      refine ⟨trk, fun counted => ?_, fun uncounted => ?_, emb, (frame.mono (by decide)).trans (ends.mono (by decide))⟩
      · rw [rlg, if_pos counted]
      · refine entryChanged_congr (s.updateContaining_changed e'.datum (Entry.count_eq e'.kind)).1 ?_
        rw [State.endOfEvent_rlg, rlg, uncounted]
        rfl

/-! ### The splices judged at an arrival -/

/-- The judging of a splice reads the web, the line and the winder's own block. -/
theorem State.judge_wnd {s u : State} (wpu : u.wpu = s.wpu) (wnd : u.wnd = s.wnd) (lsc : u.lsc = s.lsc) (j : Job) (x : Count) :
    (u.judge j x).wnd = (s.judge j x).wnd := by
  have alone (v : State) (k : Trk) : (({ v with trk := k } : State).judge j x).wnd = (v.judge j x).wnd := by
    have planned : (({ v with trk := k } : State).extendPlanned j x).wnd = (v.extendPlanned j x).wnd := by
      unfold State.extendPlanned
      dsimp only
      cases v.wnd.planned with
      | none => rfl
      | some c =>
        dsimp only
        cases c.target with
        | known p n =>
          dsimp only
          rw [apply_ite State.wnd, apply_ite State.wnd]
          rfl
        | _ => rfl
    have plan (q : SplicePlan) : (({ v with trk := k } : State).extendPlan j q x).wnd = (v.extendPlan j q x).wnd := by
      unfold State.extendPlan
      dsimp only
      rw [apply_ite State.wnd, apply_ite State.wnd]
      rfl
    unfold State.judge
    dsimp only
    cases v.wnd.active with
    | none => rfl
    | some g =>
      dsimp only
      cases g.role with
      | roll =>
        dsimp only
        cases v.wnd.plan with
        | none => rfl
        | some q => exact plan q
      | leadIn => exact planned
      | remove => exact planned
      | tail => rfl
  have sees : Sees s { u with trk := s.trk } := ⟨wpu, wnd, rfl, by rw [show _ = s.lsc from lsc]⟩
  rw [← alone u s.trk]
  exact (sees.judge j x).wnd

theorem State.judgeable_judged {e : WebEvent} (past : e.kind = .splice → e.judged = true) (s : State) (j : Job) :
    s.judgeable j e = false := by
  refine Classical.byContradiction fun may => ?_
  obtain ⟨-, -, kind, fresh, -⟩ := State.judgeable_iff.mp (by simpa using may)
  rw [past kind] at fresh
  cases fresh

/-- Settles O48: which splices are judged, in which order, and what a judgement leaves. -/
theorem splicesAreJudgedUnderRemove : Obligations.SplicesAreJudgedUnderRemove := by
  refine ⟨fun _ _ _ => State.judgeable_iff, fun _ _ idle => State.judgeSplices_idle idle, fun s j => ?_,
    fun _ _ _ _ _ is may others => State.judgeSplices_one is may others, fun s j x e g active eMin => ?_,
    fun s j job running forward room judged => ?_⟩
  · unfold State.judgeSplices
    exact congrArg (fun f => List.foldl f s (List.range s.trk.events.length))
      (funext fun u => funext fun n => State.judgeAt_eq u j n)
  · intro t cut2
    have floor : s.floorDatum = e := by
      unfold State.floorDatum
      rw [eMin]
      rfl
    have first (last : Count) (c : Cut1) : cut2 last c (s.afterSplice j last (s.cut2Floor j c)) := by
      show FirstEligible j s.wnd.points (further (fwd last j.clearance) (cut2FloorOf j e c)) _
      rw [← floor]
      exact s.afterSplice_first j last c
    refine ⟨s.judge_replanned j x, fun role => State.judge_tail active role j x, fun role plan => ?_, fun q role plan => ?_,
      fun c p n role planned target => ?_⟩
    · have is : t = s.startPlan j x := State.judge_rollStarts active role plan j x
      unfold State.startPlan at is
      dsimp only at is
      rw [State.planWith_eq] at is
      refine ⟨_, _, ?_, first x _, by rw [is], by rw [is]⟩
      rw [← floor]
      exact s.classifyCut1_found j (back x j.clearance)
    · have is : t = s.extendPlan j q x := State.judge_rollExtends active role plan j x
      obtain ⟨-, y, eligible, moves, stays⟩ := s.extendPlan_spec j q x
      rw [← is] at moves stays
      rw [floor] at eligible
      exact ⟨y, eligible, moves, stays⟩
    · have is : t = s.extendPlanned j x := State.judge_moves active role j x
      obtain ⟨-, plan, -, known⟩ := s.extendPlanned_spec j x
      obtain ⟨y, eligible, moves, stays⟩ := known c p n planned target
      rw [← is] at plan moves stays
      rw [floor] at eligible
      exact ⟨plan, y, eligible, moves, fun h => by rw [stays h]⟩
  · intro e
    obtain ⟨t, told, runs, arrives, -⟩ := (eventsArrive.2 s j job running).1 forward
    obtain ⟨-, u, before, after, is, -, -, trk, -, frame, last⟩ := (arrives.1 room).1
    refine ⟨t, runs, ?_⟩
    rw [last.wnd (by decide)]
    have wnd : u.wnd = s.wnd := frame.wnd (by decide)
    have lsc : u.lsc = s.lsc := frame.lsc (by decide)
    have wpu : u.wpu = s.wpu := frame.wpu (by decide)
    have others (x : WebEvent) (member : x ∈ before ++ after) : x.kind = .splice → x.judged = true := judged x (is ▸ member)
    obtain ⟨x, events, kind, datum, fresh⟩ : ∃ x, u.trk.events = before ++ x :: after ∧ x.kind = .splice ∧
        x.datum = e.datum ∧ x.judged = false := ⟨_, congrArg Trk.events trk, rfl, rfl, rfl⟩
    have may : u.judgeable j x = true ↔ s.judgeable j e = true := by
      rw [State.judgeable_iff, State.judgeable_iff, wnd, lsc, kind, datum, fresh]
      rfl
    by_cases judges : s.judgeable j e = true
    · rw [if_pos judges, State.judgeSplices_one events (may.mpr judges) others, datum]
      exact State.judge_wnd (s := s) (by exact wpu) (by exact wnd) (by exact lsc) j e.datum
    · rw [if_neg judges, State.judgeSplices_idle, wnd]
      rw [events]
      intro y member
      rcases List.mem_append.mp member with member | member
      · exact State.judgeable_judged (others y (List.mem_append_left _ member)) u j
      · rcases List.mem_cons.mp member with rfl | member
        · simpa using mt may.mp judges
        · exact State.judgeable_judged (others y (List.mem_append_right _ member)) u j

end Sys2Proof.Machine
end

section
/-! PROOFS. The lift zones at the nip (O43), and the emboss unit's index edges, windows and statuses (O44). -/

namespace Sys2Proof.Machine

-- one proof at a time: the joined package would else open a thread for each of them
set_option Elab.async false

/-! ### Lift zones -/

section
variable {s : State} {j : Job} {e : WebEvent} {before after : List WebEvent}

theorem State.coverEndDue_iff (s : State) (j : Job) : s.coverEndDue j = true ↔
    s.emb.zoneActive = true ∧ s.emb.heldOpen = false ∧ (∃ r, s.emb.release = some r ∧ reached s.wpu.h r = true) ∧
      ∀ e ∈ s.trk.events, s.coverBeginDue j e = false := by
  unfold State.coverEndDue
  simp only [Bool.and_eq_true, Bool.not_eq_true', Option.any_eq_true, State.at, List.any_eq_false, and_assoc, Bool.not_eq_true]

/-- The coverage ends (R80). -/
theorem State.coverEnd_eq (job : s.lsc.job = some j) :
    let free := { s.emb with zoneActive := false, release := none, heldOpen := false }
    s.coverEnd = { s with emb := evaluated j (ClosePermitted s j free) free } := by
  intro free
  exact State.evaluateNip_eq (s := { s with emb := free }) job

/-- A lift check that finds a nip not LIFTING (R81). -/
theorem State.liftCheck_inTime (is : s.trk.events = before ++ e :: after) (nip : s.emb.nip ≠ .lifting) (j : Job) :
    s.liftCheck j before.length =
      { s with trk := { s.trk with events := before ++ { e with checked := true } :: after } } := by
  have inTime : (s.emb.nip == NipState.lifting) = false := by simpa using nip
  rw [State.liftCheck_eq is j, inTime]
  simp [Lnk.raised]

end

/-- Settles O43: the coverage begins, ends, and is checked. -/
theorem liftZonesCoverTheNip : Obligations.LiftZonesCoverTheNip := by
  intro s j job
  refine ⟨coverBeginDue_eq s j, ?_, ?_, ?_⟩
  · have taken := State.withJob_some (fun j =>
      match s.trk.events.findIdx? fun e => s.coverBeginDue j e with
      | some n => s.coverBegin j n
      | none => s) job
    by_cases idle : ∀ e ∈ s.trk.events, s.coverBeginDue j e = false
    · have nowhere : s.trk.events.findIdx? (fun e => s.coverBeginDue j e) = none := List.findIdx?_eq_none_iff.mpr idle
      rw [nowhere] at taken
      have runs : exec .liftCoverageBegin s = .next s.endOfEvent :=
        congrArg (fun u : State => Host.Outcome.next u.endOfEvent) taken
      refine ⟨_, runs, frame_of_exec runs, s.endOfEvent_nothing.2, fun _ => s.endOfEvent_sameBut, fun before e after is due _ => ?_⟩
      rw [idle e (is ▸ List.mem_append_right _ List.mem_cons_self)] at due
      cases due
    · obtain ⟨before, e, after, is, due, earlier⟩ := exists_first_due idle
      have at_ : s.trk.events.findIdx? (fun e => s.coverBeginDue j e) = some before.length := by
        rw [is]
        exact findIdx_at_length due earlier
      rw [at_] at taken
      have runs : exec .liftCoverageBegin s = .next (s.coverBegin j before.length).endOfEvent :=
        congrArg (fun u : State => Host.Outcome.next u.endOfEvent) taken
      have begun := State.coverBegin_eq job is
      refine ⟨_, runs, frame_of_exec runs, State.endOfEvent_silent_of_eq _ _ (by rw [begun]), fun none_ => absurd none_ idle,
        fun before' e' after' is' due' earlier' => ?_⟩
      obtain ⟨rfl, rfl, rfl⟩ := first_due_unique (is'.symm.trans is) due' due earlier' earlier
      rw [State.endOfEvent_trk, State.endOfEvent_emb, begun]
      exact ⟨rfl, rfl⟩
  · have taken := State.withJob_some (fun j => if s.coverEndDue j then s.coverEnd else s) job
    by_cases due : s.coverEndDue j = true
    · have runs : exec .liftCoverageEnd s = .next s.coverEnd.endOfEvent :=
        congrArg (fun u : State => Host.Outcome.next u.endOfEvent) (taken.trans (if_pos due))
      have ended := State.coverEnd_eq job
      refine ⟨_, runs, frame_of_exec runs, State.endOfEvent_silent_of_eq _ _ (by rw [ended]), ?_⟩
      rw [if_pos ((s.coverEndDue_iff j).mp due), State.endOfEvent_emb, ended]
    · have runs : exec .liftCoverageEnd s = .next s.endOfEvent :=
        congrArg (fun u : State => Host.Outcome.next u.endOfEvent) (taken.trans (if_neg due))
      refine ⟨_, runs, frame_of_exec runs, s.endOfEvent_nothing.2, ?_⟩
      rw [if_neg (mt (s.coverEndDue_iff j).mpr due), State.endOfEvent_emb]
  · have taken := State.withJob_some (fun j =>
      match s.trk.events.findIdx? fun e => s.liftCheckDue j e with
      | some n => s.liftCheck j n
      | none => s) job
    have runs : exec .liftCheck s = .next (s.withJob fun j =>
      match s.trk.events.findIdx? fun e => s.liftCheckDue j e with
      | some n => s.liftCheck j n
      | none => s).endOfEvent := rfl
    refine ⟨_, runs, frame_of_exec runs, fun before e after is lifting unchecked at_ over_ earlier => ?_⟩
    have due : s.liftCheckDue j e = true := by
      rw [State.liftCheckDue_eq, ← coverBeginDue_eq, lifting, unchecked, at_, over_]
      rfl
    have place : s.trk.events.findIdx? (fun e => s.liftCheckDue j e) = some before.length := by
      rw [is]
      exact findIdx_at_length due earlier
    rw [place] at taken
    have checked : (s.withJob fun j =>
      match s.trk.events.findIdx? fun e => s.liftCheckDue j e with
      | some n => s.liftCheck j n
      | none => s) = s.liftCheck j before.length := by
      rw [State.withJob_some _ job, place]
    rw [checked]
    refine ⟨fun nip => ?_, fun nip => ?_⟩
    · have is' := State.liftCheck_inTime is nip j
      refine ⟨State.endOfEvent_silent_of_eq _ _ (by rw [is']), ?_, ?_⟩
      · rw [State.endOfEvent_emb, is']
      · rw [State.endOfEvent_trk, is']
    · have is' := State.liftCheck_eq is j
      have late : (s.emb.nip == NipState.lifting) = true := by simpa using nip
      rw [late] at is'
      simp only [Bool.or_true, Bool.true_and, if_true] at is'
      refine ⟨State.endOfEvent_silent _ _ _ (by rw [is']), ?_, ?_, fun r covers => ?_, fun none_ => ?_⟩
      · rw [State.endOfEvent_emb, is']
        rfl
      · rw [State.endOfEvent_trk, is']
      · rw [State.endOfEvent_trk, is']
        dsimp only
        rw [covers]
        have same (x : RepeatRecord) : (r.index == x.index) = true ↔ x.index = r.index := by rw [beq_iff_eq, eq_comm]
        simp only [Option.any_some, same]
      · rw [State.endOfEvent_trk, is']
        dsimp only
        rw [none_]
        simp

/-! ### Index edges -/

/-- A window takes an edge at x (R85). -/
def TakesIndex (j : Job) (x : Count) (w : EmbWindow) : Prop := (ahead x w.expected).natAbs ≤ j.wEm ∧ w.sample = none

section
variable {s : State} {j : Job} {x : Count} {w : EmbWindow}

theorem takesIndex_iff : (w.contains j x && w.sample.isNone) = true ↔ TakesIndex j x w := by
  rw [Bool.and_eq_true, EmbWindow.contains, decide_eq_true_eq, Option.isNone_iff_eq_none]
  rfl

theorem takeIndex_none {windows : List EmbWindow} (stray : ∀ w ∈ windows, ¬TakesIndex j x w) :
    takeIndex j x windows = none := by
  induction windows with
  | nil => rfl
  | cons w ws ih =>
    unfold takeIndex
    rw [if_neg (mt takesIndex_iff.mp (stray w List.mem_cons_self)), ih fun w' member => stray w' (List.mem_cons_of_mem _ member)]

/-- The oldest window that contains the edge and holds no sample takes it (R85). -/
theorem takeIndex_first {before after : List EmbWindow} (takes : TakesIndex j x w)
    (earlier : ∀ w' ∈ before, ¬TakesIndex j x w') : takeIndex j x (before ++ w :: after) =
      some (w, before ++ { w with sample := some (ahead x w.expected) } :: after) := by
  induction before with
  | nil =>
    show takeIndex j x (w :: after) = _
    unfold takeIndex
    rw [if_pos (takesIndex_iff.mpr takes)]
    rfl
  | cons w' before ih =>
    show takeIndex j x (w' :: (before ++ w :: after)) = _
    unfold takeIndex
    rw [if_neg (mt takesIndex_iff.mp (earlier w' List.mem_cons_self)), ih fun y member => earlier y (List.mem_cons_of_mem _ member)]
    rfl

/-- The emboss flags latched, with the alarm of R95. -/
theorem State.latchEmboss_eq (s : State) (f : CauFlags) : s.latchEmboss f = { s with
    emb := { s.emb with flags := s.emb.flags.latch f }, lnk := s.lnk.raised (if f.atLimit then [.embossAlarm] else []) } := by
  unfold State.latchEmboss
  cases f.atLimit <;> rfl

/-- A full emboss accumulator that starts no train (R88). -/
theorem State.embossCompute_none {samples : List Int} (train : (cauFull samples s.emb.trim j.emboss).train = none) :
    let f := (cauFull samples s.emb.trim j.emboss).flags
    s.embossCompute j samples = { s with
      emb := { s.emb with acc := [], flags := s.emb.flags.latch f }
      lnk := s.lnk.raised (if f.atLimit then [.embossAlarm] else []) } := by
  unfold State.embossCompute
  dsimp only
  rw [train, State.latchEmboss_eq]

/-- A full emboss accumulator that starts a train (R88). -/
theorem State.embossCompute_some {samples : List Int} {n : Nat} {c : Int}
    (train : (cauFull samples s.emb.trim j.emboss).train = some (n, c)) :
    let f := (cauFull samples s.emb.trim j.emboss).flags
    s.embossCompute j samples = State.startTrain { s with
      emb := { s.emb with
        acc := [], flags := s.emb.flags.latch f, train := some ⟨s.emb.trim, c⟩, trim := s.emb.trim + c, lastC := some c
        phase := .inFlight }
      lnk := s.lnk.raised (if f.atLimit then [.embossAlarm] else []) } 8 n c j.emboss.rate := by
  unfold State.embossCompute
  dsimp only
  rw [train, State.latchEmboss_eq]
  rfl

/-- The emboss block once the window w has taken a sample e and the windows stand as given (R85, R87). -/
def sampledEmb (s : State) (j : Job) (windows : List EmbWindow) (w : EmbWindow) (e : Int) : Emb :=
  { s.emb with
    windows := windows, missCount := 0, reg := if e.natAbs ≤ j.tolEm then .inRegister else .offRegister
    lastSample := some (e, w.index) }

/-- A sample that is offered joins the correction when the register state before the edge and the record make it eligible. -/
def eligibleSample (s : State) (w : EmbWindow) : Prop :=
  (s.emb.reg = .inRegister ∨ s.emb.reg = .offRegister) ∧ w.kind = .marked

/-- A taken index edge is offered to the correction phase (R85, R88). -/
theorem State.indexEdge_eq {before after : List EmbWindow} (is : s.emb.windows = before ++ w :: after)
    (takes : TakesIndex j x w) (earlier : ∀ w' ∈ before, ¬TakesIndex j x w') [Decidable (eligibleSample s w)] :
    s.indexEdge j x = State.embossOffer
      { s with emb := sampledEmb s j (before ++ { w with sample := some (ahead x w.expected) } :: after) w (ahead x w.expected) }
      j (ahead x w.expected) (decide (eligibleSample s w)) := by
  have eligible : ((s.emb.reg == .inRegister || s.emb.reg == .offRegister) && w.kind == .marked) =
      decide (eligibleSample s w) := by
    refine Bool.eq_iff_iff.mpr ?_
    rw [decide_eq_true_iff]
    simp [eligibleSample]
  unfold State.indexEdge
  rw [is, takeIndex_first takes earlier]
  dsimp only
  rw [← eligible]
  rfl

/-- What an offered sample leaves of the emboss block (R88, R89). -/
theorem State.embossOffer_emb (s : State) (j : Job) (e : Int) (b : Bool) :
    let t := s.embossOffer j e b
    t.emb = { s.emb with
      phase := t.emb.phase, acc := t.emb.acc, flags := t.emb.flags, trim := t.emb.trim, train := t.emb.train
      lastC := t.emb.lastC } := by
  intro t
  have is : t = s.embossOffer j e b := rfl
  unfold State.embossOffer at is
  split at is
  · rw [is]
  · rw [is]
  · split at is
    · dsimp only at is
      split at is
      · rw [is]
      · cases train : (cauFull (s.emb.acc ++ [e]) s.emb.trim j.emboss).train with
        | none => rw [is, State.embossCompute_none train]
        | some r =>
          rw [is, State.embossCompute_some train]
          rfl
    · rw [is]

section
variable {e : Int} {b : Bool}

theorem State.embossOffer_inFlight (phase : s.emb.phase = .inFlight) : s.embossOffer j e b = s := by
  unfold State.embossOffer
  rw [phase]

theorem State.embossOffer_settling (phase : s.emb.phase = .settling) :
    s.embossOffer j e b = { s with emb := { s.emb with phase := .idle } } := by
  unfold State.embossOffer
  rw [phase]

theorem State.embossOffer_refused (phase : s.emb.phase = .idle) : s.embossOffer j e false = s := by
  unfold State.embossOffer
  rw [phase]
  rfl

theorem State.embossOffer_joins (phase : s.emb.phase = .idle) (room : s.emb.acc.length + 1 < j.emboss.averaging) :
    s.embossOffer j e true = { s with emb := { s.emb with acc := s.emb.acc ++ [e] } } := by
  unfold State.embossOffer
  rw [phase]
  dsimp only
  rw [if_pos rfl, if_pos (by simpa using room)]

theorem State.embossOffer_fills (phase : s.emb.phase = .idle) (full : j.emboss.averaging ≤ s.emb.acc.length + 1) :
    s.embossOffer j e true = s.embossCompute j (s.emb.acc ++ [e]) := by
  unfold State.embossOffer
  rw [phase]
  dsimp only
  rw [if_pos rfl, if_neg (by simpa using full)]

end

end

theorem exec_indexEdge (s : State) : exec .indexEdge s = .next (s.withJob fun j =>
    if s.running && j.embossOn && !s.reverse then s.indexEdge j s.wpu.h else s).endOfEvent := rfl

/-- INDEX_EDGE where no window takes the edge (R4, R85). -/
theorem State.indexEdge_stray {s : State} {j : Job} (ignored : s.running = false ∨ j.embossOn = false ∨ s.reverse = true ∨
    ∀ w ∈ s.emb.windows, ¬TakesIndex j s.wpu.h w) :
    (if (s.running && j.embossOn && !s.reverse) = true then s.indexEdge j s.wpu.h else s) = s := by
  rcases ignored with h | h | h | h
  · simp [h]
  · simp [h]
  · simp [h]
  · split
    · unfold State.indexEdge
      rw [takeIndex_none h]
    · rfl

/-- INDEX_EDGE where a window takes the edge (R85 to R88, R95). -/
theorem indexEdge_takes {s t : State} {j : Job} (running : s.running = true) (on : j.embossOn = true)
    (forward : s.reverse = false) {before after : List EmbWindow} {w : EmbWindow}
    (is : s.emb.windows = before ++ w :: after) (takes : TakesIndex j s.wpu.h w)
    (earlier : ∀ w' ∈ before, ¬TakesIndex j s.wpu.h w') (job : s.lsc.job = some j) (runs : exec .indexEdge s = .next t) :
    let e := ahead s.wpu.h w.expected
    let v : State := { s with emb := sampledEmb s j (before ++ { w with sample := some e } :: after) w e }
    ∃ b, (b = true ↔ eligibleSample s w) ∧ t = (v.embossOffer j e b).endOfEvent := by
  intro e v
  have := Classical.propDecidable (eligibleSample s w)
  refine ⟨decide (eligibleSample s w), decide_eq_true_iff, ?_⟩
  rw [exec_indexEdge, State.withJob_some _ job, if_pos (by simp [running, on, forward]), State.indexEdge_eq is takes earlier] at runs
  exact (Host.Outcome.next.inj runs).symm

/-! ### Window expiries and statuses -/

section
variable {s : State} {j : Job}

/-- A missed window (R86, R87). -/
theorem State.embossMiss_eq (s : State) (j : Job) :
    let n := if s.emb.missCount + 1 < j.embossMissLimit then s.emb.missCount + 1 else j.embossMissLimit
    (s.emb.reg = .lost ∨ s.emb.missCount + 1 < j.embossMissLimit →
      s.embossMiss j = { s with emb := { s.emb with missCount := n } }) ∧
    (s.emb.reg ≠ .lost → j.embossMissLimit ≤ s.emb.missCount + 1 →
      s.embossMiss j = { s with
        emb := { s.emb with missCount := n, reg := .lost, acc := [] }, lnk := s.lnk.raised [.embossAlarm] }) := by
  intro n
  have least : min (s.emb.missCount + 1) j.embossMissLimit = n := by
    simp only [n]
    split <;> omega
  unfold State.embossMiss
  dsimp only
  rw [least]
  refine ⟨fun few => if_neg fun h => ?_, fun was limit => ?_⟩
  · obtain ⟨was, limit⟩ := Bool.and_eq_true_iff.mp h
    have limit := of_decide_eq_true limit
    rcases few with lost | few
    · simp [lost] at was
    · simp only [n, if_pos few] at limit
      omega
  · have reaches : j.embossMissLimit ≤ n := by simp only [n, if_neg (Nat.not_lt.mpr limit), Nat.le_refl]
    rw [if_pos (by simp [was, reaches])]
    rfl

/-- A record whose emboss status is due to be written, next standing after it (R91). -/
def EmbossDue (s : State) (j : Job) (r next : RepeatRecord) : Prop :=
  r.emboss = .notReached ∧ reached s.wpu.h (fwd next.origin j.dEm) = true

theorem embossWriteDue_none {records : List RepeatRecord}
    (idle : ∀ before r next after, records = before ++ r :: next :: after → ¬EmbossDue s j r next) :
    embossWriteDue s j records = none := by
  refine Classical.byContradiction fun some_ => ?_
  obtain ⟨before, r, next, after, is, due⟩ := (embossWriteDue_isSome_iff j records).mp (Option.isSome_iff_ne_none.mpr some_)
  exact idle before r next after is due

theorem embossWriteDue_first {r next : RepeatRecord} (due : EmbossDue s j r next) (after : List RepeatRecord) :
    ∀ before : List RepeatRecord, (∀ b x y a, before ++ [r] = b ++ x :: y :: a → ¬EmbossDue s j x y) →
      embossWriteDue s j (before ++ r :: next :: after) = some r := by
  intro before
  induction before with
  | nil =>
    intro _
    show embossWriteDue s j (r :: next :: after) = _
    unfold embossWriteDue
    rw [if_pos (by simp [due.1, State.at, due.2])]
  | cons x before ih =>
    intro earlier
    have rest := ih fun b y z a is => earlier (x :: b) y z a (by rw [List.cons_append, is]; rfl)
    have skips (y : RepeatRecord) (l : List RepeatRecord) (apart : ¬EmbossDue s j x y) :
        embossWriteDue s j (x :: y :: l) = embossWriteDue s j (y :: l) := by
      rw [embossWriteDue, if_neg fun h => apart (by simpa [EmbossDue, State.at] using h)]
    cases before with
    | nil => exact (skips r _ (earlier [] x r [] rfl)).trans rest
    | cons y before => exact (skips y _ (earlier [] x y (before ++ [r]) rfl)).trans rest

/-- The status that the writing gives a record (R91). -/
theorem State.embossMark_spec (s : State) (j : Job) (r : RepeatRecord) :
    let m := s.embossMark j r
    (j.embossOn = false ∨ s.emb.nip ≠ .closed ∨ s.emb.closedSince = none → m = .lifted) ∧
    (∀ c, j.embossOn = true → s.emb.nip = .closed → s.emb.closedSince = some c →
      (0 < ahead c (fwd r.origin j.dEm) → m = .lifted) ∧
      (ahead c (fwd r.origin j.dEm) ≤ 0 →
        m = match s.emb.reg with
          | .inRegister => .inRegister
          | .offRegister => .offRegister
          | .seeking | .lost => .unknown)) := by
  intro m
  refine ⟨fun lifted => ?_, fun c on nip since => ⟨fun later => ?_, fun met => ?_⟩⟩
  · show s.embossMark j r = _
    unfold State.embossMark
    split
    · rfl
    next on =>
      split
      next c nip since =>
        rcases lifted with h | h | h
        · simp [h] at on
        · exact absurd nip h
        · rw [since] at h
          cases h
      · rfl
  · show s.embossMark j r = _
    unfold State.embossMark
    rw [on, nip, since]
    exact if_pos later
  · show s.embossMark j r = _
    unfold State.embossMark
    rw [on, nip, since]
    dsimp only
    rw [if_neg (Int.not_lt.mpr met)]
    rfl

end

/-- Settles O44: an index edge, an expired window, and an emboss status that is due. -/
theorem indexEdgesWindowsAndStatus : Obligations.IndexEdgesWindowsAndStatus := by
  refine ⟨fun s j job => ⟨?_, ?_⟩, fun s j job => ?_⟩
  · refine ⟨_, exec_indexEdge s, frame_of_exec (exec_indexEdge s), fun ignored => ?_,
      fun running on forward before w after is takes earlier => ?_⟩
    · rw [State.withJob_some _ job, State.indexEdge_stray ignored]
      exact s.endOfEvent_nothing
    · obtain ⟨b, eligible, left⟩ := indexEdge_takes running on forward is takes earlier job (exec_indexEdge s)
      rw [left]
      intro e can
      let v : State := { s with emb := sampledEmb s j (before ++ { w with sample := some e } :: after) w e }
      have emb := v.embossOffer_emb j e b
      have keeps := State.endOfEvent_emb (v.embossOffer j e b)
      have refuses (no : ¬can) : b = false := by
        refine Classical.byContradiction fun yes => ?_
        exact no (eligible.mp (by simpa using yes))
      refine ⟨?_, ?_, ?_, ?_, ?_, fun unfilled => ?_, fun phase => ?_, fun phase => ?_, fun phase no => ?_,
        fun phase yes room => ?_, fun phase yes full => ?_⟩
      · rw [keeps, emb]
        rfl
      · rw [keeps, emb]
        rfl
      · rw [keeps, emb]
        rfl
      · rw [keeps, emb]
        rfl
      · rw [keeps, emb]
        rfl
      · refine State.endOfEvent_silent_of_eq _ _ ?_
        cases phase : s.emb.phase with
        | inFlight => rw [State.embossOffer_inFlight (s := v) phase]
        | settling => rw [State.embossOffer_settling (s := v) phase]
        | idle =>
          by_cases yes : can
          · have room : s.emb.acc.length + 1 < j.emboss.averaging := by
              refine Classical.byContradiction fun full => ?_
              exact unfilled ⟨phase, yes, Nat.not_lt.mp full⟩
            rw [eligible.mpr yes, State.embossOffer_joins (s := v) phase room]
          · rw [refuses yes, State.embossOffer_refused (s := v) phase]
      · rw [keeps, State.endOfEvent_stg, State.embossOffer_inFlight (s := v) phase]
        exact ⟨phase, rfl, rfl⟩
      · rw [keeps, State.endOfEvent_stg, State.embossOffer_settling (s := v) phase]
        exact ⟨rfl, rfl, rfl⟩
      · rw [keeps, State.endOfEvent_stg, refuses no, State.embossOffer_refused (s := v) phase]
        exact ⟨phase, rfl, rfl⟩
      · rw [keeps, State.endOfEvent_stg, eligible.mpr yes, State.embossOffer_joins (s := v) phase room]
        exact ⟨phase, rfl, rfl⟩
      · intro r
        have fills : v.embossOffer j e b = v.embossCompute j (s.emb.acc ++ [e]) := by
          rw [eligible.mpr yes]
          exact State.embossOffer_fills (s := v) phase full
        rw [keeps, State.endOfEvent_stg, State.endOfEvent_chan, fills]
        cases train : r.train with
        | none =>
          have none_ := State.embossCompute_none (s := v) (samples := s.emb.acc ++ [e]) train
          rw [none_]
          exact ⟨rfl, rfl, State.endOfEvent_silent _ _ _ rfl, fun _ => ⟨phase, rfl, rfl⟩, nofun⟩
        | some x =>
          have some_ := State.embossCompute_some (s := v) (samples := s.emb.acc ++ [e]) train
          rw [some_]
          refine ⟨rfl, rfl, State.endOfEvent_silent _ _ _ rfl, nofun, fun n c is => ?_⟩
          cases is
          exact ⟨rfl, rfl, rfl, rfl, State.chan_putChan_self _ _ _⟩
  · have taken := State.withJob_some (fun j =>
      match s.windowDue j with
      | some w =>
        let s := { s with emb := { s.emb with windows := s.emb.windows.drop 1 } }
        if w.sample.isSome then s else s.embossMiss j
      | none => s) job
    by_cases due : ∃ w rest, s.emb.windows = w :: rest ∧ reached s.wpu.h (fwd w.expected (j.wEm + 1)) = true
    · obtain ⟨w, rest, is, expired⟩ := due
      have due' : s.windowDue j = some w := by
        unfold State.windowDue
        rw [is]
        exact if_pos expired
      let v : State := { s with emb := { s.emb with windows := rest } }
      have first : ({ s with emb := { s.emb with windows := s.emb.windows.drop 1 } } : State) = v := by rw [is]; rfl
      have runs : exec .embossWindowExpiry s = .next _ := congrArg (fun u : State => Host.Outcome.next u.endOfEvent) taken
      rw [due'] at runs
      dsimp only at runs
      rw [first] at runs
      refine ⟨_, runs, frame_of_exec runs, fun early => ?_, fun w' rest' is' _ => ?_⟩
      · rw [early w rest is] at expired
        cases expired
      · cases is.symm.trans is'
        refine ⟨fun sampled => ?_, fun unsampled => ?_⟩
        · rw [if_pos (Option.isSome_iff_ne_none.mpr sampled), State.endOfEvent_emb]
          exact ⟨rfl, State.endOfEvent_silent_of_eq _ _ rfl⟩
        · intro n
          rw [if_neg (by simp [unsampled]), State.endOfEvent_emb]
          obtain ⟨few, limit⟩ := v.embossMiss_eq j
          refine ⟨fun h => ?_, fun was h => ?_⟩
          · rw [few h]
            exact ⟨rfl, State.endOfEvent_silent_of_eq _ _ rfl⟩
          · rw [limit was h]
            exact ⟨rfl, State.endOfEvent_silent _ _ _ rfl⟩
    · have due' : s.windowDue j = none := by
        unfold State.windowDue
        split
        next w rest is => exact if_neg fun expired => due ⟨w, rest, is, expired⟩
        next => rfl
      rw [due'] at taken
      have runs : exec .embossWindowExpiry s = .next s.endOfEvent :=
        congrArg (fun u : State => Host.Outcome.next u.endOfEvent) taken
      exact ⟨_, runs, frame_of_exec runs, fun _ => s.endOfEvent_nothing,
        fun w rest is expired => absurd ⟨w, rest, is, expired⟩ due⟩
  · have taken := State.withJob_some (fun j =>
      match embossWriteDue s j s.trk.records with
      | some r => s.updateRecord r.index fun x => x.markEmboss (s.embossMark j r)
      | none => s) job
    cases found : embossWriteDue s j s.trk.records with
    | none =>
      rw [found] at taken
      have runs : exec .embossStatusWrite s = .next s.endOfEvent :=
        congrArg (fun u : State => Host.Outcome.next u.endOfEvent) taken
      refine ⟨_, runs, s.endOfEvent_nothing.2, fun _ => s.endOfEvent_sameBut, fun before r next after is due earlier => ?_⟩
      rw [is, embossWriteDue_first due after before earlier] at found
      cases found
    | some r =>
      let u := s.updateRecord r.index fun x => x.markEmboss (s.embossMark j r)
      rw [found] at taken
      have runs : exec .embossStatusWrite s = .next u.endOfEvent :=
        congrArg (fun u : State => Host.Outcome.next u.endOfEvent) taken
      have frame : SameBut [.trk, .lnk] s u.endOfEvent := frame_of_exec runs
      refine ⟨_, runs, State.endOfEvent_silent_of_eq _ _ rfl, fun idle => ?_, fun before r' next after is due earlier => ?_⟩
      · rw [embossWriteDue_none idle] at found
        cases found
      · rw [is, embossWriteDue_first due after before earlier] at found
        cases found
        obtain ⟨lifted, judged⟩ := s.embossMark_spec j r
        rw [State.endOfEvent_trk]
        refine ⟨frame, rfl, rfl, s.embossMark j r, List.map_congr_left fun x _ => ?_, lifted, judged⟩
        by_cases same : x.index = r.index
        · by_cases fresh : x.emboss = .notReached
          · rw [if_pos same, if_pos ⟨same, fresh⟩]
            exact if_pos fresh
          · rw [if_pos same, if_neg fun h => fresh h.2]
            exact if_neg fresh
        · rw [if_neg same, if_neg fun h => same h.1]

end Sys2Proof.Machine
end

section
/-! PROOFS. The label channel at the end of an event, the examination of the log, the fold of a record (O39), and the
transfers of labels (O52). -/

namespace Sys2Proof.Machine

-- one proof at a time: the joined package would else open a thread for each of them
set_option Elab.async false

/-! ### Labels are built -/

theorem beBytes_one (n : Nat) : beBytes 1 n = [byteOf n] := by
  simp [beBytes, byteOf]

/-- The flag byte of a label record, bit by bit. -/
theorem presence_three (a b c : Bool) :
    presence [a, b, c] = (if a then 1 else 0) + (if b then 2 else 0) + (if c then 4 else 0) := by
  cases a <;> cases b <;> cases c <;> rfl

/-- The label record of an entry (R165). -/
theorem labelRecord_eq (j : Job) (e : Entry) : labelRecord j e = recordOf j e := by
  have grade : (e.grade.map Grade.code).getD 0 = match e.grade with
      | some .b => 1
      | some .reject => 2
      | _ => 0 := by
    cases e.grade with
    | none => rfl
    | some g => cases g <;> rfl
  have matchType : j.matchType.code = match j.matchType with
      | .straight => 0
      | .drop => 1 := by cases j.matchType <;> rfl
  unfold labelRecord recordOf labelBody
  dsimp only
  rw [grade, matchType, presence_three, beq_decides]
  simp only [beBytes_one, List.append_assoc, List.cons_append, List.nil_append] <;> rfl

/-- The label built for an entry (R165, R167). -/
def labelFor (j : Job) (e : Entry) : Label :=
  { seq := e.seq, printer := if e.spindle = some .b then .b else .a, roll := e.roll.getD 0, record := recordOf j e
    transfers := 0 }

/-- Of a list of entries those that a queue with room for n takes in (R167). -/
def takenOf (l : List Entry) (n : Nat) : List Entry := (l.filter fun e => e.label == .due && e.spindle.isSome).take n

/-- The state with labels at the tail of the queue and their entries QUEUED (R167). -/
def withTaken (s : State) (j : Job) (taken : List Entry) : State :=
  { s with
    lbc := { s.lbc with queue := s.lbc.queue ++ taken.map (labelFor j) }
    rlg := { s.rlg with log := s.rlg.log.map fun e =>
      if (taken.any fun x => x.seq == e.seq) = true then { e with label := .queued } else e } }

section
variable {s t u : State} {j : Job}

theorem withTaken_nil (s : State) (j : Job) : withTaken s j [] = s := by
  simp [withTaken]

theorem State.enqueueLabel_eq (s : State) (j : Job) {e : Entry} {k : Spindle} (spindle : e.spindle = some k) :
    s.enqueueLabel j e (printerAt k) = withTaken s j [e] := by
  have printer : printerAt k = if e.spindle = some .b then .b else .a := by
    rw [spindle]
    cases k <;> rfl
  have any (x : Entry) : ([e].any fun y => y.seq == x.seq) = true ↔ x.seq = e.seq := by
    rw [List.any_cons, List.any_nil, Bool.or_false, beq_iff_eq, eq_comm]
  unfold State.enqueueLabel State.updateEntry withTaken labelFor
  simp only [any, labelRecord_eq, printer, List.map_cons, List.map_nil]

theorem withTaken_cons (s : State) (j : Job) (e : Entry) (taken : List Entry) :
    withTaken (withTaken s j [e]) j taken = withTaken s j (e :: taken) := by
  have log : ((s.rlg.log.map fun x => if ([e].any fun y => y.seq == x.seq) = true then { x with label := .queued } else x).map
        fun x => if (taken.any fun y => y.seq == x.seq) = true then { x with label := .queued } else x) =
      s.rlg.log.map fun x => if ((e :: taken).any fun y => y.seq == x.seq) = true then { x with label := .queued } else x := by
    rw [List.map_map]
    refine List.map_congr_left fun x _ => ?_
    simp only [Function.comp_apply, List.any_cons, List.any_nil, Bool.or_false, Bool.or_eq_true]
    by_cases first : (e.seq == x.seq) = true
    · simp [first]
    · simp [first]
  unfold withTaken at log ⊢
  dsimp only at log ⊢
  rw [log, List.append_assoc]
  rfl

/-- The queue is filled from a list of entries (R167). -/
theorem fillQueue_foldl (j : Job) (l : List Entry) : ∀ s : State,
    l.foldl (fun (s : State) e =>
      match e.spindle with
      | some k => if e.label == .due && s.labelRoom then s.enqueueLabel j e (printerAt k) else s
      | none => s) s = withTaken s j (takenOf l (8 - s.lbc.queue.length)) := by
  induction l with
  | nil => exact fun s => by simp [takenOf, withTaken_nil]
  | cons e l ih =>
    intro s
    rw [List.foldl_cons, ih]
    by_cases due : e.label = .due ∧ e.spindle.isSome = true
    · obtain ⟨label, isSome⟩ := due
      obtain ⟨k, spindle⟩ := Option.isSome_iff_exists.mp isSome
      have passes : (e.label == .due && e.spindle.isSome) = true := by simp [label, spindle]
      rw [spindle]
      dsimp only
      by_cases room : s.lbc.queue.length < 8
      · have fits : (e.label == .due && s.labelRoom) = true := by simp [label, State.labelRoom, Config.labelCap, room]
        rw [if_pos fits, State.enqueueLabel_eq s j spindle, withTaken_cons]
        have less : 8 - s.lbc.queue.length = (8 - (withTaken s j [e]).lbc.queue.length) + 1 := by
          simp only [withTaken, List.map_cons, List.map_nil, List.length_append, List.length_cons, List.length_nil]
          omega
        unfold takenOf
        rw [less, List.filter_cons, if_pos passes, List.take_succ_cons]
      · have none_ : 8 - s.lbc.queue.length = 0 := by omega
        have full : ¬(e.label == .due && s.labelRoom) = true := by simp [State.labelRoom, Config.labelCap, room]
        rw [if_neg full, none_]
        simp [takenOf]
    · have same : (match e.spindle with
          | some k => if (e.label == .due && s.labelRoom) = true then s.enqueueLabel j e (printerAt k) else s
          | none => s) = s := by
        cases spindle : e.spindle with
        | none => rfl
        | some k =>
          refine if_neg fun h => due ⟨?_, by rw [spindle]; rfl⟩
          simpa using (Bool.and_eq_true_iff.mp h).1
      have skips : ¬(e.label == .due && e.spindle.isSome) = true := by simpa using due
      rw [same]
      unfold takenOf
      rw [List.filter_cons, if_neg skips]

/-- The state with the queue filled, as far as a job is in force (R167). -/
def filled (s : State) : State :=
  { s with
    lbc := { s.lbc with queue := s.lbc.queue ++ labelsBuilt s }
    rlg := { s.rlg with log := s.rlg.log.map fun e =>
      if ((takenIn s).any fun x => x.seq == e.seq) = true then { e with label := .queued } else e } }

theorem State.fillQueue_filled (s : State) : s.withJob s.fillQueue = filled s := by
  cases job : s.lsc.job with
  | none =>
    rw [State.withJob_none _ job]
    simp [filled, labelsBuilt, takenIn, job]
  | some j =>
    rw [State.withJob_some _ job]
    have taken : takenIn s = takenOf s.rlg.log (8 - s.lbc.queue.length) := by
      simp only [takenIn, job, Option.isSome_some, if_true]
      rfl
    have built : labelsBuilt s = (takenIn s).map (labelFor j) := by
      simp only [labelsBuilt, job]
      rfl
    unfold filled
    rw [built, taken]
    exact fillQueue_foldl j s.rlg.log s

/-! ### A transfer is chosen, and the timers run -/

/-- A label whose printer is ONLINE with READY high (R168). -/
def CanTransfer (s : State) (x : Label) : Prop := (s.printer x.printer).online = true ∧ s.readyLevel x.printer = true

theorem canTake_iff {x : Label} : s.canTake x.printer = true ↔ CanTransfer s x := by
  unfold State.canTake CanTransfer
  rw [Bool.and_eq_true]

/-- The oldest label that its printer can take is transferred (R168, R169). -/
theorem State.chooseTransfer_starts (idle : s.lbc.channel = none) {before after : List Label} {x : Label}
    (queue : s.lbc.queue = before ++ x :: after) (can : CanTransfer s x) (earlier : ∀ y ∈ before, ¬CanTransfer s y) :
    let sent := { x with transfers := x.transfers + 1 }
    s.chooseTransfer = { s with lbc := { s.lbc with
      queue := s.lbc.queue.map fun y => if y.seq = x.seq then sent else y, channel := some ⟨sent, false, 15680⟩ } } := by
  have found : s.lbc.queue.find? (fun x => s.canTake x.printer) = some x := by
    rw [queue]
    refine List.find?_eq_some_iff_append.mpr ⟨canTake_iff.mpr can, before, after, rfl, fun y member => ?_⟩
    simpa using mt canTake_iff.mp (earlier y member)
  unfold State.chooseTransfer
  rw [idle]
  dsimp only
  rw [found]
  rfl

theorem State.chooseTransfer_none (none_ : ∀ x ∈ s.lbc.queue, ¬CanTransfer s x) : s.chooseTransfer = s := by
  have nowhere : s.lbc.queue.find? (fun x => s.canTake x.printer) = none :=
    List.find?_eq_none.mpr fun x member => mt canTake_iff.mp (none_ x member)
  unfold State.chooseTransfer
  cases s.lbc.channel with
  | some c => rfl
  | none =>
    dsimp only
    rw [nowhere]

theorem State.chooseTransfer_busy {c : Transfer} (busy : s.lbc.channel = some c) : s.chooseTransfer = s := by
  unfold State.chooseTransfer
  rw [busy]

/-- What a choice of a transfer leaves as it is. -/
theorem State.chooseTransfer_keeps (s : State) :
    s.chooseTransfer = { s with lbc := { s.lbc with
      queue := s.chooseTransfer.lbc.queue, channel := s.chooseTransfer.lbc.channel } } := by
  unfold State.chooseTransfer
  split
  · rfl
  · split <;> rfl

/-- The timer of a printer as its four conditions in s have it (R172). -/
def timed (s : State) (p : Printer) : PrinterState :=
  { s.printer p with timer := if s.timerRuns p then some ((s.printer p).timer.getD 0) else none }

theorem State.refreshTimers_eq (s : State) : (s.refreshTimer .a).refreshTimer .b =
    { s with lbc := { s.lbc with printerA := timed s .a, printerB := timed s .b } } := rfl

theorem timerRuns_iff (s : State) (p : Printer) : s.timerRuns p = true ↔
    (s.printer p).online = true ∧ s.readyLevel p = false ∧ (∃ x ∈ s.lbc.queue, x.printer = p) ∧
      ∀ c, s.lbc.channel = some c → c.label.printer ≠ p := by
  unfold State.timerRuns State.transferring
  simp only [Bool.and_eq_true, Bool.not_eq_true', List.any_eq_true, beq_iff_eq, Option.any_eq_false, and_assoc,
    beq_eq_false_iff_ne, ne_eq]

/-- What the label channel does at the end of an event (R167, R168, R172). -/
theorem State.labelWork_works (u : State) : ChannelWorks u u.labelWork := by
  let f := filled u
  let c := f.chooseTransfer
  have is : u.labelWork = { c with lbc := { c.lbc with printerA := timed c .a, printerB := timed c .b } } := by
    unfold State.labelWork
    rw [State.fillQueue_filled]
    exact State.refreshTimers_eq c
  have keeps : c = { f with lbc := { f.lbc with queue := c.lbc.queue, channel := c.lbc.channel } } := f.chooseTransfer_keeps
  have printer (p : Printer) : c.printer p = u.printer p := by
    rw [keeps]
    cases p <;> rfl
  have level (p : Printer) : c.readyLevel p = u.readyLevel p := by
    rw [keeps]
    cases p <;> rfl
  have able (x : Label) : CanTransfer f x ↔ (u.printer x.printer).online = true ∧ u.readyLevel x.printer = true := by
    unfold CanTransfer
    cases x.printer <;> rfl
  have counts : (c.lbc.accepted, c.lbc.rejections, c.lbc.dropped) = (u.lbc.accepted, u.lbc.rejections, u.lbc.dropped) ∧
      (c.lbc.jams, c.lbc.timeouts, c.lbc.unattached) = (u.lbc.jams, u.lbc.timeouts, u.lbc.unattached) := by
    rw [keeps]
    exact ⟨rfl, rfl⟩
  rw [is]
  refine ⟨by show c.rlg = _; rw [keeps]; rfl, fun x busy => ?_, fun idle => ⟨fun before x after queue can earlier => ?_, fun none_ => ?_⟩,
    fun p => ⟨(timed c p).timer, ?_, fun runs => ?_, fun stops => ?_⟩, counts.1, counts.2⟩
  · have same : c = f := State.chooseTransfer_busy (s := f) busy
    rw [same]
    exact ⟨busy, rfl⟩
  · have starts : c = _ := State.chooseTransfer_starts (s := f) idle queue ((able x).mpr can)
      fun y member => mt (able y).mp (earlier y member)
    rw [starts]
    exact ⟨rfl, rfl⟩
  · have same : c = f := State.chooseTransfer_none (s := f) fun x member => mt (able x).mp (none_ x member)
    rw [same]
    exact ⟨idle, rfl⟩
  · rw [← printer p]
    cases p <;> rfl
  · rw [← printer p, ← level p] at runs
    show (if c.timerRuns p then some ((c.printer p).timer.getD 0) else none) = _
    rw [if_pos ((timerRuns_iff c p).mpr runs), printer p]
  · rw [← printer p, ← level p] at stops
    exact if_neg (mt (timerRuns_iff c p).mp stops)

/-- What the channel does is read from the log, the channel's block, the inputs and the job. -/
theorem channelWorks_congr {u' t' : State} (works : ChannelWorks u t) (rlg : u'.rlg = u.rlg) (lbc : u'.lbc = u.lbc)
    (pins : u'.pins = u.pins) (job : u'.lsc.job = u.lsc.job) (rlg' : t'.rlg = t.rlg) (lbc' : t'.lbc = t.lbc) :
    ChannelWorks u' t' := by
  have taken : takenIn u' = takenIn u := by
    unfold takenIn
    rw [job, rlg, lbc]
  have built : labelsBuilt u' = labelsBuilt u := by
    unfold labelsBuilt
    rw [job, taken]
  have printer (p : Printer) : u'.printer p = u.printer p := by
    cases p <;> simp only [State.printer, lbc]
  have level (p : Printer) : u'.readyLevel p = u.readyLevel p := by
    cases p <;> simp only [State.readyLevel, pins]
  have printer' (p : Printer) : t'.printer p = t.printer p := by
    cases p <;> simp only [State.printer, lbc']
  unfold ChannelWorks at works ⊢
  simp only [taken, built, printer, level, printer', rlg, lbc, rlg', lbc']
  exact works

theorem channelWorks_endOfEvent {v : State} (works : ChannelWorks u v) : ChannelWorks u v.endOfEvent :=
  channelWorks_congr works rfl rfl rfl rfl v.endOfEvent_rlg v.endOfEvent_lbc

/-! ### The log is examined -/

theorem mayCloseEntry_eq (s : State) : s.mayCloseEntry =
    fun e => e.state == .cut && e.stop.any fun x => s.trk.records.all fun y => reached y.origin x := by
  funext e
  unfold State.mayCloseEntry
  cases e.stop <;> rfl

theorem State.labelWork_sameBut (s : State) : SameBut [.lbc, .rlg] s s.labelWork := by
  let f := filled s
  have keeps : f.chooseTransfer = { f with lbc := { f.lbc with
    queue := f.chooseTransfer.lbc.queue, channel := f.chooseTransfer.lbc.channel } } := f.chooseTransfer_keeps
  have is : s.labelWork = { f.chooseTransfer with lbc := { f.chooseTransfer.lbc with
      printerA := timed f.chooseTransfer .a, printerB := timed f.chooseTransfer .b } } := by
    unfold State.labelWork
    rw [State.fillQueue_filled]
    exact State.refreshTimers_eq f.chooseTransfer
  rw [is, keeps]
  intro b hb
  cases b <;> first | rfl | simp at hb

/-- The log is examined (R140, R144, R167). -/
theorem State.examineLog_spec (s : State) (j : Job) : ∃ told, LogExamined j s (s.examineLog j) told ∧
    Tells s (s.examineLog j) told ∧ SameBut [.rlg, .bat, .shu, .lbc, .lnk] s (s.examineLog j) := by
  let closing := s.rlg.log.filter s.mayCloseEntry
  have filter : closing = s.rlg.log.filter fun e =>
      e.state == .cut && e.stop.any fun x => s.trk.records.all fun y => reached y.origin x := by
    rw [← mayCloseEntry_eq]
  have frame : SameBut [.rlg, .bat, .shu, .lbc, .lnk] s (s.examineLog j) := (s.examineLog_affects j).1.mono (by decide)
  by_cases none_ : closing = []
  · have is : s.examineLog j = s := if_pos (List.isEmpty_iff.mpr none_)
    refine ⟨[], ⟨fun _ => ⟨?_, rfl⟩, fun h => absurd (filter ▸ none_) h⟩, .nothing (by rw [is]), frame⟩
    rw [is]
    exact SameBut.refl _ s
  · let closed := closing.foldl (fun u e => u.closeEntry j e) s
    have is : s.examineLog j = (closed.raiseNotice .rollsClosed).labelWork :=
      if_neg fun h => none_ (List.isEmpty_iff.mp h)
    obtain ⟨raised, lnk⟩ := (affects_foldl (bs := [.rlg, .bat, .shu]) (fun (u : State) e => u.closeEntry j e)
      (fun u e => u.closeEntry_affects j e) closing s).2
    have work := (closed.raiseNotice .rollsClosed).labelWork_sameBut
    refine ⟨.rollsClosed :: raised, ⟨fun h => absurd (filter.trans h) none_, fun _ => ?_⟩, ?_, frame⟩
    · rw [← filter]
      refine ⟨?_, ?_, raised, State.silent_of_raised lnk, rfl⟩
      · rw [is]
        exact channelWorks_congr (closed.raiseNotice .rollsClosed).labelWork_works rfl rfl rfl rfl rfl rfl
      · rw [is]
        have told := (closed.raiseNotice_affects .rollsClosed).1
        exact (told.mono (by decide)).trans (work.mono (by decide))
    · refine ⟨raised ++ [.rollsClosed], ?_, fun n => by simp [or_comm]⟩
      rw [is, work.lnk (by decide), ← Lnk.raised_append]
      show closed.lnk.raised [.rollsClosed] = _
      rw [show closed.lnk = _ from lnk]

theorem logExamined_sameBut {told : List Notice} {t' : State} (h : LogExamined j s t told) (same : SameBut [.lnk] t t') :
    LogExamined j s t' told := by
  refine ⟨fun none_ => ⟨(h.1 none_).1.trans same, (h.1 none_).2⟩, fun some_ => ?_⟩
  obtain ⟨works, frame, raised⟩ := h.2 some_
  exact ⟨channelWorks_congr works rfl rfl rfl rfl (same.rlg (by decide)) (same.lbc (by decide)),
    frame.trans (same.mono (by decide)), raised⟩

/-! ### The head record folds -/

/-- A folded record is counted (R138); a shade state PENDING counts as one without a reading (R12). -/
theorem Entry.fold_eq (r : RepeatRecord) (x : Entry) : x.fold r.forFold = foldedEntry r x := by
  have inc (p : Prop) [Decidable p] (n : Nat) : (if p then n + 1 else n) = n + if decide p = true then 1 else 0 := by
    by_cases h : p <;> simp [h]
  have joined (f : Int → Int → Int) (held : Option Shade) (a : Shade) :
      shadeWith f held a = some ((held.map fun v => ⟨f v.l a.l, f v.a a.a, f v.b a.b⟩).getD a) := by
    cases held <;> rfl
  have counted (shade : Option Shade) (state : ShadeState) : Entry.fold x { r with shadeState := state, shade := shade } =
      foldedEntry { r with shadeState := state, shade := shade } x := by
    unfold Entry.fold foldedEntry Entry.addReading
    dsimp only
    rw [inc (r.cls = .inside), inc (r.cls = .outside), inc (r.cls = .unknown), inc (r.emboss = .inRegister),
      inc (r.emboss = .offRegister), inc (r.emboss = .lifted), inc (r.emboss = .unknown)]
    have larger (a b : Int) : (if b.natAbs < a.natAbs then some a else some b) = some (if b.natAbs < a.natAbs then a else b) :=
      (apply_ite some _ _ _).symm
    cases r.worst <;> cases x.worst <;> cases state <;> cases shade <;> simp only [joined, larger]
  by_cases pending : r.shadeState = .pending
  · have folds : r.forFold = { r with shadeState := .absent, shade := none } := if_pos pending
    have same : foldedEntry { r with shadeState := .absent, shade := none } x = foldedEntry r x := by
      unfold foldedEntry
      rw [pending]
    rw [folds, counted, same]
  · have folds : r.forFold = r := if_neg pending
    rw [folds]
    exact counted r.shade r.shadeState

theorem State.foldInto_changed (s : State) (r : RepeatRecord) :
    EntryChanged s (s.foldInto r) r.origin (foldedEntry r) ∧ SameBut [.rlg] s (s.foldInto r) :=
  s.updateContaining_changed r.origin (Entry.fold_eq r)

end

/-- Settles O39: the head record folds, and the entries it kept open close. -/
theorem headRecordFoldsIntoItsEntry : Obligations.HeadRecordFoldsIntoItsEntry := by
  intro s j job
  have taken := State.withJob_some (fun j => if s.foldDue j then s.foldHead j else s) job
  by_cases due : s.foldDue j = true
  · have runs : exec .recordFold s = .next (s.foldHead j).endOfEvent :=
      congrArg (fun u : State => Host.Outcome.next u.endOfEvent) (taken.trans (if_pos due))
    refine ⟨_, runs, fun early => ?_, fun r next rest is reaches => ?_⟩
    · unfold State.foldDue at due
      split at due
      next r next rest is =>
        rw [State.at, early r next rest is] at due
        cases due
      next => cases due
    · let v : State := { s with trk := { s.trk with records := next :: rest } }
      let counted := v.foldInto r
      have fold : s.foldHead j = counted.examineLog j := by
        unfold State.foldHead
        rw [is]
      obtain ⟨changed, log⟩ := v.foldInto_changed r
      obtain ⟨told, examined, tells, frame⟩ := counted.examineLog_spec j
      have ends := (counted.examineLog j).endOfEvent_sameBut
      have first : SameBut [.trk, .rlg] s counted := by
        have trk : SameBut [.trk] s v := by
          intro b hb
          cases b <;> first | rfl | simp at hb
        exact (trk.mono (by decide)).trans (log.mono (by decide))
      have kept : counted.trk = v.trk := log.trk (by decide)
      rw [fold]
      have trk : (counted.examineLog j).endOfEvent.trk = v.trk := by
        rw [State.endOfEvent_trk, frame.trk (by decide), kept]
      refine ⟨trk, ?_, counted, told, ?_, kept.trans trk.symm, first, logExamined_sameBut examined ends, ?_⟩
      · exact ((first.mono (by decide)).trans (frame.mono (by decide))).trans (ends.mono (by decide))
      · exact changed
      · obtain ⟨raised, lnk, same⟩ := tells
        exact Tells.silent ⟨raised, by rw [lnk, first.lnk (by decide)], same⟩
  · have runs : exec .recordFold s = .next s.endOfEvent :=
      congrArg (fun u : State => Host.Outcome.next u.endOfEvent) (taken.trans (if_neg due))
    refine ⟨_, runs, fun _ => s.endOfEvent_nothing, fun r next rest is reaches => absurd ?_ due⟩
    unfold State.foldDue
    rw [is]
    exact reaches

end Sys2Proof.Machine
end

section
/-! PROOFS. The label channel moves: READY levels, verdicts, timeouts and APPLIED edges (O52). -/

namespace Sys2Proof.Machine

-- one proof at a time: the joined package would else open a thread for each of them
set_option Elab.async false

section
variable {s u : State}

theorem withPrinter_eq (s : State) (p : Printer) (x : PrinterState) : withPrinter s p x = s.putPrinter p x := by
  cases p <;> rfl

/-- A place joins the end of a sent list (R170). -/
theorem placeJoins_appendSent (sent : List (Option (BitVec 32))) (place : Option (BitVec 32)) :
    PlaceJoins sent place (appendSent sent place) := by
  refine ⟨fun room => if_pos room, fun full => ⟨fun before after is attached => ?_, fun attached oldest rest is => ?_⟩⟩
  · have holds : sent.contains none = true := by simp [is]
    have erased : sent.erase none = before ++ after := by
      rw [is, List.erase_append_right _ fun member => attached none member rfl, List.erase_cons_head]
    unfold appendSent
    rw [if_neg (show ¬sent.length < Config.sentCap from Nat.not_lt.mpr full), if_pos holds, erased]
  · have holds : ¬sent.contains none = true := by simpa using fun member => attached none member rfl
    unfold appendSent
    rw [if_neg (show ¬sent.length < Config.sentCap from Nat.not_lt.mpr full), if_neg holds, is]
    rfl

/-- What the channel does at the end of an event that changed neither the line nor its job. -/
theorem State.labelWork_event {ns : List Notice} (lsc : u.lsc = s.lsc) (lnk : u.lnk = s.lnk.raised ns) :
    ChannelWorks u u.labelWork.endOfEvent ∧ u.labelWork.endOfEvent.lsc = s.lsc ∧ Silent s u.labelWork.endOfEvent ns := by
  have work := u.labelWork_sameBut
  refine ⟨channelWorks_endOfEvent u.labelWork_works, ?_, State.endOfEvent_silent _ _ _ ?_⟩
  · rw [State.endOfEvent_lsc, work.lsc (by decide), lsc]
  · rw [work.lnk (by decide), lnk]

/-! ### Verdicts -/

theorem labelAccepted_eq (s : State) (x : Label) : s.labelAccepted x false =
    let q := s.printer x.printer
    let out := dequeued (withLabel s x.seq .sent) x.seq
    let u := withPrinter out x.printer { q with sent := appendSent q.sent (some x.seq), rejects := 0 }
    { u with lbc := { u.lbc with accepted := grown s.lbc.accepted } } := by
  obtain ⟨seq, printer, roll, record, transfers⟩ := x
  cases printer <;> rfl

theorem State.labelAccepted_withdrawn (s : State) (x : Label) : s.labelAccepted x true =
    withPrinter s x.printer { s.printer x.printer with sent := appendSent (s.printer x.printer).sent none } :=
  (withPrinter_eq _ _ _).symm

/-- A rejection that is not the third in a row (R171). -/
theorem labelRejected_again {x : Label} (few : (s.printer x.printer).rejects + 1 < 3) : s.labelRejected x false =
    let q := s.printer x.printer
    withPrinter { s with lbc := { s.lbc with rejections := grown s.lbc.rejections } } x.printer
      { q with rejects := q.rejects + 1 } := by
  obtain ⟨seq, printer, roll, record, transfers⟩ := x
  cases printer <;> exact if_pos few

/-- The third rejection (R171). -/
theorem labelRejected_drops {x : Label} (third : 3 ≤ (s.printer x.printer).rejects + 1) : s.labelRejected x false =
    let q := s.printer x.printer
    let counted : State := { s with lbc := { s.lbc with rejections := grown s.lbc.rejections } }
    let out := dequeued (withLabel counted x.seq .missing) x.seq
    let u := withPrinter out x.printer { q with rejects := 0, lastFault := some .dropped }
    ({ u with lbc := { u.lbc with dropped := grown s.lbc.dropped } } : State).raiseNotice (.labelFault x.printer) := by
  obtain ⟨seq, printer, roll, record, transfers⟩ := x
  cases printer <;> exact if_neg (Nat.not_lt.mpr third)

/-- A printer goes OFFLINE (R172). -/
theorem State.printerOffline_spec (s : State) (p : Printer) (why : PrinterFault) :
    let u := withPrinter s p { s.printer p with online := false, lastFault := some why }
    let y := s.printerOffline p why
    SameBut [.lsc, .emb, .lnk] u y ∧ y.lsc = (s.raiseCause .printerOffline).lsc ∧
      y.lnk = s.lnk.raised (.labelFault p :: causeTold s .printerOffline) := by
  intro u y
  let v : State := u.raiseNotice (.labelFault p)
  have is : y = v.raiseCause .printerOffline := by
    show s.printerOffline p why = _
    simp only [v, u, withPrinter_eq]
    rfl
  have lsc : v.lsc = s.lsc := by cases p <;> rfl
  have lnk : v.lnk = s.lnk.raised [.labelFault p] := by cases p <;> rfl
  have told := (u.raiseNotice_affects (.labelFault p)).1
  refine ⟨?_, ?_, ?_⟩
  · rw [is]
    exact (told.mono (by decide)).trans ((v.raiseCause_affects .printerOffline).1.mono (by decide))
  · rw [is, State.raiseCause_lsc, State.raiseCause_lsc, lsc]
  · have same : causeTold v .printerOffline = causeTold s .printerOffline := by
      unfold causeTold
      rw [lsc]
    rw [is, (v.raiseCause_spec .printerOffline).2, lnk, same, Lnk.raised_append]
    rfl

/-- A printer goes OFFLINE, and the channel goes on (R172). -/
theorem State.printerOffline_event (s : State) (p : Printer) (why : PrinterFault) :
    let t := (s.printerOffline p why).labelWork.endOfEvent
    ChannelWorks (withPrinter s p { s.printer p with online := false, lastFault := some why }) t ∧
      t.lsc = (s.raiseCause .printerOffline).lsc ∧
      ∀ l, (s.half l).mask.getLsbD 5 = true → (t.half l).Shows (.labelFault p) := by
  intro t
  obtain ⟨frame, lsc, lnk⟩ := s.printerOffline_spec p why
  have work := (s.printerOffline p why).labelWork_sameBut
  have job : (s.printerOffline p why).lsc.job = s.lsc.job := by
    rw [lsc, State.raiseCause_lsc, Lsc.raised_job]
  refine ⟨channelWorks_congr (channelWorks_endOfEvent (s.printerOffline p why).labelWork_works) (frame.rlg (by decide)).symm
    (frame.lbc (by decide)).symm (frame.pins (by decide)).symm ?_ rfl rfl, ?_, fun l enabled => ?_⟩
  · rw [job]
    cases p <;> rfl
  · rw [State.endOfEvent_lsc, work.lsc (by decide), lsc]
  · have tells : (s.printerOffline p why).labelWork.lnk = s.lnk.raised (.labelFault p :: causeTold s .printerOffline) := by
      rw [work.lnk (by decide), lnk]
    exact (State.endOfEvent_silent s _ _ tells).shows List.mem_cons_self l enabled

theorem State.labelPort_eq (s : State) : s.labelPort = match s.lbc.channel with
    | none => { selectA := false, selectB := false, clock := .low, dataOut := .low }
    | some tr => { selectA := tr.label.printer == .a, selectB := tr.label.printer == .b, clock := .shifting,
                   dataOut := .shifting } := by
  unfold State.labelPort State.transferring
  cases s.lbc.channel <;> rfl

end

/-- The state whose channel is idle. -/
def State.freed (s : State) : State := { s with lbc := { s.lbc with channel := none } }

/-- A verdict byte read at the end of a transfer (R169). -/
theorem exec_labelTransferEnd {s : State} {tr : Transfer} (busy : s.lbc.channel = some tr) (b : Byte) :
    exec (.labelTransferEnd b) s = .next ((match verdictOf b with
      | .accepted => s.freed.labelAccepted tr.label tr.withdrawn
      | .rejected => s.freed.labelRejected tr.label tr.withdrawn
      | .jammed => s.freed.labelJammed tr.label).labelWork).endOfEvent := by
  show Host.Outcome.next (State.endOfEvent (match s.lbc.channel with
    | some t => s.transferEnded t b
    | none => s)) = _
  rw [busy]
  rfl

theorem putPrinter_keeps (s : State) (p : Printer) (x : PrinterState) :
    (s.putPrinter p x).lsc = s.lsc ∧ (s.putPrinter p x).lnk = s.lnk := by
  cases p <;> exact ⟨rfl, rfl⟩

/-- An APPLIED edge settles an attached place (R174). -/
theorem State.labelApplied_attached {s : State} {p : Printer} {seq : BitVec 32} {rest : List (Option (BitVec 32))}
    (sent : (s.printer p).sent = some seq :: rest) : s.labelApplied p =
      (s.putPrinter p { s.printer p with sent := rest }).updateEntry seq fun e => { e with label := .applied } := by
  unfold State.labelApplied
  rw [sent]

/-- An APPLIED edge at an unattached place (R174). -/
theorem State.labelApplied_unattached {s : State} {p : Printer} {rest : List (Option (BitVec 32))}
    (sent : (s.printer p).sent = none :: rest) : s.labelApplied p =
      let u := s.putPrinter p { s.printer p with sent := rest }
      { u with lbc := { u.lbc with unattached := grown u.lbc.unattached } } := by
  unfold State.labelApplied
  rw [sent]
  rfl

/-- Settles O52: READY levels, verdicts, timeouts and APPLIED edges move the label channel. -/
theorem labelsMoveThroughTheChannel : Obligations.LabelsMoveThroughTheChannel := by
  intro s
  refine ⟨fun idle => ?_, fun tr busy => ?_, fun p level => ?_, fun b idle => ?_, fun b tr busy => ?_, fun p => ?_, fun p => ?_⟩
  · rw [State.labelPort_eq, idle]
  · rw [State.labelPort_eq, busy]
  · let u : State := { s with pins := setReady s.pins p level }
    have pins : u.pins = match p with
        | .a => { s.pins with readyA := level }
        | .b => { s.pins with readyB := level } := by cases p <;> rfl
    have runs : exec (.printerReadyChange p level) s = .next u.labelWork.endOfEvent := rfl
    refine ⟨_, runs, ?_⟩
    have frame : SameBut [.pins] s u := by
      intro b hb
      cases b <;> first | rfl | simp at hb
    have work := u.labelWork_sameBut
    obtain ⟨works, -, silent⟩ := State.labelWork_event (s := s) (u := u) (ns := []) rfl rfl
    refine ⟨?_, channelWorks_congr works rfl rfl pins.symm rfl rfl rfl, ?_, silent⟩
    · exact (State.endOfEvent_pins _).trans ((work.pins (by decide)).trans pins)
    · exact ((frame.mono (by decide)).trans (work.mono (by decide))).trans (u.labelWork.endOfEvent_sameBut.mono (by decide))
  · have is : (match s.lbc.channel with
        | some t => s.transferEnded t b
        | none => s) = s := by rw [idle]
    have runs : exec (.labelTransferEnd b) s = .next s.endOfEvent :=
      congrArg (fun u : State => Host.Outcome.next u.endOfEvent) is
    exact ⟨_, runs, s.endOfEvent_nothing⟩
  · have runs := exec_labelTransferEnd busy b
    refine ⟨_, runs, frame_of_exec runs, ?_⟩
    intro x q free
    have free_ : s.freed = free := rfl
    have accepts (is : b = 0x06) : verdictOf b = .accepted := if_pos is
    have rejects (no : b ≠ 0x06) (jam : b ≠ 0x1A) : verdictOf b = .rejected := by
      unfold verdictOf
      rw [if_neg no, if_neg jam]
    have jams (is : b = 0x1A) : verdictOf b = .jammed := by
      rw [is]
      rfl
    refine ⟨fun is kept => ⟨_, placeJoins_appendSent _ _, ?_⟩, fun is withdrawn => ⟨_, placeJoins_appendSent _ _, ?_⟩,
      fun no jam withdrawn => ?_, fun no jam kept => ?_, fun is => ?_⟩
    · rw [accepts is, kept, free_]
      dsimp only
      rw [labelAccepted_eq]
      exact State.labelWork_event (ns := []) (by simp only [withPrinter_eq]; exact (putPrinter_keeps _ _ _).1)
        (by simp only [withPrinter_eq]; exact (putPrinter_keeps _ _ _).2)
    · rw [accepts is, withdrawn, free_]
      dsimp only
      rw [State.labelAccepted_withdrawn]
      exact State.labelWork_event (ns := []) (by simp only [withPrinter_eq]; exact (putPrinter_keeps _ _ _).1)
        (by simp only [withPrinter_eq]; exact (putPrinter_keeps _ _ _).2)
    · rw [rejects no jam, withdrawn]
      exact State.labelWork_event (u := free) (ns := []) rfl rfl
    · rw [rejects no jam, kept, free_]
      intro counted
      refine ⟨fun few => ?_, fun third => ?_⟩
      · dsimp only
        rw [labelRejected_again (s := free) (x := x) few]
        exact State.labelWork_event (ns := []) (by simp only [withPrinter_eq]; exact (putPrinter_keeps _ _ _).1)
          (by simp only [withPrinter_eq]; exact (putPrinter_keeps _ _ _).2)
      · dsimp only
        rw [labelRejected_drops (s := free) (x := x) third]
        let u := withPrinter (dequeued (withLabel counted x.seq .missing) x.seq) x.printer
          { q with rejects := 0, lastFault := some .dropped }
        have told : State.lnk (State.raiseNotice { u with lbc := { u.lbc with dropped := grown s.lbc.dropped } }
            (.labelFault x.printer)) = s.lnk.raised [.labelFault x.printer] := by
          show u.lnk.raised [.labelFault x.printer] = _
          simp only [u, withPrinter_eq]
          rw [(putPrinter_keeps _ _ _).2]
          rfl
        obtain ⟨works, lsc, silent⟩ := State.labelWork_event (s := s)
          (by show u.lsc = _; simp only [u, withPrinter_eq]; exact (putPrinter_keeps _ _ _).1) told
        exact ⟨channelWorks_congr works rfl rfl rfl rfl rfl rfl, lsc, silent⟩
    · rw [jams is]
      let v : State := { free with lbc := { free.lbc with jams := grown s.lbc.jams } }
      have is : s.freed.labelJammed tr.label = v.printerOffline x.printer .jammed := rfl
      dsimp only
      rw [is]
      obtain ⟨works, lsc, shows⟩ := v.printerOffline_event x.printer .jammed
      refine ⟨works, lsc.trans ?_, fun l enabled => shows l enabled⟩
      rw [State.raiseCause_lsc, State.raiseCause_lsc]
  · by_cases runs_ : (s.printer p).timer.isSome = true
    · let v : State := { s with lbc := { s.lbc with timeouts := grown s.lbc.timeouts } }
      have is : (if (s.printer p).timer.isSome = true then s.printerTimedOut p else s) =
          (v.printerOffline p .timeout).labelWork := if_pos runs_
      have runs : exec (.printerTimeout p) s = .next (v.printerOffline p .timeout).labelWork.endOfEvent :=
        congrArg (fun u : State => Host.Outcome.next u.endOfEvent) is
      obtain ⟨works, lsc, shows⟩ := v.printerOffline_event p .timeout
      refine ⟨_, runs, fun none_ => by simp [none_] at runs_, fun n _ => ⟨works, lsc.trans ?_, frame_of_exec runs,
        fun l enabled => shows l enabled⟩⟩
      rw [State.raiseCause_lsc, State.raiseCause_lsc]
    · have is : (if (s.printer p).timer.isSome = true then s.printerTimedOut p else s) = s := if_neg runs_
      have runs : exec (.printerTimeout p) s = .next s.endOfEvent :=
        congrArg (fun u : State => Host.Outcome.next u.endOfEvent) is
      exact ⟨_, runs, fun _ => s.endOfEvent_nothing, fun n some_ => by simp [some_] at runs_⟩
  · have runs : exec (.applied p) s = .next (s.labelApplied p).endOfEvent := rfl
    have ends := (s.labelApplied p).endOfEvent_sameBut
    cases sent : (s.printer p).sent with
    | nil =>
      have is : s.labelApplied p = s := by
        unfold State.labelApplied
        rw [sent]
      rw [is] at runs
      exact ⟨_, runs, s.endOfEvent_nothing.2, fun _ => s.endOfEvent_sameBut, nofun, nofun⟩
    | cons place rest =>
      have keeps := putPrinter_keeps s p { s.printer p with sent := rest }
      cases place with
      | some seq =>
        have is := State.labelApplied_attached sent
        refine ⟨_, runs, State.endOfEvent_silent_of_eq _ _ (by rw [is]; exact keeps.2), nofun, fun seq' rest' same => ?_, nofun⟩
        cases same
        rw [is] at ends ⊢
        rw [withPrinter_eq]
        exact ends
      | none =>
        have is := State.labelApplied_unattached sent
        have frame := (s.putPrinter_affects p { s.printer p with sent := rest }).1
        have first : SameBut [.lbc, .lnk] s (s.labelApplied p) := by
          rw [is]
          refine SameBut.trans (t := s.putPrinter p { s.printer p with sent := rest }) (frame.mono (by decide)) fun b hb => ?_
          cases b <;> first | rfl | simp at hb
        refine ⟨_, runs, State.endOfEvent_silent_of_eq _ _ (by rw [is]; exact keeps.2), nofun, nofun, fun rest' same => ⟨?_, ?_⟩⟩
        · exact first.trans (ends.mono (by decide))
        · cases same
          rw [State.endOfEvent_lbc, is, withPrinter_eq]
          cases p <;> rfl

end Sys2Proof.Machine
end

section
/-! PROOFS. Cuts fire and are refused: the end of a segment, the next one opened (O50), refusals (O51), and the advance of
the web (O16). -/

namespace Sys2Proof.Machine

-- one proof at a time: the joined package would else open a thread for each of them
set_option Elab.async false

section
variable {s t u : State} {j : Job} {d : Count}

/-- Under MARK, or without a splice in the list, nothing is judged (R120). -/
theorem State.judgeSplices_unjudged (none_ : j.splicePolicy = .mark ∨ ∀ e ∈ s.trk.events, e.kind ≠ .splice) :
    s.judgeSplices j = s := by
  refine State.judgeSplices_idle fun e member => ?_
  refine Classical.byContradiction fun may => ?_
  obtain ⟨-, policy, kind, -⟩ := State.judgeable_iff.mp (by simpa using may)
  rcases none_ with mark | none_
  · rw [mark] at policy
    cases policy
  · exact none_ e member kind

/-! ### Spindles -/

theorem chosen_iff {k : Spindle} : s.chosenSpindle = some k ↔ Chosen s k := by
  unfold State.chosenSpindle Chosen
  cases s.wnd.lastWinding with
  | some last =>
    cases last with
    | a => cases k <;> by_cases b : s.wnd.spindleB = .empty <;> simp [otherSpindle, State.spindle, b]
    | b => cases k <;> by_cases a : s.wnd.spindleA = .empty <;> simp [otherSpindle, State.spindle, a]
  | none => cases k <;> by_cases a : s.wnd.spindleA = .empty <;> simp [State.spindle, a]

theorem chosenSpindle_none : s.chosenSpindle = none ↔ ∀ k, ¬Chosen s k := by
  rw [Option.eq_none_iff_forall_ne_some]
  exact forall_congr' fun k => not_congr chosen_iff

theorem chosenSpindle_congr (last : u.wnd.lastWinding = s.wnd.lastWinding)
    (empty : ∀ k, u.spindle k = .empty ↔ s.spindle k = .empty) : u.chosenSpindle = s.chosenSpindle := by
  have a : u.wnd.spindleA = .empty ↔ s.wnd.spindleA = .empty := empty .a
  have b : u.wnd.spindleB = .empty ↔ s.wnd.spindleB = .empty := empty .b
  unfold State.chosenSpindle
  simp only [last, empty, a, b]

/-! ### An entry ends -/

theorem nextSeq_keptByClosing (n : BitVec 32) : KeptByClosing fun s => s.rlg.nextSeq = n where
  entry _ h := h
  roll _ h := h
  assign j roll mean h := (congrArg Rlg.nextSeq ((State.assignBatch_affects _ j roll mean).1.rlg (by decide))).trans h
  told _ h := h
  labels {s} h := by
    have rest : ∀ u : State, (((u.chooseTransfer).refreshTimer .a).refreshTimer .b).rlg.nextSeq = u.rlg.nextSeq := fun u =>
      congrArg Rlg.nextSeq ((((u.chooseTransfer_affects).trans (State.refreshTimer_affects _ .a)).trans
        (State.refreshTimer_affects _ .b)).1.rlg (by decide))
    refine (rest _).trans ?_
    rw [State.fillQueue_filled]
    exact h

/-- An entry is ended at a datum, and the log examined (R136, R140). -/
theorem State.endEntry_spec (job : s.lsc.job = some j) (seq : BitVec 32) (d : Count) (aborted : Bool) :
    ∃ told, LogExamined j (withEnded s seq d aborted) (s.endEntry seq d aborted) told ∧
      Tells s (s.endEntry seq d aborted) told ∧ SameBut [.rlg, .bat, .shu, .lbc, .lnk] s (s.endEntry seq d aborted) ∧
      (s.endEntry seq d aborted).rlg.log.map Entry.seq = s.rlg.log.map Entry.seq ∧
      (s.endEntry seq d aborted).rlg.nextSeq = s.rlg.nextSeq := by
  let v := withEnded s seq d aborted
  have is : s.endEntry seq d aborted = v.examineLog j := State.withJob_some (s := v) v.examineLog job
  obtain ⟨told, examined, tells, frame⟩ := v.examineLog_spec j
  have first : SameBut [.rlg, .bat, .shu, .lbc, .lnk] s v := by
    intro b hb
    cases b <;> first | rfl | simp at hb
  refine ⟨told, is ▸ examined, is ▸ tells, is ▸ first.trans frame, s.endEntry_logSeqs seq d aborted, ?_⟩
  exact (nextSeq_keptByClosing s.rlg.nextSeq).endEntry seq d aborted rfl

/-- The spindle of an ending ROLL segment is FULL (R116). -/
def spindleAfter (g : Segment) (x : SpindleState) : SpindleState :=
  if g.role = .roll ∧ x = .winding g.seq then .full g.seq else x

theorem spindleAfter_empty {g : Segment} {x : SpindleState} : spindleAfter g x = .empty ↔ x = .empty := by
  unfold spindleAfter
  split
  next h => simp [h.2]
  next => rfl

/-- The winder once the segment g has ended: a ROLL's spindle FULL, the turret pulsed (R115, R116). -/
def endedWnd (g : Segment) (w : Wnd) : Wnd :=
  { w with
    spindleA := spindleAfter g w.spindleA, spindleB := spindleAfter g w.spindleB
    turret := if g.role = .roll then some 400000 else w.turret }

/-- What the end of the active segment leaves, u being what the examination of the log leaves (R124, steps 2 and 3). -/
structure SegmentEnded (j : Job) (d : Count) (s u t : State) (told : List Notice) : Prop where
  idle : s.wnd.active = none → u = s ∧ told = [] ∧ t = s
  examined : ∀ g, s.wnd.active = some g →
    LogExamined j (withEnded s g.seq d false) u told ∧ t = { u with wnd := endedWnd g s.wnd }
  tells : Tells s u told
  frame : SameBut [.rlg, .bat, .shu, .lbc, .lnk] s u
  seqs : u.rlg.log.map Entry.seq = s.rlg.log.map Entry.seq
  next : u.rlg.nextSeq = s.rlg.nextSeq

theorem State.endSegment_spec (job : s.lsc.job = some j) (d : Count) :
    ∃ u told, SegmentEnded j d s u (s.endSegment d) told := by
  cases active : s.wnd.active with
  | none =>
    have is : s.endSegment d = s := by
      unfold State.endSegment
      rw [active]
    exact ⟨s, [], fun _ => ⟨rfl, rfl, is⟩, fun g h => (nomatch active.symm.trans h), .nothing rfl, SameBut.refl _ s, rfl, rfl⟩
  | some g =>
    obtain ⟨told, examined, tells, frame, seqs, next⟩ := State.endEntry_spec job g.seq d false
    let u := s.endEntry g.seq d false
    have wnd : u.wnd = s.wnd := frame.wnd (by decide)
    have is : s.endSegment d = { u with wnd := endedWnd g s.wnd } := by
      have ended : s.endSegment d = if g.role = .roll then u.fillSpindle g.seq else u := by
        unfold State.endSegment
        rw [active]
      rw [ended, ← wnd]
      by_cases roll : g.role = .roll
      · rw [if_pos roll]
        simp only [State.fillSpindle, endedWnd, spindleAfter, SpindleState.filled, roll, true_and, if_true]
        rfl
      · rw [if_neg roll]
        simp only [endedWnd, spindleAfter, roll, false_and, if_false]
    refine ⟨u, told, fun h => (nomatch active.symm.trans h), fun g' h => ?_, tells, frame, seqs, next⟩
    cases active.symm.trans h
    exact ⟨examined, is⟩

/-! ### The next segment opens -/

/-- The winder once a cut at d has opened a segment (R124, steps 4 to 7). -/
def openedWnd (j : Job) (w : Wnd) (g : Segment) (k : Option Spindle) (planned : Option CutPlan) : Wnd :=
  { w with
    spindleA := if k = some .a then .winding g.seq else w.spindleA
    spindleB := if k = some .b then .winding g.seq else w.spindleB
    lastWinding := if k.isSome then k else w.lastWinding, divert := decide (g.role ≠ .roll), active := some g
    lastCut := some g.start, eMin := some (fwd g.start j.dTr), plan := none, search := none, planned := planned
    overlength := false, torqueMark := 0, pwm := w.pwm.setTo (if g.role = .roll then j.d0 else 0) }

/-- The entry that a cut allocates for the segment g (R134, R135). -/
def openedEntry (s : State) (g : Segment) : Entry := Entry.fresh g.seq g.start g.role (s.spindleFor g.role) s.trk.eventLost

/-- The state once a cut has opened the segment g, its next cut planned, before the splices are judged (R124). -/
def segmentOpened (j : Job) (s : State) (g : Segment) (planned : Option CutPlan) : State :=
  { s with
    wnd := openedWnd j s.wnd g (s.spindleFor g.role) planned
    rlg := { s.rlg with log := s.rlg.log ++ [openedEntry s g], nextSeq := s.rlg.nextSeq + 1 }
    lnk := s.lnk.raised (if 28 ≤ s.rlg.log.length + 1 then [.logSpace] else [])
    lsc := if g.role = .tail then { s.lsc with runPermit := false } else s.lsc
    trk := { s.trk with events := s.trk.events.map fun x => { x with judged := false } } }

/-- What is planned when a cut opens the segment g in s (R119, R121). -/
structure NextPlanned (j : Job) (s : State) (g : Segment) (planned : Option CutPlan) : Prop where
  roll : g.role = .roll → ∃ y, RollPlanned j s.wnd.points (fwd g.start j.dTr) g.start g.point y ∧ planned = some ⟨y, .roll, false⟩
  remove : g.role = .remove → planned = s.wnd.plan.map fun q => ⟨q.cut2, .roll, false⟩
  tail : g.role = .tail → planned = none

theorem State.rollTarget_planned (eMin : s.wnd.eMin = some (fwd d j.dTr)) (p : Option PointName) :
    RollPlanned j s.wnd.points (fwd d j.dTr) d p (s.rollTarget j d p) := by
  have floor : s.floorDatum = fwd d j.dTr := by
    unfold State.floorDatum
    rw [eMin]
    rfl
  unfold State.rollTarget
  refine ⟨fun mode => ?_, fun i h mode is => ⟨fun straight => ?_, fun drop => ?_⟩⟩
  · rw [mode]
  all_goals
    subst is
    rw [mode, ← floor]
  · have point : rollPoint j ⟨i, h⟩ = ⟨i + BitVec.ofNat 32 ((j.lt + j.L - 1) / j.L), 0⟩ := by
      unfold rollPoint
      rw [straight]
      rfl
    rw [← point]
    exact s.settleTarget_settled j _
  · intro n
    have point : rollPoint j ⟨i, h⟩ = ⟨i + BitVec.ofNat 32 (n / 2), n % 2⟩ := by
      unfold rollPoint
      rw [drop]
      rfl
    rw [← point]
    exact s.settleTarget_settled j _

theorem State.openSegment_eq (s : State) (d : Count) (p : Option PointName) (opens : Role) :
    let k := s.spindleFor opens
    let seq := s.rlg.nextSeq
    s.openSegment d p opens = { s with
      wnd := { s.wnd with
        spindleA := if k = some .a then .winding seq else s.wnd.spindleA
        spindleB := if k = some .b then .winding seq else s.wnd.spindleB
        lastWinding := if k.isSome then k else s.wnd.lastWinding, divert := decide (opens ≠ .roll)
        active := some ⟨seq, d, opens, p⟩ }
      rlg := { s.rlg with log := s.rlg.log ++ [openedEntry s ⟨seq, d, opens, p⟩], nextSeq := seq + 1 }
      lnk := s.lnk.raised (if 28 ≤ s.rlg.log.length + 1 then [.logSpace] else []) } := by
  intro k seq
  have allocated : s.allocate d opens k = { s with
      rlg := { s.rlg with log := s.rlg.log ++ [openedEntry s ⟨seq, d, opens, p⟩], nextSeq := seq + 1 }
      lnk := s.lnk.raised (if 28 ≤ s.rlg.log.length + 1 then [.logSpace] else []) } := by
    unfold State.allocate
    dsimp only
    rw [List.length_append]
    by_cases full : 28 ≤ s.rlg.log.length + 1
    · rw [if_pos (by exact full), if_pos full]
      rfl
    · rw [if_neg (by exact full), if_neg full]
      rfl
  unfold State.openSegment
  dsimp only
  rw [show s.allocate d opens (s.spindleFor opens) = _ from allocated]
  show _ = ({ s with
      wnd := { s.wnd with
        spindleA := if s.spindleFor opens = some .a then .winding seq else s.wnd.spindleA
        spindleB := if s.spindleFor opens = some .b then .winding seq else s.wnd.spindleB
        lastWinding := if (s.spindleFor opens).isSome then s.spindleFor opens else s.wnd.lastWinding
        divert := decide (opens ≠ .roll), active := some ⟨seq, d, opens, p⟩ }
      rlg := _, lnk := _ } : State)
  cases s.spindleFor opens with
  | none => rfl
  | some k => cases k <;> rfl

/-- The winder's plan and torque for the segment that a cut opens (R124, steps 6 and 7). -/
theorem State.planTorque_eq (c : State) (j : Job) (seq : BitVec 32) (d : Count) (p : Option PointName) (opens : Role) :
    ∃ planned, NextPlanned j c ⟨seq, d, opens, p⟩ planned ∧ (c.planSegment j d p opens).torqueFor j opens =
      { c with wnd := { c.wnd with
        lastCut := some d, eMin := some (fwd d j.dTr), plan := none, search := none, planned := planned
        overlength := false, torqueMark := 0, pwm := c.wnd.pwm.setTo (if opens = .roll then j.d0 else 0) } } := by
  cases opens with
  | roll =>
    let w : State := { c with wnd := { c.wnd with
      lastCut := some d, eMin := some (fwd d j.dTr), plan := none, search := none, planned := none, overlength := false } }
    exact ⟨some ⟨w.rollTarget j d p, .roll, false⟩, ⟨fun _ => ⟨_, State.rollTarget_planned (s := w) rfl p, rfl⟩, nofun, nofun⟩, rfl⟩
  | remove =>
    refine ⟨_, ⟨nofun, fun _ => ?_, nofun⟩, rfl⟩
    show (c.wnd.plan.map SplicePlan.cut2).map _ = _
    rw [Option.map_map]
    rfl
  | tail => exact ⟨_, ⟨nofun, nofun, fun _ => rfl⟩, rfl⟩
  | leadIn => exact ⟨_, ⟨nofun, nofun, nofun⟩, rfl⟩

/-- The state that a cut finds once knife and transfer have started (R124, step 1). -/
def State.cutting (s : State) (j : Job) : State := (s.pulseKnife).startTransfer j

theorem NextPlanned.congr {g : Segment} {planned : Option CutPlan} (h : NextPlanned j s g planned)
    (points : s.wnd.points = u.wnd.points) (plan : s.wnd.plan = u.wnd.plan) : NextPlanned j u g planned := by
  obtain ⟨roll, remove, tail⟩ := h
  exact ⟨points ▸ roll, plan ▸ remove, tail⟩

/-- A cut that fires opens its segment behind the one that it ends (R124). -/
theorem State.fireCut_eq (s : State) (j : Job) (d : Count) (p : Option PointName) (opens : Role) :
    let b := (s.cutting j).endSegment d
    let g : Segment := ⟨b.rlg.nextSeq, d, opens, p⟩
    ∃ planned, NextPlanned j b g planned ∧ s.fireCut j d p opens = (segmentOpened j b g planned).judgeSplices j := by
  intro b g
  let c := b.openSegment d p opens
  have opened : c = _ := b.openSegment_eq d p opens
  obtain ⟨planned, next, left⟩ := c.planTorque_eq j b.rlg.nextSeq d p opens
  refine ⟨planned, next.congr (by rw [opened]) (by rw [opened]), ?_⟩
  have fired : s.fireCut j d p opens = ((if opens = .tail then
      ((c.planSegment j d p opens).torqueFor j opens).dropPermit
    else (c.planSegment j d p opens).torqueFor j opens).unjudge).judgeSplices j := rfl
  rw [fired, left]
  refine congrArg (fun u : State => u.judgeSplices j) ?_
  clear_value c
  subst opened
  unfold segmentOpened
  by_cases tail : opens = .tail
  · rw [if_pos tail, if_pos (show g.role = .tail from tail)]
    rfl
  · rw [if_neg tail, if_neg (show ¬g.role = .tail from tail)]
    rfl

/-! ### A cut fires -/

namespace SegmentEnded
variable {a b : State} {told : List Notice}

/-- The winder once the segment has ended, but for spindles and turret. -/
theorem wnd (h : SegmentEnded j d a u b told) : b.wnd = { a.wnd with
    spindleA := b.wnd.spindleA, spindleB := b.wnd.spindleB, turret := b.wnd.turret } := by
  cases active : a.wnd.active with
  | none => rw [(h.idle active).2.2]
  | some g =>
    rw [(h.examined g active).2]
    rfl

/-- What the end of a segment leaves besides is what the examination of the log leaves. -/
theorem outside (h : SegmentEnded j d a u b told) : b = { u with wnd := b.wnd } := by
  cases active : a.wnd.active with
  | none =>
    obtain ⟨rfl, -, rfl⟩ := h.idle active
    rfl
  | some g => rw [(h.examined g active).2]

theorem empty (h : SegmentEnded j d a u b told) (k : Spindle) : b.spindle k = .empty ↔ a.spindle k = .empty := by
  cases active : a.wnd.active with
  | none => rw [(h.idle active).2.2]
  | some g =>
    rw [(h.examined g active).2]
    cases k <;> exact spindleAfter_empty

theorem spindle (h : SegmentEnded j d a u b told) {g : Segment} (active : a.wnd.active = some g) (k : Spindle) :
    b.spindle k = spindleAfter g (a.spindle k) := by
  rw [(h.examined g active).2]
  cases k <;> rfl

theorem chosen (h : SegmentEnded j d a u b told) : b.chosenSpindle = a.chosenSpindle :=
  chosenSpindle_congr (by rw [h.wnd]) h.empty

end SegmentEnded

theorem logExamined_of_cutting {g : Segment} {told : List Notice} (h : LogExamined j (withEnded (s.cutting j) g.seq d false) u told) :
    ∃ cutting : State, SameBut [.wnd, .lnk] s cutting ∧ LogExamined j (withEnded cutting g.seq d false) u told := by
  refine ⟨s.cutting j, fun b hb => ?_, h⟩
  cases b <;> first | rfl | simp at hb

/-- A cut that fires (R119 to R124, R127, R129, R130). -/
theorem State.fireCut_spec (job : s.lsc.job = some j) (d : Count) (p : Option PointName) (opens : Role) :
    ∃ notices, CutFired j opens d p s (s.fireCut j d p opens) notices ∧ Tells s (s.fireCut j d p opens) notices := by
  let a := s.cutting j
  let b := a.endSegment d
  let g : Segment := ⟨b.rlg.nextSeq, d, opens, p⟩
  obtain ⟨u, told, ended⟩ : ∃ u told, SegmentEnded j d a u b told := a.endSegment_spec job d
  obtain ⟨planned, next, fired⟩ := s.fireCut_eq j d p opens
  let v := segmentOpened j b g planned
  let t := v.judgeSplices j
  have first : SameBut [.wnd] s a := by
    intro b hb
    cases b <;> first | rfl | simp at hb
  have judged : Judged v t := v.judgeSplices_judged j
  have outside := ended.outside
  have wnd := ended.wnd
  have chosen : b.chosenSpindle = s.chosenSpindle := ended.chosen
  have rlg : b.rlg = u.rlg := by rw [outside]
  have trk : b.trk = s.trk := by
    rw [outside]
    exact ended.frame.trk (by decide)
  have seq : b.rlg.nextSeq = s.rlg.nextSeq := by rw [rlg, ended.next]; rfl
  have seqs : b.rlg.log.map Entry.seq = s.rlg.log.map Entry.seq := by rw [rlg, ended.seqs]; rfl
  have length : b.rlg.log.length = s.rlg.log.length := by
    rw [← List.length_map (f := Entry.seq), seqs, List.length_map]
  have lsc : b.lsc = s.lsc := by
    rw [outside]
    exact ended.frame.lsc (by decide)
  have lnk : b.lnk = u.lnk := by rw [outside]
  have frame : SameBut [.wnd, .rlg, .bat, .shu, .lbc, .lnk] s b := by
    have middle : SameBut [.rlg, .bat, .shu, .lbc, .lnk] a u := ended.frame
    have last : SameBut [.wnd] u b := by
      rw [outside]
      intro c hc
      cases c <;> first | rfl | simp at hc
    exact ((first.mono (by decide)).trans (middle.mono (by decide))).trans (last.mono (by decide))
  have opened : SameBut [.wnd, .rlg, .lnk, .lsc, .trk] b v := by
    intro c hc
    cases c <;> first | rfl | simp at hc
  have spindleFor : b.spindleFor opens = if opens = .roll then s.chosenSpindle else none := by
    show (if opens = .roll then b.chosenSpindle else none) = _
    rw [chosen]
  have left : t.wnd = { v.wnd with plan := t.wnd.plan, planned := t.wnd.planned } := by
    rw [judged.is]
  have spindle (k : Spindle) : t.spindle k = if b.spindleFor opens = some k then .winding s.rlg.nextSeq else b.spindle k := by
    rw [← seq]
    unfold State.spindle
    rw [left]
    cases k <;> rfl
  have active : a.wnd.active = s.wnd.active := rfl
  rw [fired]
  refine ⟨told ++ (if 28 ≤ s.rlg.log.length + 1 then [.logSpace] else []), ?_, ?_⟩
  · refine ⟨?_, ?_, ?_, ?_, ?_, ?_, ?_, ?_, ?_, ?_, ?_⟩
    · exact ((frame.mono (by decide)).trans (opened.mono (by decide))).trans (judged.sameBut.mono (by decide))
    · rw [judged.sameBut.lsc (by decide), ← lsc]
      rfl
    · rw [judged.records.1]
      show b.trk.records = _
      rw [trk]
    · rw [judged.faces]
      show (b.trk.events.map _).map eventFace = _
      rw [trk, List.map_map]
      rfl
    · rw [judged.records.2]
      show b.trk.eventLost = _
      rw [trk]
    · rw [left, ← seq]
      refine ⟨rfl, rfl, rfl, rfl, rfl, ?_, ?_, ?_, ?_, fun other => ?_, ?_⟩
      · show b.wnd.knife = _
        rw [wnd]
        rfl
      · show b.wnd.transfer = _
        rw [wnd]
        rfl
      · show b.wnd.overlaps = _
        rw [wnd]
        rfl
      · show (b.wnd.pwm.setTo _).setDuty = _
        rw [Pwm.setTo_eq]
      · show (b.wnd.pwm.setTo (if opens = .roll then j.d0 else 0)).duty = _
        rw [if_neg other, Pwm.setTo_eq]
        rfl
      · show (b.wnd.refusals, b.wnd.lastRefusal, none, 0) = _
        rw [wnd]
        rfl
    · intro k roll can
      have found : b.spindleFor opens = some k := by rw [spindleFor, if_pos roll, chosen_iff.mpr can]
      refine ⟨by rw [spindle, if_pos found], ?_⟩
      rw [left]
      show (if (b.spindleFor opens).isSome then b.spindleFor opens else b.wnd.lastWinding) = _
      rw [found]
      rfl
    · intro other
      rw [left]
      show (if (b.spindleFor opens).isSome then b.spindleFor opens else b.wnd.lastWinding) = _
      rw [spindleFor, if_neg other, wnd]
      rfl
    · intro g' was
      refine ⟨?_, fun k apart => ?_⟩
      · rw [left]
        show b.wnd.turret = _
        rw [(ended.examined g' (active.trans was)).2]
        rfl
      · have free : ¬b.spindleFor opens = some k := by
          rw [spindleFor]
          intro found
          by_cases roll : opens = .roll
          · rw [if_pos roll] at found
            exact apart ⟨roll, chosen_iff.mp found⟩
          · rw [if_neg roll] at found
            cases found
        rw [spindle, if_neg free, ended.spindle (active.trans was)]
        rfl
    · refine ⟨v, SameBut.refl _ t, ?_, ?_, rfl, ?_, fun roll => ?_, fun remove => ?_, fun tail => next.tail tail, fun unjudged => ?_⟩
      · rw [left]
      · show b.wnd.points = _
        rw [wnd]
        rfl
      · show b.trk.events.map _ = _
        rw [trk]
      · obtain ⟨y, rolls, is⟩ := next.roll roll
        refine ⟨y, ?_, is⟩
        have points : b.wnd.points = s.wnd.points := by
          rw [wnd]
          rfl
        rw [← points]
        exact rolls
      · have plan : b.wnd.plan = s.wnd.plan := by
          rw [wnd]
          rfl
        rw [← plan]
        exact next.remove remove
      · have idle : t = v := State.judgeSplices_unjudged (unjudged.imp_right fun none_ e member => by
          obtain ⟨x, held, rfl⟩ := List.mem_map.mp member
          exact none_ x (by rw [← trk]; exact held))
        have events : (v.judgeSplices j).wnd = v.wnd := congrArg State.wnd idle
        exact ⟨congrArg Wnd.plan events, congrArg Wnd.planned events⟩
    · obtain ⟨w, none_, some_, rlg', bat', shu', lbc'⟩ : ∃ w : State, (s.wnd.active = none → SameBut [.lnk] s w) ∧
          (∀ g, s.wnd.active = some g → w = u) ∧ w.rlg = u.rlg ∧ w.bat = u.bat ∧ w.shu = u.shu ∧ w.lbc = u.lbc := by
        cases was : s.wnd.active with
        | none =>
          rw [(ended.idle (active.trans was)).1]
          exact ⟨s, fun _ => SameBut.refl _ s, nofun, rfl, rfl, rfl, rfl⟩
        | some g' => exact ⟨u, nofun, fun _ _ => rfl, rfl, rfl, rfl, rfl⟩
      have entry (k : Spindle) (roll : opens = .roll) (can : Chosen s k) : b.spindleFor opens = some k := by
        rw [spindleFor, if_pos roll, chosen_iff.mpr can]
      refine ⟨w, told, openedEntry b g, fun idle => ⟨none_ idle, (ended.idle (active.trans idle)).2.1⟩, fun g' was => ?_, rfl, ?_, ?_,
        ?_, ?_, entry, fun other => ?_, rfl, ?_, rfl⟩
      · rw [some_ g' was]
        exact logExamined_of_cutting (ended.examined g' (active.trans was)).1
      · rw [bat', shu', lbc', judged.sameBut.bat (by decide), judged.sameBut.shu (by decide), judged.sameBut.lbc (by decide)]
        show (b.bat, b.shu, b.lbc) = _
        rw [outside]
      · rw [judged.sameBut.rlg (by decide), rlg', ← seq, ← rlg]
        rfl
      · rw [rlg', ← rlg, seqs]
      · rw [← seq]
        rfl
      · show b.spindleFor opens = none
        rw [spindleFor, if_neg other]
      · show ({ eventLost := b.trk.eventLost } : EntryFlags) = _
        rw [trk]
  · obtain ⟨raised, told_, same⟩ := ended.tells
    refine ⟨raised ++ (if 28 ≤ s.rlg.log.length + 1 then [.logSpace] else []), ?_, fun n => ?_⟩
    · rw [judged.sameBut.lnk (by decide), ← Lnk.raised_append, ← length, ← show u.lnk = s.lnk.raised raised from told_, ← lnk]
      rfl
    · rw [List.mem_append, List.mem_append, same]

/-! ### CUT_DUE -/

/-- The end of the event leaves a fired cut as it is. -/
theorem cutFired_sameBut {opens : Role} {p : Option PointName} {t' : State} {notices : List Notice}
    (fired : CutFired j opens d p s t notices) (same : SameBut [.lnk] t t') : CutFired j opens d p s t' notices := by
  have spindle (k : Spindle) : t'.spindle k = t.spindle k := by
    cases k <;> simp only [State.spindle, same.wnd (by decide)]
  unfold CutFired at fired ⊢
  rw [show t'.lsc = t.lsc from same.lsc (by decide), show t'.trk = t.trk from same.trk (by decide),
    show t'.wnd = t.wnd from same.wnd (by decide), show t'.bat = t.bat from same.bat (by decide),
    show t'.shu = t.shu from same.shu (by decide), show t'.lbc = t.lbc from same.lbc (by decide),
    show t'.rlg = t.rlg from same.rlg (by decide)]
  simp only [spindle]
  obtain ⟨frame, lsc, records, events, lost, wnd, opened, last, ended, ⟨u, left, planned⟩, log⟩ := fired
  exact ⟨frame.trans (same.mono (by decide)), lsc, records, events, lost, wnd, opened, last, ended, ⟨u, left.trans same, planned⟩,
    log⟩

theorem cutFails_eq_none {opens : Role} : s.cutFails opens = none ↔
    s.rlg.log.length < 32 ∧ (opens = .roll → ∃ k, Chosen s k) := by
  have some_ : (opens = .roll ∧ s.chosenSpindle.isNone = true) ↔ ¬(opens = .roll → ∃ k, Chosen s k) := by
    rw [Option.isNone_iff_eq_none, chosenSpindle_none]
    simp
  unfold State.cutFails
  by_cases full : Config.logCap ≤ s.rlg.log.length
  · rw [if_pos full]
    exact ⟨nofun, fun h => absurd full (Nat.not_le.mpr h.1)⟩
  · rw [if_neg full]
    by_cases missing : opens = .roll ∧ s.chosenSpindle.isNone = true
    · rw [if_pos missing]
      exact ⟨nofun, fun h => absurd h.2 (some_.mp missing)⟩
    · rw [if_neg missing]
      exact ⟨fun _ => ⟨Nat.lt_of_not_le full, Classical.not_not.mp (mt some_.mpr missing)⟩, fun _ => rfl⟩

theorem cutFails_some {opens : Role} (fails : 32 ≤ s.rlg.log.length ∨ (opens = .roll ∧ ∀ k, ¬Chosen s k)) :
    s.cutFails opens = some (if 32 ≤ s.rlg.log.length then .logFull else .spindleNotReady) := by
  unfold State.cutFails
  by_cases full : 32 ≤ s.rlg.log.length
  · rw [if_pos (by exact full), if_pos full]
  · obtain ⟨roll, none_⟩ := fails.resolve_left full
    rw [if_neg (by exact full), if_neg full, if_pos ⟨roll, by rw [chosenSpindle_none.mpr none_]; rfl⟩]

theorem State.cutDueAt_eq {c : CutPlan} {p : Option PointName} (planned : s.wnd.planned = some c) (target : c.target = .known d p)
    (reaches : reached s.wpu.h (fwd d j.dCut) = true) : s.cutDueAt j = some (c, d, p) := by
  unfold State.cutDueAt
  rw [planned]
  dsimp only
  rw [target]
  exact if_pos reaches

theorem State.cutDueAt_none (early : ∀ c d p, s.wnd.planned = some c → c.target = .known d p →
    reached s.wpu.h (fwd d j.dCut) = false) : s.cutDueAt j = none := by
  unfold State.cutDueAt
  split
  next c planned =>
    split
    next d p target => exact if_neg (by rw [State.firingReached, State.at, early c d p planned target]; exact Bool.false_ne_true)
    next => rfl
  next => rfl

theorem State.tailCheck_idle (runs : s.lsc.lineState = .ending → s.wpu.stopped = false) (j : Job) : s.tailCheck j = s := by
  refine if_neg fun h => ?_
  obtain ⟨ending, stopped⟩ := Bool.and_eq_true_iff.mp h
  rw [runs (of_decide_eq_true ending)] at stopped
  cases stopped

/-- CUT_DUE runs what the due cut leaves. -/
theorem exec_cutDue (job : s.lsc.job = some j) : exec .cutDue s = .next (match s.cutDueAt j with
    | some x => (s.takeCut j x.1 x.2.1 x.2.2).tailCheck j
    | none => s).endOfEvent := by
  exact congrArg (fun u : State => Host.Outcome.next u.endOfEvent) (State.withJob_some _ job)

end

/-- Settles O50: a cut whose conditions hold fires. -/
theorem cutFiresAndOpensASegment : Obligations.CutFiresAndOpensASegment := by
  intro s j c d p job planned target reaches room can runs
  obtain ⟨notices, fired, tells⟩ := State.fireCut_spec job d p c.opens
  have taken : s.takeCut j c d p = s.fireCut j d p c.opens := by
    unfold State.takeCut
    rw [cutFails_eq_none.mpr ⟨room, can⟩]
  have frame := fired.1
  have line : (s.fireCut j d p c.opens).lsc.lineState = s.lsc.lineState := by
    rw [fired.2.1]
    split <;> rfl
  have idle : (s.fireCut j d p c.opens).tailCheck j = s.fireCut j d p c.opens :=
    State.tailCheck_idle (by rw [line, frame.wpu (by decide)]; exact runs) j
  have ran : exec .cutDue s = .next (s.fireCut j d p c.opens).endOfEvent := by
    rw [exec_cutDue job, State.cutDueAt_eq planned target reaches]
    dsimp only
    rw [taken, idle]
  exact ⟨_, notices, ran, cutFired_sameBut fired (State.endOfEvent_sameBut _), tells.silent⟩

/-! ### Overlength and refusals -/

section
variable {s u : State} {j : Job} {d : Count}

/-- The active entry is flagged OVERLENGTH and runs beyond the limit (R126). -/
def OverlengthDue (s : State) (j : Job) : Prop :=
  ∃ g e, s.wnd.active = some g ∧ e ∈ s.rlg.log ∧ e.seq = g.seq ∧ e.flags.overlength = true ∧
    (j.lt + j.maxOver : Int) < ahead (back s.wpu.h j.dCut) g.start ∧ s.wnd.overlength = false

theorem State.overlengthDue_iff : s.overlengthDue j = true ↔ OverlengthDue s j := by
  unfold State.overlengthDue OverlengthDue
  cases active : s.wnd.active with
  | none => simp
  | some g =>
    simp only [Bool.and_eq_true, Bool.not_eq_true', decide_eq_true_eq, List.any_eq_true, beq_iff_eq, Option.some.injEq]
    constructor
    · rintro ⟨⟨apart, beyond⟩, e, member, seq, flagged⟩
      exact ⟨g, e, rfl, member, seq, flagged, beyond, apart⟩
    · rintro ⟨g', e, is, member, seq, flagged, beyond, apart⟩
      cases is
      exact ⟨⟨apart, beyond⟩, e, member, seq, flagged⟩

/-- The OVERLENGTH condition where it is due (R126). -/
theorem State.checkOverlength_due (due : OverlengthDue s j) :
    let t := s.checkOverlength j
    t.wnd = { s.wnd with overlength := true } ∧ t.lsc = (s.raiseCause .overlength).lsc ∧
      t.emb = (s.raiseCause .overlength).emb ∧ SameBut [.wnd, .lsc, .emb, .lnk] s t ∧
      t.lnk = s.lnk.raised (causeTold s .overlength) := by
  let v : State := { s with wnd := { s.wnd with overlength := true } }
  have is : s.checkOverlength j = v.raiseCause .overlength := if_pos (State.overlengthDue_iff.mpr due)
  obtain ⟨lsc, emb, told⟩ := State.raiseCause_congr (s := s) (u := v) rfl rfl rfl rfl .overlength
  have frame := (v.raiseCause_affects .overlength).1
  have first : SameBut [.wnd, .lsc, .emb, .lnk] s v := by
    intro b hb
    cases b <;> first | rfl | simp at hb
  rw [is]
  refine ⟨frame.wnd (by decide), lsc, emb, first.trans (frame.mono (by decide)), ?_⟩
  rw [(v.raiseCause_spec .overlength).2, told]

theorem State.checkOverlength_idle (idle : ¬OverlengthDue s j) : s.checkOverlength j = s :=
  if_neg (mt State.overlengthDue_iff.mp idle)

/-- The winder of a refused cut, its condition not yet judged, with what is planned anew (R125). -/
def refusedWnd (j : Job) (w : Wnd) (d : Count) (why : RefusalCause) (planned : Option CutPlan) (plan : Option SplicePlan)
    (search : Option Count) : Wnd :=
  { w with refusals := grown w.refusals, lastRefusal := some why, eMin := some (fwd d j.dTr), planned := planned, plan := plan,
           search := search }

/-- What a refused cut plans anew, the earliest cut datum being e (R121, R125). -/
structure PlannedAnew (j : Job) (s : State) (c : CutPlan) (e : Count) (planned : Option CutPlan) (plan : Option SplicePlan)
    (search : Option Count) : Prop where
  again : s.wnd.plan = none ∨ c.opens ≠ .remove → search = none ∧ ∃ y, planned = some ⟨y, c.opens, true⟩ ∧
    plan = s.wnd.plan.map (fun q => { q with cut2 := y }) ∧
    (j.cutMode = .matched → FirstEligible j s.wnd.points e y) ∧
    (j.cutMode = .length → y = if c.replanned then .waiting else .known e none)
  noCut1 : ∀ q, s.wnd.plan = some q → c.opens = .remove → search = s.wnd.search ∧ ∃ y,
    FirstEligible j s.wnd.points (further (fwd q.lastSplice j.clearance) e) y ∧
    plan = some { q with cut1 := .none, cut2 := y } ∧ planned = some ⟨y, .roll, false⟩

/-- The plan after a refused cut that is no cut1 (R125). -/
theorem State.replan_eq (s : State) (j : Job) (c : CutPlan) : ∃ y,
    (j.cutMode = .matched → FirstEligible j s.wnd.points s.floorDatum y) ∧
    (j.cutMode = .length → y = if c.replanned then .waiting else .known s.floorDatum none) ∧
    s.replan j c = { s with wnd := { s.wnd with
      planned := some ⟨y, c.opens, true⟩, search := none, plan := s.wnd.plan.map fun q => { q with cut2 := y } } } := by
  unfold State.replan
  cases mode : j.cutMode with
  | matched => exact ⟨_, fun _ => s.firstPoint_first j _, nofun, rfl⟩
  | length => exact ⟨_, nofun, fun _ => rfl, rfl⟩

/-- A refused cut is planned anew (R121, R125). -/
theorem State.plannedAnew (s : State) (j : Job) (c : CutPlan) (d : Count) (why : RefusalCause) :
    let b : State := { s with wnd := { s.wnd with
      refusals := satInc s.wnd.refusals, lastRefusal := some why, eMin := some (fwd d j.dTr) } }
    ∃ planned plan search, PlannedAnew j s c (fwd d j.dTr) planned plan search ∧
      (match b.wnd.plan, c.opens with
        | some p, .remove => b.planWith j p.limit p.lastSplice .none
        | _, _ => b.replan j c) = { s with wnd := refusedWnd j s.wnd d why planned plan search } := by
  intro b
  by_cases cut1 : ∃ q, s.wnd.plan = some q ∧ c.opens = .remove
  · obtain ⟨q, plan, opens⟩ := cut1
    let y := b.afterSplice j q.lastSplice (b.cut2Floor j .none)
    refine ⟨some ⟨y, .roll, false⟩, some { q with cut1 := .none, cut2 := y }, s.wnd.search, ⟨fun no => ?_, fun q' plan' _ => ?_⟩, ?_⟩
    · rcases no with none_ | other
      · rw [plan] at none_
        cases none_
      · exact absurd opens other
    · cases plan.symm.trans plan'
      exact ⟨rfl, y, b.afterSplice_first j q.lastSplice .none, rfl, rfl⟩
    · have plan'' : b.wnd.plan = some q := plan
      rw [plan'', opens]
      dsimp only
      rw [State.planWith_eq]
      rfl
  · obtain ⟨y, matched, length, is⟩ := b.replan_eq j c
    refine ⟨_, _, _, ⟨fun _ => ⟨rfl, y, rfl, rfl, matched, length⟩, fun q plan opens => absurd ⟨q, plan, opens⟩ cut1⟩, ?_⟩
    refine Eq.trans ?_ is
    split
    next q plan opens => exact absurd ⟨q, plan, opens⟩ cut1
    next => rfl

/-- The state of a refused cut with what is planned anew, its condition not yet judged (R125). -/
def refusedState (j : Job) (s : State) (d : Count) (why : RefusalCause) (planned : Option CutPlan) (plan : Option SplicePlan)
    (search : Option Count) : State :=
  { s with
    rlg := { s.rlg with log := s.rlg.log.map fun e =>
      if (s.wnd.active.any fun g => g.seq == e.seq) = true then { e with flags := { e.flags with overlength := true } } else e }
    wnd := refusedWnd j s.wnd d why planned plan search }

/-- A cut is refused (R121, R125, R126). -/
theorem State.refuseCut_eq (s : State) (j : Job) (c : CutPlan) (d : Count) (why : RefusalCause) :
    ∃ planned plan search, PlannedAnew j s c (fwd d j.dTr) planned plan search ∧
      s.refuseCut j c d why = ((refusedState j s d why planned plan search).checkOverlength j).judgeSplices j := by
  let a := s.updateOpenEntry fun e => { e with flags := { e.flags with overlength := true } }
  have flagged : a = _ := s.updateOpenEntry_eq _
  have wnd : a.wnd = s.wnd := by rw [flagged]
  obtain ⟨planned, plan, search, anew, is⟩ := a.plannedAnew j c d why
  refine ⟨planned, plan, search, ?_, ?_⟩
  · obtain ⟨again, noCut1⟩ := anew
    rw [wnd] at again noCut1
    exact ⟨again, noCut1⟩
  · refine congrArg (fun u : State => (u.checkOverlength j).judgeSplices j) (is.trans ?_)
    rw [flagged]
    rfl

theorem Lsc.raised_ending (l : Lsc) (c : HoldCause) : (l.raised c).lineState = .ending ↔ l.lineState = .ending := by
  unfold Lsc.raised
  (repeat' split) <;> simp_all

theorem overlengthDue_refused {g : Segment} {why : RefusalCause} {planned : Option CutPlan} {plan : Option SplicePlan}
    {search : Option Count} (active : s.wnd.active = some g) :
    OverlengthDue (refusedState j s d why planned plan search) j ↔ (∃ e ∈ s.rlg.log, e.seq = g.seq) ∧
      (j.lt + j.maxOver : Int) < ahead (back s.wpu.h j.dCut) g.start ∧ s.wnd.overlength = false := by
  constructor
  · rintro ⟨g', e, is, member, seq, -, beyond⟩
    cases active.symm.trans is
    obtain ⟨x, held, rfl⟩ := List.mem_map.mp member
    refine ⟨⟨x, held, ?_⟩, beyond⟩
    dsimp only at seq
    split at seq <;> exact seq
  · rintro ⟨⟨x, held, seq⟩, beyond⟩
    have own : (s.wnd.active.any fun g => g.seq == x.seq) = true := by simp [active, seq]
    refine ⟨g, _, active, List.mem_map.mpr ⟨x, held, rfl⟩, ?_, ?_, beyond⟩
    · rw [if_pos own]
      exact seq
    · rw [if_pos own]

end

/-- Settles O51: refused cuts and the OVERLENGTH condition. -/
theorem cutIsRefusedAndOverlengthRaised : Obligations.CutIsRefusedAndOverlengthRaised := by
  intro s j job beyond
  refine ⟨?_, fun early => ?_, fun c d p g planned target active reaches fails runs => ?_⟩
  · have runs : exec .overlengthCondition s = .next (s.checkOverlength j).endOfEvent :=
      congrArg (fun u : State => Host.Outcome.next u.endOfEvent) (State.withJob_some s.checkOverlength job)
    refine ⟨_, runs, fun due => ?_, fun idle => ?_⟩
    · obtain ⟨wnd, lsc, emb, frame, lnk⟩ := State.checkOverlength_due due
      have ends := (s.checkOverlength j).endOfEvent_sameBut
      rw [State.endOfEvent_wnd, State.endOfEvent_lsc, State.endOfEvent_emb]
      exact ⟨wnd, lsc, emb, frame.trans (ends.mono (by decide)), State.endOfEvent_silent _ _ _ lnk⟩
    · rw [State.checkOverlength_idle idle]
      exact s.endOfEvent_nothing
  · have runs : exec .cutDue s = .next s.endOfEvent := by
      rw [exec_cutDue job, State.cutDueAt_none early]
    exact ⟨_, runs, s.endOfEvent_nothing⟩
  · let why : RefusalCause := if 32 ≤ s.rlg.log.length then .logFull else .spindleNotReady
    obtain ⟨planned', plan, search, anew, refused⟩ := s.refuseCut_eq j c d why
    let r := refusedState j s d why planned' plan search
    let u := r.checkOverlength j
    have due : OverlengthDue r j ↔ (∃ e ∈ s.rlg.log, e.seq = g.seq) ∧ beyond g := overlengthDue_refused active
    have judged := u.judgeSplices_judged j
    have first : SameBut [.wnd, .rlg] s r := by
      intro b hb
      cases b <;> first | rfl | simp at hb
    obtain ⟨lsc, emb, told⟩ := State.raiseCause_congr (s := s) (u := r) rfl rfl rfl rfl .overlength
    have checked : SameBut [.wnd, .lsc, .emb, .lnk] r u ∧ u.wnd = { r.wnd with overlength := u.wnd.overlength } ∧
        (u.lsc.lineState = .ending ↔ s.lsc.lineState = .ending) := by
      by_cases is : OverlengthDue r j
      · obtain ⟨wnd, lsc', -, frame, -⟩ := State.checkOverlength_due is
        refine ⟨frame, by rw [show u.wnd = _ from wnd], ?_⟩
        rw [show u.lsc = _ from lsc', State.raiseCause_lsc, Lsc.raised_ending]
        rfl
      · have same : u = r := State.checkOverlength_idle is
        rw [same]
        exact ⟨SameBut.refl _ r, rfl, Iff.rfl⟩
    obtain ⟨frame, wnd, ending⟩ := checked
    have taken : s.takeCut j c d p = u.judgeSplices j := by
      unfold State.takeCut
      rw [cutFails_some fails]
      exact refused
    have idle : (u.judgeSplices j).tailCheck j = u.judgeSplices j := by
      refine State.tailCheck_idle ?_ j
      rw [judged.sameBut.lsc (by decide), judged.sameBut.wpu (by decide), ending, frame.wpu (by decide)]
      exact runs
    have ran : exec .cutDue s = .next (u.judgeSplices j).endOfEvent := by
      rw [exec_cutDue job, State.cutDueAt_eq planned target reaches]
      dsimp only
      rw [taken, idle]
    have ends := (u.judgeSplices j).endOfEvent_sameBut
    have left : (u.judgeSplices j).endOfEvent.wnd = { u.wnd with
        plan := (u.judgeSplices j).wnd.plan, planned := (u.judgeSplices j).wnd.planned } := by
      rw [State.endOfEvent_wnd, judged.is]
    have silent (ns : List Notice) (lnk : u.lnk = s.lnk.raised ns) : Silent s (u.judgeSplices j).endOfEvent ns :=
      State.endOfEvent_silent _ _ _ (by rw [judged.sameBut.lnk (by decide), lnk])
    refine ⟨_, ran, ?_, ?_, ?_, ?_, ?_, fun some_ over_ => ?_, fun within_ => ?_, fun no => ?_, fun some_ opens => ?_, ?_⟩
    · have rest : SameBut [.trk, .wnd] u (u.judgeSplices j) := judged.sameBut
      exact (((first.mono (by decide)).trans (frame.mono (by decide))).trans (rest.mono (by decide))).trans (ends.mono (by decide))
    · rw [State.endOfEvent_rlg, judged.sameBut.rlg (by decide), frame.rlg (by decide)]
      have own (e : Entry) : (s.wnd.active.any fun g => g.seq == e.seq) = true ↔ e.seq = g.seq := by
        rw [active, Option.any_some, beq_iff_eq, eq_comm]
      simp only [r, refusedState, own]
    · rw [left, wnd]
      rfl
    · rw [left, wnd]
      rfl
    · rw [left, wnd]
      rfl
    · obtain ⟨wnd', lsc', emb', -, lnk⟩ := State.checkOverlength_due (due.mpr ⟨some_, over_⟩)
      refine ⟨?_, ?_, ?_, silent _ (lnk.trans (congrArg _ told))⟩
      · rw [left, show u.wnd = _ from wnd']
      · rw [State.endOfEvent_lsc, judged.sameBut.lsc (by decide), show u.lsc = _ from lsc', lsc]
      · rw [State.endOfEvent_emb, judged.sameBut.emb (by decide), show u.emb = _ from emb', emb]
    · have same : u = r := State.checkOverlength_idle (mt due.mp within_)
      refine ⟨?_, ?_, ?_, silent [] (by rw [same]; rfl)⟩
      · rw [left, same]
        rfl
      · rw [State.endOfEvent_lsc, judged.sameBut.lsc (by decide), same]
        rfl
      · rw [State.endOfEvent_emb, judged.sameBut.emb (by decide), same]
        rfl
    · rw [left, wnd]
      exact (anew.again no).1
    · rw [left, wnd]
      obtain ⟨q, plan⟩ := Option.ne_none_iff_exists'.mp some_
      exact (anew.noCut1 q plan opens).1
    · refine ⟨u, rfl, frame.trk (by decide), by rw [wnd]; rfl, fun no => ?_, fun q plan opens => ?_, fun unjudged => ?_⟩
      · rw [wnd]
        obtain ⟨-, y, is, kept, matched, length⟩ := anew.again no
        exact ⟨y, is, kept, matched, length⟩
      · rw [wnd]
        obtain ⟨-, y, eligible, kept, is⟩ := anew.noCut1 q plan opens
        exact ⟨y, eligible, kept, is⟩
      · have trk : u.trk = s.trk := frame.trk (by decide)
        rw [State.endOfEvent_wnd, State.judgeSplices_unjudged (s := u) (by rw [trk]; exact unjudged)]
        exact ⟨rfl, rfl⟩

end Sys2Proof.Machine
end

section
/-! PROOFS. The web advances (O16): an opening occasion of the defect line, and a cut that waited. -/

namespace Sys2Proof.Machine

-- one proof at a time: the joined package would else open a thread for each of them
set_option Elab.async false

section
variable {s t v : State} {j : Job}

/-! ### A waiting cut -/

theorem State.tryWaiting_idle (idle : ∀ c, s.wnd.planned = some c → c.target = .waiting → s.cutFails c.opens ≠ none) :
    s.tryWaiting j = s := by
  unfold State.tryWaiting
  split
  next c planned => exact if_neg fun h => idle c planned h.1 (Option.isNone_iff_eq_none.mp h.2)
  next => rfl

theorem State.tryWaiting_fires {c : CutPlan} (planned : s.wnd.planned = some c) (waits : c.target = .waiting)
    (fires : s.cutFails c.opens = none) : s.tryWaiting j = s.fireCut j (back s.wpu.h j.dCut) none c.opens := by
  unfold State.tryWaiting
  rw [planned]
  exact if_pos ⟨waits, by rw [fires]; rfl⟩

theorem cutFails_congr (length : v.rlg.log.length = s.rlg.log.length) (wnd : v.wnd = s.wnd) (opens : Role) :
    v.cutFails opens = s.cutFails opens := by
  have chosen : v.chosenSpindle = s.chosenSpindle :=
    chosenSpindle_congr (by rw [wnd]) fun k => by cases k <;> simp only [State.spindle, wnd]
  unfold State.cutFails
  rw [length, chosen]

/-! ### What an arrival leaves of the winder -/

/-- The winder after an arrival: a cut that waits goes on waiting, and none begins to wait; the log keeps its length. -/
structure WinderAfter (s v : State) : Prop where
  begins : ∀ c, v.wnd.planned = some c → c.target = .waiting → v.wnd.planned = s.wnd.planned
  waits : ∀ c, s.wnd.planned = some c → c.target = .waiting → v.wnd = s.wnd
  length : v.rlg.log.length = s.rlg.log.length

theorem arrives_winder {kind : EventKind} {d : Count} {isOpen : Bool} {told : List Notice}
    (h : Arrives j s v kind d isOpen told) : WinderAfter s v := by
  by_cases room : s.trk.events.length < 16
  · obtain ⟨⟨-, u, -, -, -, -, -, -, -, frame, left⟩, outside⟩ := h.1 room
    have wnd : u.wnd = s.wnd := frame.wnd (by decide)
    have judged := u.judgeSplices_judged j
    have same : v.wnd = (u.judgeSplices j).wnd := left.wnd (by decide)
    refine ⟨fun c planned waits => ?_, fun c planned waits => ?_, by rw [outside.rlg (by decide)]⟩
    · rw [same] at planned ⊢
      rw [judged.waiting c planned waits, wnd]
    · have unknown : ∀ c p n, u.wnd.planned = some c → c.target ≠ .known p n := fun c' p n planned' target => by
        rw [wnd, planned] at planned'
        cases planned'
        rw [waits] at target
        cases target
      rw [same, State.judgeSplices_unknown unknown, wnd]
  · obtain ⟨⟨-, -, -, rlg, wnd, -⟩, -⟩ := h.2 (Nat.not_lt.mp room)
    refine ⟨fun c _ _ => by rw [wnd], fun c _ _ => wnd, ?_⟩
    rw [rlg]
    split
    · rfl
    · exact List.length_map _

theorem occasionTaken_winder {told : List Notice} (h : OccasionTaken j s v told) : WinderAfter s v := by
  by_cases opens : (s.pins.defectLine && s.running && !s.reverse && !(s.trk.events.any WebEvent.isOpen)) = true
  · exact arrives_winder (h.2 opens)
  · obtain ⟨rfl, -⟩ := h.1 (by simpa using opens)
    exact ⟨fun _ _ _ => rfl, fun _ _ _ => rfl, rfl⟩

theorem occasionTaken_job {told : List Notice} (h : OccasionTaken j s v told) : v.lsc.job = s.lsc.job := by
  by_cases opens : (s.pins.defectLine && s.running && !s.reverse && !(s.trk.events.any WebEvent.isOpen)) = true
  · by_cases room : s.trk.events.length < 16
    · rw [((h.2 opens).1 room).2.lsc (by decide)]
    · obtain ⟨⟨-, lsc, -⟩, -⟩ := (h.2 opens).2 (Nat.not_lt.mp room)
      rw [lsc]
      split
      · rfl
      · rw [State.raiseCause_lsc, Lsc.raised_job]
  · obtain ⟨rfl, -⟩ := h.1 (by simpa using opens)
    rfl

/-! ### The encoder moves -/

/-- The state once a line of the encoder has changed (R1, R3, R7). -/
def moved (line : EncoderLine) (s : State) : State :=
  let forward := match line with
    | .a => s.pins.encA == s.pins.encB
    | .b => s.pins.encA != s.pins.encB
  let w := if forward then s.wpu.w + 1 else s.wpu.w - 1
  { s with
    pins := { s.pins with encA := s.pins.encA ^^ (line == .a), encB := s.pins.encB ^^ (line == .b) }
    wpu := { s.wpu with
      w := w, h := if 0 < ahead w s.wpu.h then w else s.wpu.h,
      direction := if forward then .forward else .reverse, stopped := false, stoppedTime := 0,
      reversed := !decide (0 < ahead w s.wpu.h) && (decide (ahead w s.wpu.h < 0) || s.wpu.reversed) } }

theorem moved_eq (line : EncoderLine) (s : State) : moved line s =
    let u := s.wpu.move (forwardChange s.pins line)
    { s with
      pins := flipLine s.pins line
      wpu := { u with
        h := if 0 < ahead u.w s.wpu.h then u.w else s.wpu.h
        reversed := !decide (0 < ahead u.w s.wpu.h) && (decide (ahead u.w s.wpu.h < 0) || s.wpu.reversed) } } := by
  unfold moved flipLine
  cases line
  · simp only [beq_self_eq_true, Bool.xor_true, show (EncoderLine.a == EncoderLine.b) = false from rfl, Bool.xor_false]
    rfl
  · simp only [beq_self_eq_true, Bool.xor_true, show (EncoderLine.b == EncoderLine.a) = false from rfl, Bool.xor_false]
    rfl

/-- What follows the move of the web (R3). -/
theorem exec_encoderTransition (line : EncoderLine) (s : State) : exec (.encoderTransition line) s = .next
    (if 0 < ahead (moved line s).wpu.w s.wpu.h then (moved line s).withJob fun j =>
      ((if s.wpu.reversed then (moved line s).openingOccasion j else moved line s).tryWaiting j).tailCheck j
    else moved line s).endOfEvent := by
  let u := s.wpu.move (forwardChange s.pins line)
  let a : State := { s with pins := flipLine s.pins line, wpu := u }
  have ran : exec (.encoderTransition line) s = .next (if 0 < ahead u.w s.wpu.h then a.advance
    else if decide (ahead u.w s.wpu.h < 0) then { a with wpu := { a.wpu with reversed := true } } else a).endOfEvent := rfl
  have w : (moved line s).wpu.w = u.w := by rw [moved_eq]
  rw [ran, w]
  refine congrArg (fun v : State => Host.Outcome.next v.endOfEvent) ?_
  by_cases advances : 0 < ahead u.w s.wpu.h
  · have is : moved line s = { a with wpu := { u with h := u.w, reversed := false } } := by
      rw [moved_eq]
      dsimp only
      rw [if_pos advances, decide_eq_true advances]
      rfl
    rw [if_pos advances, if_pos advances, is]
    rfl
  · rw [if_neg advances, if_neg advances, moved_eq]
    dsimp only
    rw [if_neg advances, decide_eq_false advances]
    by_cases reverse : ahead u.w s.wpu.h < 0
    · rw [decide_eq_true reverse]
      rfl
    · rw [decide_eq_false reverse]
      rfl

/-! ### What an advance brings -/

/-- An opening occasion where the web had been in reverse travel (R17). -/
theorem occasion_spec (job : s.lsc.job = some j) (was : Bool) :
    let o := if was then s.openingOccasion j else s
    ∃ told, (was = false → o = s ∧ told = []) ∧ (was = true → OccasionTaken j s o told) ∧ Tells s o told ∧ WinderAfter s o ∧
      SameBut [.trk, .emb, .rlg, .wnd, .lsc, .lnk] s o ∧ o.lsc.job = s.lsc.job := by
  cases was with
  | false =>
    exact ⟨[], fun _ => ⟨rfl, rfl⟩, nofun, .nothing rfl, ⟨fun _ _ _ => rfl, fun _ _ _ => rfl, rfl⟩, SameBut.refl _ s, rfl⟩
  | true =>
    obtain ⟨told, taken, tells⟩ := State.openingOccasion_spec job
    exact ⟨told, nofun, fun _ => taken, tells, occasionTaken_winder taken, occasionTaken_outside taken, occasionTaken_job taken⟩

/-- The waiting cut after an arrival in s that has left v (R125). -/
theorem waiting_spec (winder : WinderAfter s v) (job : v.lsc.job = some j) : ∃ fired,
    ((∀ c, s.wnd.planned = some c → c.target ≠ .waiting) → v.tryWaiting j = v ∧ fired = []) ∧
    (∀ c, s.wnd.planned = some c → c.target = .waiting → v.wnd = s.wnd ∧
      (32 ≤ s.rlg.log.length ∨ (c.opens = .roll ∧ ∀ k, ¬Chosen s k) → v.tryWaiting j = v ∧ fired = []) ∧
      (s.rlg.log.length < 32 → (c.opens = .roll → ∃ k, Chosen s k) →
        CutFired j c.opens (back v.wpu.h j.dCut) none v (v.tryWaiting j) fired)) ∧
    Tells v (v.tryWaiting j) fired ∧ SameBut [.trk, .wnd, .rlg, .bat, .shu, .lbc, .lsc, .lnk] v (v.tryWaiting j) := by
  by_cases waits : ∃ c, s.wnd.planned = some c ∧ c.target = .waiting
  · obtain ⟨c, planned, target⟩ := waits
    have wnd := winder.waits c planned target
    have fails := cutFails_congr winder.length wnd c.opens
    have planned' : v.wnd.planned = some c := by rw [wnd, planned]
    by_cases fires : s.cutFails c.opens = none
    · obtain ⟨room, can⟩ := cutFails_eq_none.mp fires
      obtain ⟨fired, cut, tells⟩ := State.fireCut_spec job (back v.wpu.h j.dCut) none c.opens
      rw [State.tryWaiting_fires planned' target (fails.trans fires)]
      refine ⟨fired, fun none_ => absurd target (none_ c planned), fun c' is _ => ?_, tells, cut.1⟩
      cases planned.symm.trans is
      refine ⟨wnd, fun no => ?_, fun _ _ => cut⟩
      rw [cutFails_some no] at fires
      cases fires
    · have idle : v.tryWaiting j = v := State.tryWaiting_idle fun c' is _ => by
        cases planned'.symm.trans is
        rw [fails]
        exact fires
      rw [idle]
      refine ⟨[], fun none_ => absurd target (none_ c planned), fun c' is _ => ?_, .nothing rfl, SameBut.refl _ v⟩
      cases planned.symm.trans is
      exact ⟨wnd, fun _ => ⟨rfl, rfl⟩, fun room can => absurd (cutFails_eq_none.mpr ⟨room, can⟩) fires⟩
  · have idle : v.tryWaiting j = v := State.tryWaiting_idle fun c planned target _ =>
      waits ⟨c, (winder.begins c planned target).symm.trans planned, target⟩
    rw [idle]
    exact ⟨[], fun _ => ⟨rfl, rfl⟩, fun c planned target => absurd ⟨c, planned, target⟩ waits, .nothing rfl, SameBut.refl _ v⟩

end

/-- Settles O16: the web moves, and what an advance brings. -/
theorem encoderTransitionMovesTheWeb : Obligations.EncoderTransitionMovesTheWeb := by
  refine ⟨fun line s => ?_, fun s => ?_⟩
  · intro forward w m
    have first : SameBut [.pins, .wpu] s m := by
      intro b hb
      cases b <;> first | rfl | simp at hb
    have quiet : SameBut [.pins, .wpu, .lnk] s m.endOfEvent :=
      (first.mono (by decide)).trans (m.endOfEvent_sameBut.mono (by decide))
    have silent : Silent s m.endOfEvent [] := State.endOfEvent_silent_of_eq _ _ rfl
    have runs := exec_encoderTransition line s
    by_cases brings : 0 < ahead w s.wpu.h ∧ ∃ j, s.lsc.job = some j
    · obtain ⟨advances, j, job⟩ := brings
      obtain ⟨told, steady, taken, tells, winder, outside, job'⟩ := occasion_spec (s := m) job s.wpu.reversed
      let o := if s.wpu.reversed then m.openingOccasion j else m
      obtain ⟨fired, idle, waits, tells', frame⟩ := waiting_spec winder (job'.trans job)
      let x := o.tryWaiting j
      have wpu : x.wpu = m.wpu := (frame.wpu (by decide)).trans (outside.wpu (by decide))
      have pins : x.pins = m.pins := (frame.pins (by decide)).trans (outside.pins (by decide))
      have tail : x.tailCheck j = x := State.tailCheck_idle (by rw [wpu]; exact fun _ => rfl) j
      have runs' : exec (.encoderTransition line) s = .next x.endOfEvent := by
        rw [runs, if_pos (show 0 < ahead (moved line s).wpu.w s.wpu.h from advances)]
        refine congrArg (fun v : State => Host.Outcome.next v.endOfEvent) ?_
        have taken := State.withJob_some (s := m)
          (fun j => ((if s.wpu.reversed then m.openingOccasion j else m).tryWaiting j).tailCheck j) job
        exact taken.trans tail
      have ends := x.endOfEvent_sameBut
      have still : x = o → SameBut [.lnk] o x.endOfEvent := fun same => by
        rw [same] at ends ⊢
        exact ends
      have framed : SameBut [.pins, .wpu, .trk, .rlg, .bat, .shu, .lbc, .wnd, .lsc, .emb, .lnk] s x.endOfEvent :=
        frame_of_exec runs'
      refine ⟨_, o, told, fired, runs', by rw [State.endOfEvent_pins, pins], by rw [State.endOfEvent_wpu, wpu],
        framed, (Tells.trans tells tells').silent, fun none_ => ?_, fun j' _ job' => ?_⟩
      · rcases none_ with low | none_ | ⟨steady', none_⟩
        · exact absurd advances (Int.not_lt.mpr low)
        · rw [job] at none_
          cases none_
        · have still : x = m := by
            refine (idle fun c planned target => ?_).1.trans (steady steady').1
            have planned : s.wnd.planned = some c := planned
            rw [planned, Option.any_some, target] at none_
            cases none_
          rw [still]
          exact ⟨quiet, silent⟩
      · cases job.symm.trans job'
        refine ⟨steady, taken, fun none_ => ?_, fun c planned target => ?_⟩
        · obtain ⟨same, nothing⟩ := idle none_
          exact ⟨still same, nothing⟩
        · obtain ⟨wnd, fails, fires⟩ := waits c planned target
          refine ⟨wnd, fun no => ?_, fun room can => ?_⟩
          · obtain ⟨same, nothing⟩ := fails no
            exact ⟨still same, nothing⟩
          · have cut := fires room can
            have h : o.wpu.h = w := by
              rw [outside.wpu (by decide)]
              exact if_pos advances
            rw [h] at cut
            exact cutFired_sameBut cut ends
    · have runs' : exec (.encoderTransition line) s = .next m.endOfEvent := by
        rw [runs]
        refine congrArg (fun v : State => Host.Outcome.next v.endOfEvent) ?_
        split
        next advances =>
          refine State.withJob_none _ ?_
          refine Classical.byContradiction fun some_ => ?_
          exact brings ⟨advances, Option.ne_none_iff_exists'.mp some_⟩
        next => rfl
      exact ⟨_, m, [], [], runs', m.endOfEvent_pins, m.endOfEvent_wpu, quiet.mono (by decide), silent,
        fun _ => ⟨quiet, silent⟩, fun j advances job => absurd ⟨advances, j, job⟩ brings⟩
  · let v : State := { s with
      pins := { s.pins with encA := !s.pins.encA, encB := !s.pins.encB }
      wpu := { s.wpu with faultCount := satInc s.wpu.faultCount, encoderCond := true, faultInWindow := true } }
    have runs : exec .encoderFault s = .next (v.raiseCause .encoder).endOfEvent := rfl
    have frame := (v.raiseCause_affects .encoder).1
    obtain ⟨lsc, -, told⟩ := State.raiseCause_congr (s := s) (u := v) rfl rfl rfl rfl .encoder
    refine ⟨_, runs, ?_, ?_, ?_, frame_of_exec runs, State.endOfEvent_silent _ _ _ ?_⟩
    · rw [State.endOfEvent_pins, frame.pins (by decide)]
    · rw [State.endOfEvent_wpu, frame.wpu (by decide)]
      rfl
    · rw [State.endOfEvent_lsc, lsc]
    · rw [(v.raiseCause_spec .encoder).2, told]

end Sys2Proof.Machine
end

section
/-! PROOFS. The end of a job at the winder: the log, the columns of the return, STOPPED_FLAG_SET (R7, R92, R131, R187). -/

namespace Sys2Proof.Machine
-- One thread elaborates the proofs of this part in their order.
set_option Elab.async false

section
variable {s t u : State} {j : Job}

/-! ### What closings make of the log -/

/-- The entry y is e closed: what e was ended with stands (R141 to R144). -/
def ClosedAs (e y : Entry) : Prop :=
  y.seq = e.seq ∧ y.state = .closed ∧ y.start = e.start ∧ y.stop = e.stop ∧ y.length = e.length ∧
    y.flags.aborted = e.flags.aborted

theorem State.closeEntry_closes (s : State) (j : Job) (e : Entry) : ∃ y, ClosedAs e y ∧
    (s.closeEntry j e).rlg.log = s.rlg.log.map fun x => if x.seq = e.seq then y else x := by
  by_cases waste : e.IsWaste j
  · refine ⟨{ e.summed j with state := .closed }, ⟨rfl, rfl, rfl, rfl, rfl, rfl⟩, ?_⟩
    rw [State.closeEntry_waste waste]
    rfl
  · have closed := State.closeEntry_labelled (s := s) waste
    cases mean : (e.summed j).mean with
    | none =>
      rw [mean] at closed
      refine ⟨e.labelled j s.rlg.nextRoll 0 e.flags.batchOverflow, ⟨rfl, rfl, rfl, rfl, rfl, rfl⟩, ?_⟩
      rw [closed]
      rfl
    | some m =>
      rw [mean] at closed
      let after : State := { s with rlg := { s.rlg with nextRoll := rollAfter s.rlg.nextRoll } }
      let given := after.assignBatch j s.rlg.nextRoll m
      have kept : given.1.rlg = after.rlg := (after.assignBatch_affects j s.rlg.nextRoll m).1.rlg (by decide)
      have log : given.1.rlg.log = s.rlg.log := (congrArg Rlg.log kept).trans rfl
      refine ⟨e.labelled j s.rlg.nextRoll given.2 (e.flags.batchOverflow || given.2 == 0),
        ⟨rfl, rfl, rfl, rfl, rfl, rfl⟩, ?_⟩
      rw [closed]
      exact congrArg (List.map _) log

/-- After closings an entry is one that closed, or one of the log before that none of them overwrote. -/
theorem State.closings_log (j : Job) (closing : List Entry) : ∀ s : State,
    ∀ y ∈ (closing.foldl (fun u e => u.closeEntry j e) s).rlg.log,
      (∃ e ∈ closing, ClosedAs e y) ∨ (y ∈ s.rlg.log ∧ ∀ e ∈ closing, e.seq ≠ y.seq) := by
  induction closing with
  | nil => exact fun s y here => .inr ⟨here, fun e none_ => nomatch none_⟩
  | cons e rest ih =>
    intro s y here
    obtain ⟨written, closed, log⟩ := s.closeEntry_closes j e
    rcases ih (s.closeEntry j e) y here with ⟨x, inRest, is⟩ | ⟨before, apart⟩
    · exact .inl ⟨x, List.mem_cons_of_mem _ inRest, is⟩
    · rw [log] at before
      obtain ⟨x, old, is⟩ := List.mem_map.mp before
      by_cases same : x.seq = e.seq
      · rw [if_pos same] at is
        exact .inl ⟨e, List.mem_cons_self, is ▸ closed⟩
      · rw [if_neg same] at is
        subst is
        refine .inr ⟨old, fun z among => ?_⟩
        rcases List.mem_cons.mp among with rfl | later
        · exact fun is => same is.symm
        · exact apart z later

/-- The label channel changes of an entry the label state alone. -/
theorem State.labelWork_log (s : State) : ∀ y ∈ s.labelWork.rlg.log, ∃ x ∈ s.rlg.log, y = { x with label := y.label } := by
  intro y here
  have log : s.labelWork.rlg = (filled s).rlg := s.labelWork_works.1
  rw [log] at here
  obtain ⟨x, old, is⟩ := List.mem_map.mp here
  refine ⟨x, old, ?_⟩
  split at is <;> rw [← is]

/-- An entry after an examination of the log: one that closed, or one of the log before that did not, but for its label. -/
theorem State.examineLog_log (s : State) (j : Job) : ∀ y ∈ (s.examineLog j).rlg.log,
    (∃ e ∈ s.rlg.log, s.mayCloseEntry e = true ∧ ClosedAs e y) ∨
      ∃ x ∈ s.rlg.log, y = { x with label := y.label } ∧ s.mayCloseEntry x = false := by
  intro y here
  unfold State.examineLog at here
  dsimp only at here
  split at here
  next none_ =>
    refine .inr ⟨y, here, rfl, ?_⟩
    have none_ := List.filter_eq_nil_iff.mp (List.isEmpty_iff.mp none_) y here
    simpa using none_
  next =>
    obtain ⟨x, old, is⟩ := State.labelWork_log _ y here
    rcases State.closings_log j _ s x old with ⟨e, among, closed⟩ | ⟨old, apart⟩
    · obtain ⟨old, may⟩ := List.mem_filter.mp among
      refine .inl ⟨e, old, may, ?_⟩
      rw [is]
      exact closed
    · refine .inr ⟨x, old, is, ?_⟩
      refine Classical.byContradiction fun may => ?_
      exact apart x (List.mem_filter.mpr ⟨old, by simpa using may⟩) rfl

/-- The entries numbered seq are those of a segment that has ended at stop (R131, R136). -/
def EndedLog (seq : BitVec 32) (stop : Count) (aborted : Bool) (log : List Entry) : Prop :=
  ∀ y ∈ log, y.seq = seq → (y.state = .cut ∨ y.state = .closed) ∧ y.stop = some stop ∧
    y.length = some (ahead stop y.start).toNat ∧ (aborted = true → y.flags.aborted = true)

theorem EndedLog.examined {seq : BitVec 32} {stop : Count} {aborted : Bool} (h : EndedLog seq stop aborted s.rlg.log)
    (j : Job) : EndedLog seq stop aborted (s.examineLog j).rlg.log := by
  intro y here numbered
  rcases s.examineLog_log j y here with ⟨e, old, -, same, closed, start, stop_, length, flag⟩ | ⟨x, old, is, -⟩
  · obtain ⟨-, ended, long, marked⟩ := h e old (same.symm.trans numbered)
    exact ⟨.inr closed, stop_.trans ended, by rw [length, long, start], fun by_ => flag.trans (marked by_)⟩
  · rw [is] at numbered ⊢
    exact h x old numbered

theorem EndedLog.withEnded {seq : BitVec 32} {stop : Count} {aborted : Bool}
    (open_ : ∀ e ∈ s.rlg.log, e.seq = seq → e.state = .opened) :
    EndedLog seq stop aborted (withEnded s seq stop aborted).rlg.log := by
  intro y here numbered
  obtain ⟨x, old, is⟩ := List.mem_map.mp here
  by_cases same : x.seq = seq
  · rw [if_pos same, endedAt, if_pos (open_ x old same)] at is
    subst is
    exact ⟨.inl rfl, rfl, rfl, fun by_ => by simp [by_]⟩
  · rw [if_neg same] at is
    exact absurd (is ▸ numbered) same

/-! ### The records of the track are folded -/

/-- Where an entry lies, and how it stands. -/
def Entry.place (x : Entry) : BitVec 32 × Count × Option Count := (x.seq, x.start, x.stop)

/-- A folded record changes nothing of where an entry lies, or how it ended. -/
theorem foldedEntry_keeps (r : RepeatRecord) (x : Entry) :
    (foldedEntry r x).place = x.place ∧
      ((foldedEntry r x).state, (foldedEntry r x).length, (foldedEntry r x).flags) = (x.state, x.length, x.flags) := by
  unfold foldedEntry
  dsimp only
  split <;> exact ⟨rfl, rfl⟩

/-- The entry x of a log, once a record is counted into the newest entry that contains its origin (R138). -/
def foldedIn (log : List Entry) (r : RepeatRecord) (x : Entry) : Entry :=
  if ((log.reverse.find? fun y => y.contains r.origin).map Entry.seq) == some x.seq then foldedEntry r x else x

theorem foldedIn_place (log : List Entry) (r : RepeatRecord) (x : Entry) : (foldedIn log r x).place = x.place := by
  unfold foldedIn
  split
  · exact (foldedEntry_keeps r x).1
  · rfl

theorem State.foldInto_eq (s : State) (r : RepeatRecord) :
    s.foldInto r = { s with rlg := { s.rlg with log := s.rlg.log.map (foldedIn s.rlg.log r) } } := by
  unfold State.foldInto State.updateContaining
  cases found : s.entryOf r.origin with
  | none =>
    have nowhere : s.rlg.log.map (foldedIn s.rlg.log r) = s.rlg.log :=
      List.map_id'' (fun x => if_neg (by rw [show s.rlg.log.reverse.find? _ = none from found]; simp)) _
    rw [nowhere]
  | some y =>
    have here : s.rlg.log.map (foldedIn s.rlg.log r) =
        s.rlg.log.map fun x => if x.seq = y.seq then x.fold r.forFold else x := by
      refine List.map_congr_left fun x _ => ?_
      unfold foldedIn
      rw [show s.rlg.log.reverse.find? _ = some y from found, Entry.fold_eq]
      by_cases same : x.seq = y.seq
      · rw [if_pos same, if_pos (by simp [same])]
      · rw [if_neg same]
        exact if_neg fun is => same (Option.some.inj (eq_of_beq is)).symm
    rw [here]
    rfl

/-- Which entry a record is counted into hangs on where the entries lie alone. -/
theorem newest_map {f : Entry → Entry} (keeps : ∀ x, (f x).place = x.place) (log : List Entry) (d : Count) :
    (((log.map f).reverse.find? fun x => x.contains d).map Entry.seq) =
      ((log.reverse.find? fun x => x.contains d).map Entry.seq) := by
  have seq (x : Entry) : (f x).seq = x.seq := congrArg Prod.fst (keeps x)
  have contains : ((fun x : Entry => x.contains d) ∘ f) = fun x => x.contains d := by
    funext x
    have place := keeps x
    simp only [Entry.place, Prod.mk.injEq] at place
    simp only [Function.comp_apply, Entry.contains, place.2.1, place.2.2]
  rw [← List.map_reverse, List.find?_map, contains, Option.map_map]
  exact congrArg (fun g => Option.map g _) (funext seq)

theorem foldedAtEnd_map {f : Entry → Entry} (keeps : ∀ x, (f x).place = x.place) (records : List RepeatRecord)
    (log : List Entry) (stop : Count) (q : BitVec 32) :
    foldedAtEnd records (log.map f) stop q = foldedAtEnd records log stop q := by
  unfold foldedAtEnd
  simp only [newest_map keeps]

/-- The entry x of a log, once the records before stop are counted at the end of a job (R92, R131). -/
def countedAtEnd (records : List RepeatRecord) (log : List Entry) (stop : Count) (x : Entry) : Entry :=
  (foldedAtEnd records log stop x.seq).foldl (fun x y => foldedEntry y x) x

theorem countedAtEnd_cons (r : RepeatRecord) (records : List RepeatRecord) (log : List Entry) (stop : Count) (x : Entry) :
    countedAtEnd (r :: records) log stop x = if reached r.origin stop then countedAtEnd records log stop x
      else countedAtEnd records log stop (foldedIn log (r.markEmboss .lifted) x) := by
  have origin : (r.markEmboss .lifted).origin = r.origin := by
    unfold RepeatRecord.markEmboss
    split <;> rfl
  have seq : (foldedIn log (r.markEmboss .lifted) x).seq = x.seq :=
    congrArg Prod.fst (foldedIn_place log (r.markEmboss .lifted) x)
  unfold countedAtEnd
  rw [seq]
  by_cases past : reached r.origin stop = true
  · rw [if_pos past]
    simp only [foldedAtEnd, List.filter_cons, past, Bool.not_true, Bool.false_and, Bool.false_eq_true, if_false]
  · rw [if_neg past]
    unfold foldedIn
    rw [origin]
    by_cases into : (((log.reverse.find? fun y => y.contains r.origin).map Entry.seq) == some x.seq) = true
    · rw [if_pos into]
      simp only [foldedAtEnd, List.filter_cons, past, into, Bool.not_false, Bool.true_and, if_true, List.map_cons,
        List.foldl_cons]
      rfl
    · rw [if_neg into]
      simp only [foldedAtEnd, List.filter_cons, into, Bool.and_false, Bool.false_eq_true, if_false]

theorem State.foldRemaining_eq (s : State) (stop : Count) : s.foldRemaining stop =
    { s with rlg := { s.rlg with log := s.rlg.log.map (countedAtEnd s.trk.records s.rlg.log stop) } } := by
  have fold : ∀ (records : List RepeatRecord) (s : State),
      records.foldl (fun (s : State) r => if reached r.origin stop then s else s.foldInto (r.markEmboss .lifted)) s =
        { s with rlg := { s.rlg with log := s.rlg.log.map (countedAtEnd records s.rlg.log stop) } } := by
    intro records
    induction records with
    | nil =>
      intro s
      have none_ : countedAtEnd [] s.rlg.log stop = id := rfl
      rw [none_, List.map_id]
      rfl
    | cons r records ih =>
      intro s
      rw [List.foldl_cons, ih]
      by_cases past : reached r.origin stop = true
      · rw [if_pos past]
        have same : countedAtEnd (r :: records) s.rlg.log stop = countedAtEnd records s.rlg.log stop :=
          funext fun x => (countedAtEnd_cons r records s.rlg.log stop x).trans (if_pos past)
        rw [same]
      · rw [if_neg past, State.foldInto_eq]
        have steps : (s.rlg.log.map (foldedIn s.rlg.log (r.markEmboss .lifted))).map
              (countedAtEnd records (s.rlg.log.map (foldedIn s.rlg.log (r.markEmboss .lifted))) stop) =
            s.rlg.log.map (countedAtEnd (r :: records) s.rlg.log stop) := by
          rw [List.map_map]
          refine List.map_congr_left fun x _ => ?_
          rw [countedAtEnd_cons, if_neg past]
          unfold countedAtEnd
          rw [Function.comp_apply, foldedAtEnd_map (foldedIn_place _ _)]
        exact congrArg (fun log => ({ s with rlg := { s.rlg with log := log } } : State)) steps
  exact fold s.trk.records s

/-- Counting changes nothing of where an entry lies, or how it ended. -/
theorem countedAtEnd_keeps (records : List RepeatRecord) (log : List Entry) (stop : Count) (x : Entry) :
    (countedAtEnd records log stop x).place = x.place ∧
      ((countedAtEnd records log stop x).state, (countedAtEnd records log stop x).length,
        (countedAtEnd records log stop x).flags) = (x.state, x.length, x.flags) := by
  unfold countedAtEnd
  generalize foldedAtEnd records log stop x.seq = folded
  induction folded generalizing x with
  | nil => exact ⟨rfl, rfl⟩
  | cons r rest ih =>
    obtain ⟨place, rest_⟩ := foldedEntry_keeps r x
    exact ⟨(ih _).1.trans place, (ih _).2.trans rest_⟩

theorem EndedLog.counted {seq : BitVec 32} {stop : Count} {aborted : Bool} {log : List Entry}
    (h : EndedLog seq stop aborted log) (records : List RepeatRecord) (log' : List Entry) (stop' : Count) :
    EndedLog seq stop aborted (log.map (countedAtEnd records log' stop')) := by
  intro y here numbered
  obtain ⟨x, old, is⟩ := List.mem_map.mp here
  obtain ⟨place, rest⟩ := countedAtEnd_keeps records log' stop' x
  rw [is] at place rest
  simp only [Entry.place, Prod.mk.injEq] at place rest
  obtain ⟨seq_, start, stop_⟩ := place
  obtain ⟨state, length, flags⟩ := rest
  rw [state, stop_, length, start, flags]
  exact h x old (seq_.symm.trans numbered)

/-! ### The active entry is ended at the knife -/

/-- What closings leave of the head and of its measurement. -/
def headItems (x : Shu) : HeadState × Option Measurement × List (BitVec 32 × Count) × Nat :=
  (x.head, x.meas, x.starts, x.faultCount)

theorem headItems_shadeTold (x : Shu) (r : Option LineBatch) : headItems (shadeTold x r) = headItems x := by
  unfold shadeTold
  split <;> rfl

theorem headItems_keptByClosing (x : HeadState × Option Measurement × List (BitVec 32 × Count) × Nat) :
    KeptByClosing fun s => headItems s.shu = x where
  entry _ h := h
  roll _ h := h
  assign {s} j roll mean h := by
    have settle : ∀ b i o, headItems (s.settleAssign j b i o).shu = headItems s.shu := fun b i o => by
      unfold State.settleAssign
      dsimp only
      rw [State.reportLineBatch_eq]
      refine (headItems_shadeTold _ _).trans ?_
      split <;> rfl
    refine Eq.trans ?_ h
    unfold State.assignBatch
    split
    · split
      · exact settle _ _ _
      · rfl
    · split
      · exact settle _ _ _
      · rfl
  told _ h := h
  labels {s} h := by
    rw [s.labelWork_sameBut.shu (by decide)]
    exact h

/-- The state with the active entry ended at the knife, the log examined (R131, R132). -/
def lastEnded (s : State) (j : Job) (aborted : Bool) : State :=
  match s.wnd.active with
  | none => s
  | some g => s.endEntry g.seq (back s.wpu.h j.dCut) aborted

/-- The winder once the last segment has ended: a ROLL's spindle FULL, turret and knife pulsed (R131, R132). -/
def lastWnd (w : Wnd) : Wnd :=
  match w.active with
  | none => w
  | some g => if g.role = .roll then { endedWnd g w with knife := some 400000 } else w

/-- What the end of the last segment in s leaves, a, with the notices told. -/
structure LastEnded (j : Job) (aborted : Bool) (s a : State) (told : List Notice) : Prop where
  idle : s.wnd.active = none → a = s ∧ told = []
  examined : ∀ g, s.wnd.active = some g → LogExamined j (withEnded s g.seq (back s.wpu.h j.dCut) aborted) a told
  ended : ∀ g, s.wnd.active = some g → (∀ e ∈ s.rlg.log, e.seq = g.seq → e.state = .opened) →
    EndedLog g.seq (back s.wpu.h j.dCut) aborted a.rlg.log
  tells : Tells s a told
  frame : SameBut [.rlg, .bat, .shu, .lbc, .lnk] s a
  seqs : a.rlg.log.map Entry.seq = s.rlg.log.map Entry.seq
  next : a.rlg.nextSeq = s.rlg.nextSeq
  head : headItems a.shu = headItems s.shu

theorem lastEnded_spec (job : s.lsc.job = some j) (aborted : Bool) :
    ∃ told, LastEnded j aborted s (lastEnded s j aborted) told := by
  cases active : s.wnd.active with
  | none =>
    have is : lastEnded s j aborted = s := by
      unfold lastEnded
      rw [active]
    rw [is]
    exact ⟨[], fun _ => ⟨rfl, rfl⟩, fun g some_ => (nomatch active.symm.trans some_),
      fun g some_ => (nomatch active.symm.trans some_), .nothing rfl, SameBut.refl _ s, rfl, rfl, rfl⟩
  | some g =>
    let stop := back s.wpu.h j.dCut
    have is : lastEnded s j aborted = s.endEntry g.seq stop aborted := by
      unfold lastEnded
      rw [active]
    obtain ⟨told, examined, tells, frame, seqs, next⟩ := State.endEntry_spec job g.seq stop aborted
    rw [is]
    refine ⟨told, fun none_ => (nomatch active.symm.trans none_), fun g' some_ => ?_, fun g' some_ opened => ?_, tells, frame,
      seqs, next, (headItems_keptByClosing _).endEntry _ _ _ rfl⟩
    · cases active.symm.trans some_
      exact examined
    · cases active.symm.trans some_
      have taken := State.withJob_some (s := withEnded s g.seq stop aborted) (withEnded s g.seq stop aborted).examineLog job
      rw [show s.endEntry g.seq stop aborted = _ from taken]
      exact (EndedLog.withEnded opened).examined j

theorem State.endLast_eq (job : s.lsc.job = some j) (aborted : Bool) :
    s.endLast j aborted = { lastEnded s j aborted with wnd := lastWnd s.wnd } := by
  obtain ⟨told, last⟩ := lastEnded_spec job aborted
  have wnd : (lastEnded s j aborted).wnd = s.wnd := last.frame.wnd (by decide)
  rw [← wnd]
  unfold State.endLast lastEnded lastWnd at *
  cases active : s.wnd.active with
  | none => simp only [active]
  | some g =>
    simp only [active] at wnd ⊢
    rw [wnd, active]
    dsimp only
    by_cases roll : g.role = .roll
    · rw [if_pos roll, if_pos roll]
      unfold endedWnd spindleAfter
      simp only [roll, true_and, if_true]
      rw [← wnd]
      rfl
    · rw [if_neg roll, if_neg roll]
      exact congrArg (fun w : Wnd => ({ s.endEntry g.seq (s.knifeAt j) aborted with wnd := w } : State)) wnd

/-! ### The columns of the return -/

/-- The emboss unit in its column of the return, its train aborted and the nip yet to evaluate (R55, R90, R96). -/
def returnedEmb (s : State) : Emb :=
  { s.emb with
    zoneActive := false, release := none, heldOpen := false, windows := [], reg := .seeking, missCount := 0
    phase := .idle, acc := []
    trim := match s.emb.train with
      | some n => if (s.chan 8).inFlight then proratedTrim n (s.chan 8) else s.emb.trim
      | none => s.emb.trim
    train := if (s.chan 8).inFlight then none else s.emb.train }

theorem State.embossReturn_returned (s : State) : s.embossReturn.emb = returnedEmb s := by
  rw [State.embossReturn_emb]
  unfold State.abortEmboss returnedEmb
  dsimp only
  by_cases flying : (s.chan embossChannel).inFlight = true
  · rw [if_pos flying]
    have flying' : (s.chan 8).inFlight = true := flying
    have kept : (s.stopTrain embossChannel).emb = s.emb := rfl
    cases note : s.emb.train with
    | none =>
      simp only [kept, note, flying', if_true]
      rfl
    | some n =>
      simp only [kept, note, flying', if_true, prorate_eq]
      rfl
  · rw [if_neg flying]
    have idle : (s.chan 8).inFlight ≠ true := flying
    simp only [idle]
    unfold Emb.atReturn
    cases s.emb.train <;> rfl

theorem State.abortEmboss_stops (s : State) (c : ChannelId) :
    s.abortEmboss.chan c = if c = 8 then (s.chan c).stopped else s.chan c := by
  have stop : (s.stopTrain embossChannel).chan c = if c = 8 then (s.chan c).stopped else s.chan c := by
    unfold State.stopTrain
    rw [State.chan_putChan]
    by_cases same : c = 8
    · subst same
      exact (if_pos rfl).trans rfl
    · exact (if_neg (show ¬c = embossChannel from same)).trans (if_neg same).symm
  unfold State.abortEmboss
  dsimp only
  split
  · split
    · exact stop
    · exact stop
  next idle =>
    split
    next same =>
      subst same
      exact (Channel.stopped_of_idle (by simpa [embossChannel] using idle)).symm
    next => rfl

/-- At the return to READY no channel is left in flight (R55, R73, R90). -/
theorem State.returnToReady_chan (s : State) (c : ChannelId) : s.returnToReady.chan c = (s.chan c).stopped := by
  obtain ⟨-, stg, -⟩ := State.left_rlp s.registerReturn.embossReturn.shadeReturn s.returnToReady
    (by simp only [State.returnToReady])
  have shade := s.registerReturn.embossReturn.shadeReturn_affects.1.stg (by decide)
  have is : s.returnToReady.chan c = s.registerReturn.abortEmboss.chan c := by
    unfold State.chan
    rw [stg, shade, State.embossReturn_stg]
  obtain ⟨-, -, stations, emboss⟩ := State.abortStations_spec (List.nodup_finRange 8) s
  rw [is, State.abortEmboss_stops, State.registerReturn_chan]
  have cases_ : ∀ c : ChannelId, c = 8 ∨ ∃ k : StationId, c = channelOf k ∧ c ≠ 8 := by decide
  rcases cases_ c with rfl | ⟨k, rfl, other⟩
  · rw [if_pos rfl]
    exact congrArg Channel.stopped emboss
  · rw [if_neg other]
    exact (stations k).trans (if_pos (List.mem_finRange k))

/-- A line that leaves its state for READY judges the nip, which then may not be closed (R77, R78, R189). -/
theorem State.setLineState_ready (job : s.lsc.job = some j) (running : s.lsc.lineState ≠ .ready) :
    (s.setLineState .ready).emb = evaluated j false s.emb ∧
      (s.setLineState .ready).lnk = s.lnk.raised [.lineState] := by
  let x := ({ s with lsc := { s.lsc with lineState := .ready } } : State).raiseNotice .lineState
  have is : s.setLineState .ready = x.evaluateNip := if_neg running
  rw [is, State.evaluateNip_eq (show x.lsc.job = some j from job), closePermitted_of_line (by exact nofun)]
  exact ⟨rfl, rfl⟩

/-- The last steps of the return to READY, from the state r that the blocks have left. -/
theorem State.left_emb {r : State} (job : r.lsc.job = some j) (running : r.lsc.lineState ≠ .ready) :
    ∀ a, a = ({ r with
        msc := r.msc.atBoundary, wnd := r.wnd.atReturn,
        lsc := { r.lsc with latched := {}, runPermit := false } } : State).setLineState .ready →
      a.emb = evaluated j false r.emb ∧ a.lnk = r.lnk.raised [.lineState] := by
  rintro a rfl
  exact State.setLineState_ready (s := { r with
    msc := r.msc.atBoundary, wnd := r.wnd.atReturn, lsc := { r.lsc with latched := {}, runPermit := false } }) job running

/-- The blocks tell nothing as they return. -/
theorem State.returned_lnk (s : State) : s.registerReturn.embossReturn.shadeReturn.lnk = s.lnk := by
  have shade (v : State) : v.shadeReturn.lnk = v.lnk := by
    unfold State.shadeReturn State.abandonMeasurement
    cases v.shu.meas <;> rfl
  have emboss (v : State) : v.embossReturn.lnk = v.lnk := by
    unfold State.embossReturn State.abortEmboss
    dsimp only
    split
    · split <;> rfl
    · rfl
  have aborts := (State.abortStations_spec (List.nodup_finRange 8) s).1
  have stations : s.abortStations.lnk = s.lnk := by
    unfold State.abortStations
    exact aborts.lnk (by decide)
  have register : s.registerReturn.lnk = s.abortStations.lnk := by
    unfold State.registerReturn
    generalize s.abortStations = v
    rfl
  rw [shade, emboss, register, stations]

/-- The return to READY tells LINE_STATE, and judges the emboss unit in its column (R90, R96, R189). -/
theorem State.returnToReady_emb (job : s.lsc.job = some j) (running : s.lsc.lineState ≠ .ready) :
    s.returnToReady.emb = evaluated j false (returnedEmb s) ∧ Tells s s.returnToReady [.lineState] := by
  have register := s.registerReturn_affects
  have emboss := s.registerReturn.embossReturn_affects
  have shade := s.registerReturn.embossReturn.shadeReturn_affects
  have chan : s.registerReturn.chan 8 = s.chan 8 := by
    rw [State.registerReturn_chan]
    exact (State.abortStations_spec (List.nodup_finRange 8) s).2.2.2
  have same : returnedEmb s.registerReturn = returnedEmb s := by
    unfold returnedEmb
    rw [chan, register.1.emb (by decide)]
  have emb : s.registerReturn.embossReturn.shadeReturn.emb = returnedEmb s := by
    rw [shade.1.emb (by decide), State.embossReturn_returned, same]
  have lsc : s.registerReturn.embossReturn.shadeReturn.lsc = s.lsc := by
    rw [shade.1.lsc (by decide), emboss.1.lsc (by decide), register.1.lsc (by decide)]
  obtain ⟨judged, told⟩ := State.left_emb (r := s.registerReturn.embossReturn.shadeReturn) (by rw [lsc]; exact job)
    (by rw [lsc]; exact running) s.returnToReady (by simp only [State.returnToReady])
  refine ⟨by rw [judged, emb], .of_raised ?_⟩
  rw [told, State.returned_lnk]

theorem State.abandonMeasurement_shu (s : State) : s.abandonMeasurement.shu =
    { s.shu with meas := none, head := if s.shu.meas.isSome then .idle else s.shu.head } := by
  unfold State.abandonMeasurement
  cases meas : s.shu.meas with
  | none =>
    simp only [Option.isSome_none, Bool.false_eq_true, if_false]
    rw [← meas]
  | some m => rfl

theorem trk_eq {x : Trk} (records : x.records = []) (events : x.events = []) (lost : x.eventLost = false) :
    x = { records := [], events := [], eventLost := false } := by
  cases x
  subst records events lost
  rfl

/-- The return to READY from r, what the end of the last segment of s has left (R187). -/
theorem columnsOfReturn {r : State} (job : s.lsc.job = some j) (running : s.lsc.lineState ≠ .ready)
    (frame : SameBut [.trk, .rlg, .bat, .shu, .lbc, .wnd, .lnk] s r) (wnd : r.wnd = lastWnd s.wnd)
    (trk : r.trk = { records := [], events := [], eventLost := false }) (head : headItems r.shu = headItems s.shu) :
    ColumnsOfReturn j s r r.returnToReady := by
  obtain ⟨lsc', msc', wnd', -, -, -, -, -, -, events, lost, records⟩ := r.returnToReady_spec
  have lsc : r.lsc = s.lsc := frame.lsc (by decide)
  have emb : r.emb = s.emb := frame.emb (by decide)
  have chan (c : ChannelId) : r.chan c = s.chan c := congrArg (fun g : Stg => g.channels[c]) (frame.stg (by decide))
  have station (i : StationId) : r.station i = s.station i :=
    congrArg (fun g : Rlp => g.stations[i]) (frame.rlp (by decide))
  have rest := r.returnToReady_affects.1
  have heads := head
  simp only [headItems, Prod.mk.injEq] at heads
  obtain ⟨head_, meas, -, -⟩ := heads
  refine ⟨fun c => ?_, fun i => ?_, ?_, ?_, head, ?_, ?_, ?_, ?_, ?_⟩
  · rw [State.returnToReady_chan, chan]
    rfl
  · have aborted : r.abortStations.station i = trainAborted s i :=
      ((State.abortStations_spec (List.nodup_finRange 8) r).2.1 i).trans
        ((if_pos (List.mem_finRange i)).trans (trainAborted_congr (station i) (chan _)))
    rw [r.returnToReady_stations.1 i, aborted]
    rfl
  · have column : returnedEmb r = returnedEmb s := by
      unfold returnedEmb
      rw [emb, chan]
    have judged := (State.returnToReady_emb (s := r) (by rw [lsc]; exact job) (by rw [lsc]; exact running)).1
    exact judged.trans (congrArg (evaluated j false) column)
  · have kept : r.registerReturn.embossReturn.shu = r.shu :=
      (r.registerReturn.embossReturn_affects.1.shu (by decide)).trans (r.registerReturn_affects.1.shu (by decide))
    rw [State.returnToReady_shu, State.abandonMeasurement_shu, kept, head_, meas]
  · rw [msc', frame.msc (by decide)]
    rfl
  · rw [wnd', wnd]
    unfold lastWnd
    cases s.wnd.active with
    | none => rfl
    | some g =>
      dsimp only
      by_cases roll : g.role = .roll
      · rw [if_pos roll]
        rfl
      · rw [if_neg roll]
        rfl
  · rw [lsc', lsc]
  · exact trk_eq (records (by rw [trk])) (events.trans (by rw [trk])) (lost.trans (by rw [trk]))
  · rw [rest.rlg (by decide), rest.bat (by decide), rest.lbc (by decide)]

/-! ### The end of a job -/

/-- The state with the records counted and the track emptied, a being what the end of the last segment left (R92, R131). -/
def trackFolded (s a : State) (j : Job) : State :=
  { a with
    wnd := lastWnd s.wnd, trk := { records := [], events := [], eventLost := false }
    rlg := { a.rlg with log := a.rlg.log.map (countedAtEnd s.trk.records a.rlg.log (back s.wpu.h j.dCut)) } }

theorem State.finishJob_eq (job : s.lsc.job = some j) (aborted : Bool) :
    s.finishJob j aborted = ((trackFolded s (lastEnded s j aborted) j).examineLog j).returnToReady := by
  obtain ⟨told, last⟩ := lastEnded_spec job aborted
  have trk : (lastEnded s j aborted).trk = s.trk := last.frame.trk (by decide)
  have wpu : (lastEnded s j aborted).wpu = s.wpu := last.frame.wpu (by decide)
  have folded : ((s.endLast j aborted).foldRemaining ((s.endLast j aborted).knifeAt j)).emptyTrack =
      trackFolded s (lastEnded s j aborted) j := by
    rw [State.endLast_eq job, State.foldRemaining_eq]
    unfold State.knifeAt trackFolded State.emptyTrack
    dsimp only
    rw [trk, wpu]
  exact congrArg (fun v : State => (v.examineLog j).returnToReady) folded

theorem SpindleState.filled_eq {g : Segment} (roll : g.role = .roll) (x : SpindleState) :
    spindleAfter g x = if x = .winding g.seq then .full g.seq else x := by
  simp [spindleAfter, roll]

/-- The winder's outputs and spindles once the last segment has ended (R115, R131). -/
theorem lastWnd_spec (s t : State) (is : t.wnd = (lastWnd s.wnd).atReturn) :
    (s.wnd.active = none → t.wnd.knife = s.wnd.knife ∧ t.wnd.turret = s.wnd.turret ∧ ∀ k, t.spindle k = s.spindle k) ∧
      ∀ g, s.wnd.active = some g →
        (g.role = .roll → t.wnd.knife = some 400000 ∧ t.wnd.turret = some 400000 ∧
          ∀ k, t.spindle k = if s.spindle k = .winding g.seq then .full g.seq else s.spindle k) ∧
        (g.role ≠ .roll → t.wnd.knife = s.wnd.knife ∧ t.wnd.turret = s.wnd.turret ∧ ∀ k, t.spindle k = s.spindle k) := by
  have same : lastWnd s.wnd = s.wnd →
      t.wnd.knife = s.wnd.knife ∧ t.wnd.turret = s.wnd.turret ∧ ∀ k, t.spindle k = s.spindle k := fun kept => by
    rw [kept] at is
    refine ⟨by rw [is]; rfl, by rw [is]; rfl, fun k => ?_⟩
    unfold State.spindle
    rw [is]
    rfl
  refine ⟨fun none_ => same (by unfold lastWnd; rw [none_]), fun g active => ⟨fun roll => ?_, fun other => same ?_⟩⟩
  · have ended : lastWnd s.wnd = { endedWnd g s.wnd with knife := some 400000 } := by
      unfold lastWnd
      rw [active]
      exact if_pos roll
    rw [ended] at is
    refine ⟨by rw [is]; rfl, ?_, fun k => ?_⟩
    · rw [is]
      exact if_pos roll
    · rw [← SpindleState.filled_eq roll]
      unfold State.spindle
      rw [is]
      cases k <;> rfl
  · unfold lastWnd
    rw [active]
    exact if_neg other

/-- What stands before the return to READY: r is what the last examination of the log has left, b the emptied track, a the
ended segment (R131, R132). -/
structure TailFolded (j : Job) (aborted : Bool) (s a b r : State) (told told' : List Notice) : Prop where
  last : LastEnded j aborted s a told
  folded : SameBut [.trk, .rlg, .wnd] a b
  empty : b.trk = { records := [], events := [], eventLost := false }
  counter : b.rlg = { a.rlg with log := b.rlg.log }
  counted : b.rlg.log = a.rlg.log.map (countedAtEnd s.trk.records a.rlg.log (back s.wpu.h j.dCut))
  examined : LogExamined j b r told'
  tells : Tells a r told'
  frame : SameBut [.trk, .rlg, .bat, .shu, .lbc, .wnd, .lnk] s r
  wnd : r.wnd = lastWnd s.wnd
  trk : r.trk = { records := [], events := [], eventLost := false }
  next : r.rlg.nextSeq = s.rlg.nextSeq
  seqs : r.rlg.log.map Entry.seq = s.rlg.log.map Entry.seq
  closed : ∀ e ∈ r.rlg.log, e.state = .cut → e.stop = none
  head : headItems r.shu = headItems s.shu
  ended : ∀ g, s.wnd.active = some g → (∀ e ∈ s.rlg.log, e.seq = g.seq → e.state = .opened) →
    EndedLog g.seq (back s.wpu.h j.dCut) aborted r.rlg.log

theorem countedAtEnd_seqs (records : List RepeatRecord) (log : List Entry) (stop : Count) :
    (log.map (countedAtEnd records log stop)).map Entry.seq = log.map Entry.seq := by
  refine (List.map_map ..).trans (List.map_congr_left fun x _ => ?_)
  exact congrArg Prod.fst (countedAtEnd_keeps records log stop x).1

theorem tailFolded {a : State} {told : List Notice} {aborted : Bool} (last : LastEnded j aborted s a told) :
    ∃ told', TailFolded j aborted s a (trackFolded s a j) ((trackFolded s a j).examineLog j) told told' := by
  have folded : SameBut [.trk, .rlg, .wnd] a (trackFolded s a j) := by
    intro x hx
    cases x <;> first | rfl | simp at hx
  have empty : (trackFolded s a j).trk = { records := [], events := [], eventLost := false } := rfl
  have counted : (trackFolded s a j).rlg.log =
    a.rlg.log.map (countedAtEnd s.trk.records a.rlg.log (back s.wpu.h j.dCut)) := rfl
  have counter : (trackFolded s a j).rlg = { a.rlg with log := (trackFolded s a j).rlg.log } := rfl
  have lnk : (trackFolded s a j).lnk = a.lnk := rfl
  have wnd : (trackFolded s a j).wnd = lastWnd s.wnd := rfl
  generalize trackFolded s a j = b at *
  obtain ⟨told', examined, tells, frame⟩ := b.examineLog_spec j
  have numbers : b.rlg.log.map Entry.seq = a.rlg.log.map Entry.seq := by
    rw [counted]
    exact countedAtEnd_seqs ..
  refine ⟨told', last, folded, empty, counter, counted, examined, ?_, ?_, ?_, ?_, ?_, ?_, fun e here cut => ?_, ?_,
    fun g some_ opened => ?_⟩
  · obtain ⟨raised, is, same⟩ := tells
    exact ⟨raised, by rw [is, lnk], same⟩
  · exact ((last.frame.mono (by decide)).trans (folded.mono (by decide))).trans (frame.mono (by decide))
  · rw [frame.wnd (by decide), wnd]
  · rw [frame.trk (by decide), empty]
  · refine (nextSeq_keptByClosing s.rlg.nextSeq).examineLog j ?_
    rw [counter]
    exact last.next
  · exact (b.examineLog_logSeqs j).trans (numbers.trans last.seqs)
  · rcases b.examineLog_log j e here with ⟨x, -, -, -, closed, -⟩ | ⟨x, -, same, waits⟩
    · rw [closed] at cut
      cases cut
    · rw [same] at cut ⊢
      show x.stop = none
      rw [mayCloseEntry_eq, empty] at waits
      cases stop : x.stop with
      | none => rfl
      | some d => simp [show x.state = .cut from cut, stop] at waits
  · refine (headItems_keptByClosing (headItems s.shu)).examineLog j ?_
    rw [folded.shu (by decide)]
    exact last.head
  · refine EndedLog.examined ?_ j
    rw [counted]
    exact (last.ended g some_ opened).counted _ _ _

theorem TailFolded.returned {a b r : State} {told told' : List Notice} {aborted : Bool}
    (h : TailFolded j aborted s a b r told told') (job : s.lsc.job = some j) (running : s.lsc.lineState ≠ .ready) :
    ReturnedToReady j aborted s r.returnToReady (.lineState :: (told ++ told')) := by
  have rlg : r.returnToReady.rlg = r.rlg := r.returnToReady_affects.1.rlg (by decide)
  obtain ⟨outputs, roles⟩ := lastWnd_spec s r.returnToReady (by rw [r.returnToReady_spec.2.2.1, h.wnd])
  have columns := columnsOfReturn job running h.frame h.wnd h.trk h.head
  refine ⟨?_, ⟨a, b, r, told, told', rfl, fun none_ => ?_, fun g some_ => ?_, h.folded, h.empty, h.counter, ?_,
    fun _ => h.counted, h.examined, columns⟩, outputs, fun g some_ => ⟨fun opened e here numbered => ?_, roles g some_⟩⟩
  · rw [rlg]
    exact ⟨h.next, h.seqs, h.closed⟩
  · obtain ⟨same, none_⟩ := h.last.idle none_
    rw [same]
    exact ⟨SameBut.refl _ s, job, none_⟩
  · exact ⟨s, SameBut.refl _ s, job, h.last.examined g some_⟩
  · rw [h.counted]
    exact countedAtEnd_seqs ..
  · rw [rlg] at here
    obtain ⟨state, stop, length, flag⟩ := h.ended g some_ opened e here numbered
    refine ⟨state.resolve_left fun cut => ?_, stop, length, flag⟩
    rw [h.closed e here cut] at stop
    cases stop

/-- The end of a job at the winder is a return to READY (R131, R132, R187). -/
theorem State.finishJob_returned (job : s.lsc.job = some j) (running : s.lsc.lineState ≠ .ready) (aborted : Bool) :
    ∃ notices, ReturnedToReady j aborted s (s.finishJob j aborted) notices ∧
      Tells s (s.finishJob j aborted) notices := by
  obtain ⟨told, last⟩ := lastEnded_spec job aborted
  obtain ⟨told', folded⟩ := tailFolded last
  rw [State.finishJob_eq job]
  generalize (trackFolded s (lastEnded s j aborted) j).examineLog j = r at folded ⊢
  have lsc : r.lsc = s.lsc := folded.frame.lsc (by decide)
  obtain ⟨-, shown⟩ := State.returnToReady_emb (s := r) (by rw [lsc]; exact job) (by rw [lsc]; exact running)
  refine ⟨_, folded.returned job running, ?_⟩
  obtain ⟨raised, lnk, same⟩ := (last.tells.trans folded.tells).trans shown
  refine ⟨raised, lnk, fun n => ?_⟩
  rw [same, List.mem_append, List.mem_append, List.mem_singleton, List.mem_cons, List.mem_append]
  exact or_comm

theorem returnedToReady_sameBut {aborted : Bool} {notices : List Notice} (h : ReturnedToReady j aborted s t notices)
    (same : SameBut [.lnk] t u) : ReturnedToReady j aborted s u notices := by
  have is : u = { t with lnk := u.lnk } := State.eq_of_blocks fun b => by
    by_cases links : b = .lnk
    · subst links
      rfl
    · have kept := same b (by simpa using links)
      cases b <;> first | exact kept | rfl
  rw [is]
  exact h

/-- From s₀ to s nothing of a return to READY has changed: what the return overwrites, and the line's and the nip's part of an
end that begins (R130, R186, R187). -/
structure EndBegins (j : Job) (s₀ s : State) : Prop where
  frame : SameBut [.wpu, .lsc, .emb, .wnd, .lnk] s₀ s
  head : s.wpu.h = s₀.wpu.h
  lsc : ({ s.lsc with latched := {}, runPermit := false, lineState := .ready } : Lsc) =
    { s₀.lsc with latched := {}, runPermit := false, lineState := .ready }
  emb : evaluated j false (returnedEmb s) = evaluated j false (returnedEmb s₀)
  wnd : s.wnd = { s₀.wnd with
    active := s.wnd.active, planned := s.wnd.planned, plan := s.wnd.plan, search := s.wnd.search }
  idle : s₀.wnd.active = none → s.wnd.active = none
  active : ∀ g, s₀.wnd.active = some g → ∃ g', s.wnd.active = some g' ∧ g'.seq = g.seq ∧ (g'.role = .roll ↔ g.role = .roll)

theorem EndBegins.columns {s₀ r : State} (h : EndBegins j s₀ s) (columns : ColumnsOfReturn j s r t) :
    ColumnsOfReturn j s₀ r t := by
  have chan (c : ChannelId) : s.chan c = s₀.chan c := congrArg (fun g : Stg => g.channels[c]) (h.frame.stg (by decide))
  have station (i : StationId) : s.station i = s₀.station i :=
    congrArg (fun g : Rlp => g.stations[i]) (h.frame.rlp (by decide))
  have train (i : StationId) : trainAborted s i = trainAborted s₀ i := trainAborted_congr (station i) (chan _)
  have shu : s.shu = s₀.shu := h.frame.shu (by decide)
  have msc : s.msc = s₀.msc := h.frame.msc (by decide)
  obtain ⟨chans, stations, emb, shade, heads, scanner, winder, line, trk, rest⟩ := columns
  refine ⟨fun c => ?_, fun i => ?_, Eq.trans emb h.emb, ?_, ?_, ?_, ?_, line.trans h.lsc, trk, rest⟩
  · rw [chans, chan]
  · rw [stations, station, train]
  · rw [shade, shu]
  · rw [heads, shu]
  · rw [scanner, msc]
  · rw [h.wnd] at winder
    exact winder

theorem EndBegins.returned {s₀ : State} {aborted : Bool} {notices : List Notice} (h : EndBegins j s₀ s)
    (returned : ReturnedToReady j aborted s t notices) : ReturnedToReady j aborted s₀ t notices := by
  have rlg : s.rlg = s₀.rlg := h.frame.rlg (by decide)
  have trk : s.trk = s₀.trk := h.frame.trk (by decide)
  have spindle (k : Spindle) : s.spindle k = s₀.spindle k := by
    unfold State.spindle
    rw [h.wnd]
  have knife : s.wnd.knife = s₀.wnd.knife := by rw [h.wnd]
  have turret : s.wnd.turret = s₀.wnd.turret := by rw [h.wnd]
  obtain ⟨log, ⟨a, b, r, told, told', is, idle, ended, folded, empty, counter, seqs, counted, examined, columns⟩,
    outputs, roles⟩ := returned
  rw [rlg] at log
  rw [rlg, trk, h.head] at counted
  rw [h.head] at ended
  refine ⟨log, ⟨a, b, r, told, told', is, fun none_ => ?_, fun g some_ => ?_, folded, empty, counter, seqs, counted,
    examined, h.columns columns⟩, fun none_ => ?_, fun g some_ => ?_⟩
  · obtain ⟨kept, rest⟩ := idle (h.idle none_)
    exact ⟨h.frame.trans kept, rest⟩
  · obtain ⟨g', active, seq, -⟩ := h.active g some_
    obtain ⟨ending, kept, job, examined⟩ := ended g' active
    rw [seq] at examined
    exact ⟨ending, h.frame.trans kept, job, examined⟩
  · obtain ⟨knife', turret', spindles⟩ := outputs (h.idle none_)
    exact ⟨knife'.trans knife, turret'.trans turret, fun k => (spindles k).trans (spindle k)⟩
  · obtain ⟨g', active, seq, role⟩ := h.active g some_
    obtain ⟨entries, roll, other⟩ := roles g' active
    simp only [rlg, seq, h.head, knife, turret, spindle] at entries roll other
    exact ⟨entries, fun is => roll (role.mpr is), fun is => other (mt role.mp is)⟩

end

/-- Settles O18: the flag alone, or in ENDING the end of the job. -/
theorem stoppedFlagIsSetAndEndsATail : Obligations.StoppedFlagIsSetAndEndsATail := by
  intro s moving
  let v : State := { s with wpu := { s.wpu with stopped := true, stoppedTime := 20000000 } }
  have first : SameBut [.wpu] s v := by
    intro b hb
    cases b <;> first | rfl | simp at hb
  have body : exec .stoppedFlagSet s = .next (v.withJob v.tailCheck).endOfEvent := by
    refine congrArg (fun u : State => Host.Outcome.next u.endOfEvent) (if_neg ?_)
    rw [moving]
    exact Bool.false_ne_true
  by_cases ends : s.lsc.lineState = .ending ∧ ∃ j, s.lsc.job = some j
  · obtain ⟨ending, j, job⟩ := ends
    have tail : v.withJob v.tailCheck = v.finishJob j false :=
      (State.withJob_some (s := v) v.tailCheck job).trans (if_pos (by simp [v, ending]))
    rw [tail] at body
    obtain ⟨notices, returned, tells⟩ := State.finishJob_returned (s := v) job (by simp [v, ending]) false
    have wpu : (v.finishJob j false).wpu = v.wpu := (v.finishJob_affects j false).1.wpu (by decide)
    refine ⟨_, body, by rw [State.endOfEvent_wpu, wpu], frame_of_exec body, fun idle => ?_, fun j' _ job' => ?_⟩
    · rcases idle with other | none_
      · exact absurd ending other
      · rw [job] at none_
        cases none_
    · cases job.symm.trans job'
      have begins : EndBegins j s v := ⟨first.mono (by decide), rfl, rfl, rfl, rfl, id, fun g some_ => ⟨g, some_, rfl, Iff.rfl⟩⟩
      exact ⟨notices, returnedToReady_sameBut (begins.returned returned) (State.endOfEvent_sameBut _), Tells.silent tells⟩
  · have tail : v.withJob v.tailCheck = v := by
      cases job : s.lsc.job with
      | none => exact State.withJob_none _ job
      | some j =>
        refine (State.withJob_some (s := v) v.tailCheck job).trans (State.tailCheck_idle (fun ending => ?_) j)
        exact absurd ⟨ending, j, job⟩ ends
    rw [tail] at body
    refine ⟨_, body, State.endOfEvent_wpu _, frame_of_exec body, fun _ => ⟨?_, State.endOfEvent_silent_of_eq _ _ rfl⟩,
      fun j ending job => absurd ⟨ending, j, job⟩ ends⟩
    exact (first.mono (by decide)).trans (v.endOfEvent_sameBut.mono (by decide))

end Sys2Proof.Machine
end

section
/-! PROOFS. The requests on the line: HOLD, RESUME, END_JOB and ABORT_JOB (R179, R182 to R187). -/

namespace Sys2Proof.Machine
-- One thread elaborates the proofs of this part in their order.
set_option Elab.async false

section
variable {s t u : State} {j : Job} {l : LinkId} {tag : Byte}

/-- A request's owner acts, with the notices told up to their order. -/
theorem answers_tells {c : Instr} {x : Service} {st : Status} {body : ReplyBody} {told : List Notice}
    (is : requestOf c = some (l, tag, x)) (take : s.mayTake l = true) (fits : x.fits = true)
    (allowed : s.permits l x.cls x.lineOnly = true) (act : x.act s = (u, st, body)) (tells : Tells s u told) :
    Answers c s l ⟨x.kind + 0x80, tag, st, body⟩ told u := by
  obtain ⟨raised, lnk, same⟩ := tells
  exact (answers_act is take fits allowed act lnk).of_mem same

theorem State.answerWithJob_some (job : s.lsc.job = some j) (f : Job → Answer) : s.answerWithJob f = f j := by
  unfold State.answerWithJob
  rw [job]

/-! ### The line leaves its state -/

/-- A change of the line state is told, and the nip judged by the line state that is left (R78, R189). -/
theorem State.setLineState_spec {x : LineState} (changes : s.lsc.lineState ≠ x) :
    SameBut [.lsc, .emb, .lnk] s (s.setLineState x) ∧ (s.setLineState x).lsc = { s.lsc with lineState := x } ∧
      Tells s (s.setLineState x) [.lineState] ∧ ∀ j, s.lsc.job = some j →
        (s.setLineState x).emb = evaluated j (ClosePermitted (s.setLineState x) j s.emb) s.emb := by
  refine ⟨(s.setLineState_affects x).1.mono (by decide), State.setLineState_lsc s x, .of_raised (State.setLineState_lnk changes),
    fun j job => ?_⟩
  let v := ({ s with lsc := { s.lsc with lineState := x } } : State).raiseNotice .lineState
  have is : s.setLineState x = v.evaluateNip := if_neg changes
  rw [is, State.evaluateNip_eq (show v.lsc.job = some j from job)]
  rfl

/-! ### RESUME -/

/-- The causes that a RESUME keeps: latched, their condition present, HOST never (R185). -/
theorem State.clearLatched_eq (s : State) :
    let was := s.lsc.latched
    let kept : Causes :=
      { encoder := was.encoder && s.wpu.encoderCond
        overspeed := was.overspeed && s.wpu.overspeedCond
        refLost := was.refLost && s.msc.refState == .lost
        stationLost := was.stationLost && (conditionsOf s).stationLost
        overlength := was.overlength && s.wnd.overlength
        eventLost := was.eventLost && s.trk.eventLost
        headOffline := was.headOffline && s.shu.head == .offline
        printerOffline := was.printerOffline && (!s.lbc.printerA.online || !s.lbc.printerB.online)
        host := false }
    s.clearLatched = { s with lsc := { s.lsc with latched := kept } } := by
  intro was kept
  have same : (s.lsc.latched.inter s.conditions).minus ({ host := true } : Causes) = kept := by
    have station : s.stationLostCond = (conditionsOf s).stationLost := congrArg Causes.stationLost s.conditions_eq
    unfold Causes.inter Causes.minus State.conditions
    simp only [Bool.not_false, Bool.and_true, Bool.not_true, Bool.and_false, station]
    rfl
  unfold State.clearLatched
  rw [same]

/-! ### END_JOB -/

theorem searchOf_eq (plan : Option SplicePlan) : plan.bind SplicePlan.search? = match plan with
    | some ⟨limit, _, .candidate _ _, _⟩ | some ⟨limit, _, .seeking, _⟩ => some limit
    | _ => none := by
  cases plan with
  | none => rfl
  | some p =>
    obtain ⟨limit, a, cut1, b⟩ := p
    cases cut1 <;> rfl

/-- The nip's judgement stands apart from the rest of the emboss unit's return. -/
theorem evaluated_returned (emb : u.emb = evaluated j false s.emb) (chan : u.chan 8 = s.chan 8) :
    evaluated j false (returnedEmb u) = evaluated j false (returnedEmb s) := by
  unfold returnedEmb
  rw [chan, emb]
  cases nip : s.emb.nip <;> simp [evaluated, nip, liftingEmb]

theorem returned_told {aborted : Bool} {notices : List Notice} (h : ReturnedToReady j aborted s t notices) :
    .lineState ∈ notices := by
  obtain ⟨-, ⟨a, b, r, told, told', is, -⟩, -⟩ := h
  rw [is]
  exact List.mem_cons_self

/-- What END_JOB makes of the winder when the web still moves (R130). -/
def tailWnd (w : Wnd) (g : Segment) : Wnd :=
  if g.role = .roll then
    { w with
      planned := w.planned.map fun c => { c with opens := .tail }, search := w.plan.bind SplicePlan.search?, plan := none }
  else { w with active := some { g with role := .tail }, planned := none, plan := none }

theorem State.prepareTail_eq {g : Segment} (active : s.wnd.active = some g) :
    s.prepareTail = { s with
      wnd := tailWnd s.wnd g
      lsc := if g.role = .roll then s.lsc else { s.lsc with runPermit := false } } := by
  unfold State.prepareTail tailWnd
  rw [active]
  dsimp only
  by_cases roll : g.role = .roll
  · simp only [roll, if_true]
    rw [← active]
  · simp only [roll, if_false]
    rfl

/-- The state in which END_JOB looks at the stopped flag (R130, R186). -/
def endPrepared (s : State) : State := (s.setLineState .ending).prepareTail

theorem endPrepared_spec {g : Segment} (line : s.lsc.lineState ≠ .ending) (job : s.lsc.job = some j)
    (active : s.wnd.active = some g) :
    SameBut [.lsc, .emb, .wnd, .lnk] s (endPrepared s) ∧ Tells s (endPrepared s) [.lineState] ∧
      (endPrepared s).emb = evaluated j false s.emb ∧ (endPrepared s).wnd = tailWnd s.wnd g ∧
      (endPrepared s).lsc = if g.role = .roll then { s.lsc with lineState := .ending }
        else { s.lsc with lineState := .ending, runPermit := false } := by
  obtain ⟨frame, lsc, tells, emb⟩ := State.setLineState_spec line
  have emb := emb j job
  unfold endPrepared
  generalize s.setLineState .ending = v at *
  have wnd : v.wnd = s.wnd := frame.wnd (by decide)
  rw [State.prepareTail_eq (show v.wnd.active = some g by rw [wnd]; exact active)]
  have last : SameBut [.lsc, .wnd] v { v with
      wnd := tailWnd v.wnd g, lsc := if g.role = .roll then v.lsc else { v.lsc with runPermit := false } } := by
    intro b hb
    cases b <;> first | rfl | simp at hb
  refine ⟨(frame.mono (by decide)).trans (last.mono (by decide)), tells, ?_, by rw [wnd], ?_⟩
  · rw [closePermitted_of_line (by rw [lsc]; exact nofun)] at emb
    exact emb
  · rw [lsc]

theorem endPrepared_begins {g : Segment} (line : s.lsc.lineState ≠ .ending) (job : s.lsc.job = some j)
    (active : s.wnd.active = some g) : EndBegins j s (endPrepared s) := by
  obtain ⟨frame, -, emb, wnd, lsc⟩ := endPrepared_spec line job active
  generalize endPrepared s = u at *
  refine ⟨frame.mono (by decide), by rw [frame.wpu (by decide)], ?_, ?_, ?_, fun none_ => ?_, fun g' some_ => ?_⟩
  · rw [lsc]
    split <;> rfl
  · exact evaluated_returned emb (congrArg (fun x : Stg => x.channels[(8 : ChannelId)]) (frame.stg (by decide)))
  · rw [wnd]
    unfold tailWnd
    split <;> rfl
  · rw [active] at none_
    cases none_
  · cases active.symm.trans some_
    rw [wnd]
    unfold tailWnd
    split
    next => exact ⟨g, active, rfl, Iff.rfl⟩
    next other => exact ⟨_, rfl, rfl, ⟨nofun, fun roll => absurd roll other⟩⟩

end

/-- Settles O59: each request by the line state; END_JOB and ABORT_JOB end in the return to READY. -/
theorem lineRequestsMoveTheLineState : Obligations.LineRequestsMoveTheLineState := by
  intro s l tag take allowed
  refine ⟨fun line => ?_, fun run mask => ?_, fun line => ?_, fun line => ?_, fun run hold => ?_, fun j g line job active => ?_,
    fun idle => ?_, fun j running job => ?_⟩
  · exact answers_act (x := holdService) rfl take rfl allowed (if_neg line) rfl
  · obtain ⟨m, held, host⟩ := mask
    have stops : (s.lsc.holdMask.any fun m => m.has .host) = true ∧ s.lsc.lineState = .run := by
      rw [held]
      exact ⟨host, run⟩
    obtain ⟨lsc, lnk⟩ := s.raiseCause_spec .host
    rw [Lsc.raised_stops stops] at lsc
    have told : causeTold s .host = [.lineState] := if_pos ⟨stops.1, .inl run⟩
    rw [told] at lnk
    obtain ⟨t, runs, frame, replied⟩ := answers_act (c := .hold l tag) (x := holdService) rfl take rfl allowed (if_pos run) lnk
    have body : (s.raiseCause .host).lsc.latched = { s.lsc.latched with host := true } := by rw [lsc]; rfl
    rw [body] at replied
    refine ⟨t, runs, frame_of_exec runs, replied, (frame.lsc (by decide)).trans lsc, fun j job => ?_⟩
    rw [frame.emb (by decide), State.raiseCause_emb_of_job job]
    exact if_pos stops
  · exact ⟨_, answers_act (x := resumeService) rfl take rfl allowed (if_neg line) rfl⟩
  · intro was kept
    have cleared : s.clearLatched = { s with lsc := { s.lsc with latched := kept } } := s.clearLatched_eq
    have act : resumeService.act s = _ := if_pos line
    dsimp only at act
    rw [cleared] at act
    refine ⟨fun some_ => ?_, fun none_ => ?_⟩
    · refine answers_act (x := resumeService) rfl take rfl allowed (act.trans (if_neg fun empty => ?_)) rfl
      exact some_ (eq_of_beq empty)
    · let v : State := { s with lsc := { s.lsc with latched := {}, runPermit := true } }
      rw [none_] at act
      have act : resumeService.act s = done (v.setLineState .run) .empty := act.trans (if_pos rfl)
      obtain ⟨frame, lsc, tells, emb⟩ := State.setLineState_spec (s := v) (x := .run) (by rw [show v.lsc.lineState = _ from line]; exact nofun)
      obtain ⟨t, runs, kept', replied⟩ := answers_tells (c := .resume l tag) (x := resumeService) rfl take rfl allowed act tells
      refine ⟨t, runs, frame_of_exec runs, replied, (kept'.lsc (by decide)).trans lsc, fun j job => ?_⟩
      have permitted : ClosePermitted t j s.emb = ClosePermitted (v.setLineState .run) j s.emb := by
        unfold ClosePermitted
        rw [kept'.lsc (by decide), kept'.trk (by decide), kept'.wpu (by decide)]
      rw [kept'.emb (by decide), permitted]
      exact emb j job
  · exact answers_act (x := endJobService) rfl take rfl allowed (if_neg (by simp [run, hold])) rfl
  · have ending : s.lsc.lineState ≠ .ending := by rcases line with h | h <;> rw [h] <;> exact nofun
    have act : endJobService.act s = done ((endPrepared s).tailCheck j) .empty :=
      (if_pos (by simpa using line)).trans (State.answerWithJob_some job _)
    obtain ⟨frame, tells, emb, wnd, lsc⟩ := endPrepared_spec ending job active
    have begins := endPrepared_begins ending job active
    have wpu : (endPrepared s).wpu = s.wpu := frame.wpu (by decide)
    have ends : (endPrepared s).lsc.lineState = .ending ∧ (endPrepared s).lsc.job = some j := by
      rw [lsc]
      split <;> exact ⟨rfl, job⟩
    generalize endPrepared s = v at *
    refine ⟨fun moving => ?_, fun stopped => ?_⟩
    · rw [State.tailCheck_idle (fun _ => by rw [wpu]; exact moving)] at act
      obtain ⟨t, runs, kept, replied⟩ := answers_tells (c := .endJob l tag) (x := endJobService) rfl take rfl allowed act tells
      have wnd' := (kept.wnd (by decide)).trans wnd
      have lsc' := (kept.lsc (by decide)).trans lsc
      refine ⟨t, runs, (frame.mono (by decide)).trans (kept.mono (by decide)), replied, (kept.emb (by decide)).trans emb,
        fun roll => ⟨lsc'.trans (if_pos roll), ?_⟩, fun other => ⟨lsc'.trans (if_neg other), wnd'.trans (if_neg other)⟩⟩
      refine wnd'.trans ((if_pos roll).trans ?_)
      exact congrArg (fun x : Option Count => ({ s.wnd with
        planned := s.wnd.planned.map fun c => { c with opens := .tail }, search := x, plan := none } : Wnd))
        (searchOf_eq s.wnd.plan)
    · have tail : v.tailCheck j = v.finishJob j false := if_pos (by simp [ends.1, wpu, stopped])
      rw [tail] at act
      obtain ⟨notices, returned, told⟩ := State.finishJob_returned ends.2 (by rw [ends.1]; exact nofun) false
      have tells : Tells s (v.finishJob j false) notices := by
        obtain ⟨raised, lnk, same⟩ := tells.trans told
        refine ⟨raised, lnk, fun n => (same n).trans ?_⟩
        rw [List.mem_append, List.mem_singleton]
        exact ⟨fun h => h.elim (fun is => is ▸ returned_told returned) id, .inr⟩
      obtain ⟨t, runs, kept, replied⟩ := answers_tells (c := .endJob l tag) (x := endJobService) rfl take rfl allowed act tells
      exact ⟨t, notices, runs, returnedToReady_sameBut (begins.returned returned) kept, replied, frame_of_exec runs⟩
  · exact answers_act (x := abortJobService) rfl take rfl allowed (if_neg (by rw [idle]; exact Bool.false_ne_true)) rfl
  · have act : abortJobService.act s = done (s.finishJob j true) .empty :=
      (if_pos running).trans (State.answerWithJob_some job _)
    have line : s.lsc.lineState ≠ .ready := fun ready => by
      unfold State.running at running
      rw [ready] at running
      cases running
    obtain ⟨notices, returned, tells⟩ := State.finishJob_returned job line true
    obtain ⟨t, runs, kept, replied⟩ := answers_tells (c := .abortJob l tag) (x := abortJobService) rfl take rfl allowed act tells
    exact ⟨t, notices, runs, returnedToReady_sameBut returned kept, replied, frame_of_exec runs⟩

end Sys2Proof.Machine
end

section
/-! PROOFS. What a doff and a release bring: labels settled, and a waiting cut that fires (R125, R128, R145, R175). -/

namespace Sys2Proof.Machine
-- One thread elaborates the proofs of this part in their order.
set_option Elab.async false

section
variable {s t u : State} {j : Job}

/-! ### A spindle or a place in the log has come free -/

/-- The waiting cut and the tail, looked at once a spindle or a place in the log has come free (R125, R131). -/
def State.cutLookedAt (s : State) : State := s.withJob fun j => (s.tryWaiting j).tailCheck j

/-- Nothing waits, or the waiting cut's conditions do not hold. -/
theorem State.cutLookedAt_idle (idle : NothingWaits s ∨ WaitsOn s) : s.cutLookedAt = s := by
  unfold State.cutLookedAt
  cases job : s.lsc.job with
  | none => exact State.withJob_none _ job
  | some j =>
    rw [State.withJob_some _ job]
    have both : s.tryWaiting j = s ∧ (s.lsc.lineState = .ending → s.wpu.stopped = false) := by
      rcases idle with (none_ | ⟨none_, moving⟩) | ⟨waits, moving⟩
      · rw [job] at none_
        cases none_
      · exact ⟨State.tryWaiting_idle fun c planned waiting => absurd waiting (none_ c planned), moving⟩
      · refine ⟨State.tryWaiting_idle fun c planned waiting fires => ?_, moving⟩
        rw [cutFails_some (waits c planned waiting)] at fires
        cases fires
    rw [both.1]
    exact State.tailCheck_idle both.2 j

/-- The waiting cut fires; in ENDING with the web stopped the job then ends. -/
theorem State.cutLookedAt_fires {c : CutPlan} (job : s.lsc.job = some j) (planned : s.wnd.planned = some c)
    (waiting : c.target = .waiting) (room : s.rlg.log.length < 32) (can : c.opens = .roll → ∃ k, Chosen s k) :
    ∃ fired told rest, CutFired j c.opens (back s.wpu.h j.dCut) none s fired told ∧ Tells s s.cutLookedAt (told ++ rest) ∧
      ((s.lsc.lineState = .ending → s.wpu.stopped = false) → s.cutLookedAt = fired ∧ rest = []) ∧
      (s.lsc.lineState = .ending → s.wpu.stopped = true → ReturnedToReady j false fired s.cutLookedAt rest) := by
  obtain ⟨told, cut, tells⟩ := State.fireCut_spec job (back s.wpu.h j.dCut) none c.opens
  have is : s.cutLookedAt = (s.fireCut j (back s.wpu.h j.dCut) none c.opens).tailCheck j := by
    unfold State.cutLookedAt
    rw [State.withJob_some _ job, State.tryWaiting_fires planned waiting (cutFails_eq_none.mpr ⟨room, can⟩)]
  rw [is]
  generalize s.fireCut j (back s.wpu.h j.dCut) none c.opens = fired at *
  have wpu : fired.wpu = s.wpu := cut.1.wpu (by decide)
  have lsc : fired.lsc.lineState = s.lsc.lineState ∧ fired.lsc.job = s.lsc.job := by
    rw [cut.2.1]
    split <;> exact ⟨rfl, rfl⟩
  by_cases ends : s.lsc.lineState = .ending ∧ s.wpu.stopped = true
  · obtain ⟨rest, returned, tells'⟩ := State.finishJob_returned (s := fired) (lsc.2.trans job) (by rw [lsc.1, ends.1]; exact nofun) false
    have tail : fired.tailCheck j = fired.finishJob j false := if_pos (by simp [lsc.1, ends.1, wpu, ends.2])
    rw [tail]
    refine ⟨fired, told, rest, cut, tells.trans tells', fun moving => ?_, fun _ _ => returned⟩
    rw [moving ends.1] at ends
    cases ends.2
  · have moving : fired.lsc.lineState = .ending → fired.wpu.stopped = false := by
      rw [lsc.1, wpu]
      exact fun ending => by simpa using fun stopped => ends ⟨ending, stopped⟩
    rw [State.tailCheck_idle moving]
    exact ⟨fired, told, [], cut, by rw [List.append_nil]; exact tells, fun _ => ⟨rfl, rfl⟩,
      fun ending stopped => absurd ⟨ending, stopped⟩ ends⟩

/-! ### The label of a doffed entry -/

/-- The state with the entry of a sequence number marked doffed (R137). -/
def doffMarked (s : State) (seq : BitVec 32) : State :=
  { s with rlg := { s.rlg with log := s.rlg.log.map fun x =>
    if x.seq = seq then { x with flags := { x.flags with doffed := true } } else x } }

theorem State.doffEntry_quiet {e : Entry} (label : e.label = .none ∨ e.label = .applied ∨ e.label = .missing) :
    s.doffEntry e = doffMarked s e.seq := by
  unfold State.doffEntry
  rcases label with h | h | h <;> rw [h] <;> rfl

theorem State.doffEntry_due {e : Entry} (label : e.label = .due) :
    s.doffEntry e = withLabel (doffMarked s e.seq) e.seq .missing := by
  unfold State.doffEntry
  rw [label]
  rfl

theorem State.doffEntry_sent {e : Entry} (label : e.label = .sent) :
    s.doffEntry e = withLabel ((doffMarked s e.seq).unattachSent e.seq) e.seq .missing := by
  unfold State.doffEntry
  rw [label]
  rfl

theorem State.doffEntry_queued {e : Entry} (label : e.label = .queued) :
    s.doffEntry e = (withLabel ((doffMarked s e.seq).withdrawLabel e.seq) e.seq .missing).labelWork := by
  unfold State.doffEntry
  rw [label]
  rfl

theorem State.withdrawLabel_sameBut (s : State) (seq : BitVec 32) : SameBut [.lbc] s (s.withdrawLabel seq) := by
  unfold State.withdrawLabel
  split
  · exact SameBut.refl _ s
  next x _ =>
    dsimp only
    split
    · intro b hb
      cases b <;> first | (cases x.printer <;> rfl) | simp at hb
    · intro b hb
      cases b <;> first | rfl | simp at hb

theorem State.unattachSent_sameBut (s : State) (seq : BitVec 32) : SameBut [.lbc] s (s.unattachSent seq) := by
  intro b hb
  cases b <;> first | rfl | simp at hb

theorem State.unattachSent_printer (s : State) (seq : BitVec 32) (p : Printer) : (s.unattachSent seq).printer p =
    { s.printer p with sent := (s.printer p).sent.map fun place => if place = some seq then none else place } := by
  cases p <;> rfl

/-- A doff settles the label, and tells nothing (R175). -/
theorem State.doffEntry_frame (s : State) (e : Entry) :
    SameBut [.lbc, .rlg] s (s.doffEntry e) ∧ (s.doffEntry e).rlg.log.length = s.rlg.log.length := by
  have marked : SameBut [.rlg] s (doffMarked s e.seq) := by
    intro b hb
    cases b <;> first | rfl | simp at hb
  have count : (doffMarked s e.seq).rlg.log.length = s.rlg.log.length := List.length_map _
  have missing (v : State) : SameBut [.rlg] v (withLabel v e.seq .missing) ∧
      (withLabel v e.seq .missing).rlg.log.length = v.rlg.log.length := by
    refine ⟨fun b hb => ?_, List.length_map _⟩
    cases b <;> first | rfl | simp at hb
  cases label : e.label with
  | none | applied | missing =>
    rw [State.doffEntry_quiet (by simp [label])]
    exact ⟨marked.mono (by decide), count⟩
  | due =>
    rw [State.doffEntry_due label]
    exact ⟨(marked.trans (missing _).1).mono (by decide), (missing _).2.trans count⟩
  | sent =>
    rw [State.doffEntry_sent label]
    have settled := (doffMarked s e.seq).unattachSent_sameBut e.seq
    refine ⟨((marked.mono (by decide)).trans (settled.mono (by decide))).trans ((missing _).1.mono (by decide)), ?_⟩
    rw [(missing _).2, settled.rlg (by decide), count]
  | queued =>
    rw [State.doffEntry_queued label]
    have settled := (doffMarked s e.seq).withdrawLabel_sameBut e.seq
    generalize (doffMarked s e.seq).withdrawLabel e.seq = v at settled
    have work := (withLabel v e.seq .missing).labelWork_sameBut
    have log : (withLabel v e.seq .missing).labelWork.rlg.log.length = (withLabel v e.seq .missing).rlg.log.length := by
      rw [(withLabel v e.seq .missing).labelWork_works.1]
      exact List.length_map _
    refine ⟨(((marked.mono (by decide)).trans (settled.mono (by decide))).trans ((missing _).1.mono (by decide))).trans
      work, ?_⟩
    rw [log, (missing _).2, settled.rlg (by decide), count]

/-- A queued label is withdrawn (R175); where it was its printer's oldest, the printer's rejects start anew. -/
theorem withdrawLabel_eq {seq : BitVec 32} {before after : List Label} {x : Label} {rejects : Nat}
    (queue : s.lbc.queue = before ++ x :: after) (here : x.seq = seq) (first : ∀ y ∈ before, y.seq ≠ seq)
    (oldest : (∀ y ∈ before, y.printer ≠ x.printer) → rejects = 0)
    (later : (∃ y ∈ before, y.printer = x.printer) → rejects = (s.printer x.printer).rejects) :
    s.withdrawLabel seq =
      let out := dequeued (withPrinter s x.printer { s.printer x.printer with rejects := rejects }) seq
      { out with lbc := { out.lbc with
        channel := s.lbc.channel.map fun c => if c.label.seq = seq then { c with withdrawn := true } else c } } := by
  have found : (s.lbc.queue.find? fun y => y.seq == seq) = some x := by
    rw [queue]
    exact find_split (by simp [here]) fun y member => by simpa using first y member
  have wins : (((s.lbc.queue.find? fun y => y.printer == x.printer).map Label.seq) == some seq) = true ↔
      ∀ y ∈ before, y.printer ≠ x.printer := by
    rw [queue, List.find?_append]
    cases mine : before.find? fun y => y.printer == x.printer with
    | none =>
      have none_ := List.find?_eq_none.mp mine
      simp only [Option.none_or, List.find?_cons, beq_self_eq_true, Option.map_some, here, true_iff]
      exact fun y member => by simpa using none_ y member
    | some y =>
      have member := List.mem_of_find?_eq_some mine
      have printer : y.printer = x.printer := by simpa using List.find?_some mine
      simp only [Option.some_or, Option.map_some, beq_iff_eq, Option.some.injEq, first y member, false_iff, Classical.not_forall]
      exact ⟨y, member, fun no => no printer⟩
  unfold State.withdrawLabel
  rw [found]
  dsimp only
  by_cases own : ∀ y ∈ before, y.printer ≠ x.printer
  · rw [if_pos (wins.mpr own), oldest own, withPrinter_eq]
    cases x.printer <;> rfl
  · rw [if_neg (mt wins.mp own)]
    have same : rejects = (s.printer x.printer).rejects := later (by simpa using own)
    rw [same]
    cases x.printer <;> rfl

/-! ### A doff -/

/-- The state with a spindle EMPTY and the label of the entry wound on it settled (R128, R137, R175). -/
def doffedState (s : State) (k : Spindle) (seq : BitVec 32) : State :=
  match s.rlg.log.find? fun e => e.seq == seq with
  | some e => (unwound s k).doffEntry e
  | none => unwound s k

theorem State.takeDoff_eq {k : Spindle} {seq : BitVec 32} (full : s.spindle k = .full seq) :
    s.takeDoff k = (doffedState s k seq).cutLookedAt := by
  have empty : s.putSpindle k .empty = unwound s k := by cases k <;> rfl
  have log : (unwound s k).rlg = s.rlg := by cases k <;> rfl
  unfold State.takeDoff doffedState
  rw [full]
  dsimp only
  rw [empty, log]
  rfl

theorem doffedState_frame (s : State) (k : Spindle) (seq : BitVec 32) :
    SameBut [.lbc, .rlg] (unwound s k) (doffedState s k seq) ∧
      (doffedState s k seq).rlg.log.length = s.rlg.log.length := by
  have log : (unwound s k).rlg = s.rlg := by cases k <;> rfl
  unfold doffedState
  split
  next e _ =>
    obtain ⟨frame, length⟩ := (unwound s k).doffEntry_frame e
    exact ⟨frame, length.trans (by rw [log])⟩
  next => exact ⟨SameBut.refl _ _, by rw [log]⟩

theorem unwound_sameBut (s : State) (k : Spindle) : SameBut [.wnd] s (unwound s k) := by
  intro b hb
  cases k <;> cases b <;> first | rfl | simp at hb

theorem spindleDoffed (s : State) (k : Spindle) (seq : BitVec 32) : SpindleDoffed s k seq (doffedState s k seq) := by
  obtain ⟨frame, -⟩ := doffedState_frame s k seq
  have first := unwound_sameBut s k
  have rlg : (unwound s k).rlg = s.rlg := first.rlg (by decide)
  have lbc : (unwound s k).lbc = s.lbc := first.lbc (by decide)
  have printer (p : Printer) : (unwound s k).printer p = s.printer p := by
    cases p <;> simp only [State.printer, lbc]
  have marked (q : BitVec 32) : (doffMarked (unwound s k) q).rlg = (doffMarked s q).rlg := by
    unfold doffMarked
    rw [rlg]
  refine ⟨frame.wnd (by decide), (first.mono (by decide)).trans (frame.mono (by decide)), fun none_ => ?_,
    fun before e after log here earlier => ?_⟩
  · have nowhere : (s.rlg.log.find? fun e => e.seq == seq) = none :=
      List.find?_eq_none.mpr fun e member => by simpa using none_ e member
    unfold doffedState
    rw [nowhere]
    exact ⟨rlg, lbc⟩
  · have found : (s.rlg.log.find? fun e => e.seq == seq) = some e := by
      rw [log]
      exact find_split (by simp [here]) fun x member => by simpa using earlier x member
    have is : doffedState s k seq = (unwound s k).doffEntry e := by
      unfold doffedState
      rw [found]
    subst here
    rw [is]
    refine ⟨fun label => ?_, fun label => ?_, fun label => ?_, fun label b x a queue same first_ rejects oldest later => ?_⟩
    · rw [State.doffEntry_quiet label]
      exact ⟨marked e.seq, lbc⟩
    · rw [State.doffEntry_due label]
      refine ⟨?_, lbc⟩
      unfold withLabel
      rw [marked]
      rfl
    · rw [State.doffEntry_sent label]
      refine ⟨?_, fun p => ?_⟩
      · unfold withLabel
        rw [((doffMarked (unwound s k) e.seq).unattachSent_sameBut e.seq).rlg (by decide), marked]
        rfl
      · rw [← printer p]
        exact (doffMarked (unwound s k) e.seq).unattachSent_printer e.seq p
    · have withdrawn := withdrawLabel_eq (s := doffMarked (unwound s k) e.seq) (rejects := rejects)
        ((congrArg Lbc.queue lbc).trans queue) same first_ oldest
        (fun some_ => (later some_).trans (congrArg PrinterState.rejects (printer x.printer)).symm)
      rw [State.doffEntry_queued label, withdrawn]
      refine channelWorks_congr (State.labelWork_works _) ?_ ?_ ?_ ?_ rfl rfl
      · unfold withLabel
        cases k <;> cases x.printer <;> rfl
      · cases k <;> cases x.printer <;> rfl
      · cases k <;> cases x.printer <;> rfl
      · cases k <;> cases x.printer <;> rfl

theorem spindleDoffed_sameBut {k : Spindle} {seq : BitVec 32} (h : SpindleDoffed s k seq t) (same : SameBut [.lnk] t u) :
    SpindleDoffed s k seq u := by
  have is : u = { t with lnk := u.lnk } := State.eq_of_blocks fun b => by
    by_cases links : b = .lnk
    · subst links
      rfl
    · have kept := same b (by simpa using links)
      cases b <;> first | exact kept | rfl
  obtain ⟨wnd, frame, nowhere, there⟩ := h
  have outside : SameBut [.wnd, .lbc, .rlg, .lnk] s u := frame.trans (same.mono (by decide))
  rw [is] at outside ⊢
  exact ⟨wnd, outside, nowhere, there⟩

end

/-- Settles O53: the spindle EMPTY, the label settled, then the waiting cut and the tail. -/
theorem doffEmptiesASpindle : Obligations.DoffEmptiesASpindle := by
  intro s k
  refine ⟨fun other => ?_, fun seq full idle => ?_, fun seq j c full job planned waiting room can => ?_⟩
  · have idle : s.takeDoff k = s := by
      unfold State.takeDoff
      split
      next seq is => exact absurd is (other seq)
      all_goals rfl
    exact ⟨_, congrArg (fun u : State => Host.Outcome.next u.endOfEvent) idle, s.endOfEvent_nothing⟩
  all_goals
    obtain ⟨frame, length⟩ := doffedState_frame s k seq
    have first := unwound_sameBut s k
    have doffed := spindleDoffed s k seq
    have runs : exec (.doff k) s = .next (doffedState s k seq).cutLookedAt.endOfEvent :=
      congrArg (fun u : State => Host.Outcome.next u.endOfEvent) (State.takeDoff_eq full)
    generalize doffedState s k seq = v at *
    have outside : SameBut [.wnd, .lbc, .rlg] s v := (first.mono (by decide)).trans (frame.mono (by decide))
    have lsc : v.lsc = s.lsc := outside.lsc (by decide)
    have wpu : v.wpu = s.wpu := outside.wpu (by decide)
    have lnk : v.lnk = s.lnk := outside.lnk (by decide)
    have wnd : v.wnd = (unwound s k).wnd := frame.wnd (by decide)
    have plans : v.wnd.planned = s.wnd.planned := by
      rw [wnd]
      cases k <;> rfl
    have chosen (i : Spindle) : Chosen v i ↔ Chosen (unwound s k) i := by
      unfold Chosen State.spindle
      rw [wnd]
  · have still : v.cutLookedAt = v := by
      refine State.cutLookedAt_idle ?_
      rcases idle with (none_ | ⟨none_, moving⟩) | ⟨waits, moving⟩
      · exact .inl (.inl (by rw [lsc]; exact none_))
      · exact .inl (.inr ⟨by rw [plans]; exact none_, by rw [lsc, wpu]; exact moving⟩)
      · refine .inr ⟨fun c planned waiting => ?_, ?_⟩
        · rw [wnd] at planned
          have held := waits c planned waiting
          rw [first.rlg (by decide)] at held
          rw [length]
          exact held.imp id fun ⟨roll, none_⟩ => ⟨roll, fun i is => none_ i ((chosen i).mp is)⟩
        · rw [first.lsc (by decide), first.wpu (by decide)] at moving
          rw [lsc, wpu]
          exact moving
    rw [still] at runs
    exact ⟨_, runs, spindleDoffed_sameBut doffed v.endOfEvent_sameBut, State.endOfEvent_silent_of_eq _ _ lnk⟩
  · obtain ⟨fired, told, rest, cut, tells, moving, ending⟩ := State.cutLookedAt_fires (s := v) (by rw [lsc]; exact job)
      (plans.trans planned) waiting (by rw [length]; exact room) fun roll => (can roll).imp fun i is => (chosen i).mpr is
    rw [wpu] at cut moving ending
    rw [lsc] at moving ending
    have ends := v.cutLookedAt.endOfEvent_sameBut
    obtain ⟨raised, is, same⟩ := tells
    refine ⟨_, v, fired, told, rest, runs, doffed, cut, Tells.silent ⟨raised, by rw [is, lnk], same⟩, fun moves => ?_,
      fun ends_ stopped => returnedToReady_sameBut (ending ends_ stopped) ends⟩
    obtain ⟨still, nothing⟩ := moving moves
    rw [still] at ends ⊢
    exact ⟨ends, nothing⟩

end Sys2Proof.Machine
end

section
/-! PROOFS. RELEASE_ENTRIES, PRINTER_RESET and REPRINT (R145, R173, R176). -/

namespace Sys2Proof.Machine
-- One thread elaborates the proofs of this part in their order.
set_option Elab.async false

section
variable {s t u : State} {j : Job}

/-! ### The run that is released -/

theorem releasable_iff (n : BitVec 32) (e : Entry) : (reached n e.seq && e.releasable) = true ↔
    reached n e.seq = true ∧ e.state = .closed ∧ (e.label = .none ∨ e.label = .applied ∨ e.label = .missing) := by
  simp [Entry.releasable, or_assoc]

theorem releaseRun_eq {n : BitVec 32} {run rest : List Entry}
    (goes : ∀ e ∈ run, (reached n e.seq && e.releasable) = true)
    (stays : ∀ e, rest.head? = some e → ¬(reached n e.seq && e.releasable) = true) : releaseRun (run ++ rest) n = run := by
  unfold releaseRun
  rw [List.takeWhile_append_of_pos goes]
  cases rest with
  | nil => simp
  | cons e rest =>
    rw [List.takeWhile_cons, if_neg (stays e rfl), List.append_nil]

/-- What RELEASE_ENTRIES leaves (R125, R145). -/
theorem State.takeRelease_eq {n : BitVec 32} {run rest : List Entry} (log : s.rlg.log = run ++ rest)
    (is : releaseRun s.rlg.log n = run) :
    let released : State := { s with rlg := { s.rlg with log := rest } }
    s.rlg.release n = released.rlg ∧ s.takeRelease n = if run = [] then released else released.cutLookedAt := by
  intro released
  have release : s.rlg.release n = released.rlg := by
    unfold Rlg.release
    rw [is, log, List.drop_left]
  refine ⟨release, ?_⟩
  unfold State.takeRelease
  dsimp only
  rw [release, is]
  by_cases none_ : run = []
  · rw [if_pos none_, none_]
    rfl
  · rw [if_neg none_, if_neg (by simpa using none_)]
    rfl

/-! ### Printers -/

theorem printerOf_none {b : Byte} (wrong : 1 < b.toNat) : printerOf b = none := by
  unfold printerOf
  rw [if_neg (by rintro rfl; simp at wrong), if_neg (by rintro rfl; simp at wrong)]

theorem printerOf_some (p : Printer) : printerOf (match p with
    | .a => 0
    | .b => 1) = some p := by
  cases p <;> rfl

theorem State.resetPrinter_works (s : State) (p : Printer) :
    ChannelWorks (withPrinter s p { s.printer p with
        online := true, rejects := 0, timer := (s.printer p).timer.map fun _ => 0
        sent := (s.printer p).sent.filter Option.isSome }) (s.resetPrinter p) ∧
      SameBut [.lbc, .rlg] s (s.resetPrinter p) ∧ ((s.resetPrinter p).printer p).online = true := by
  let x : PrinterState := { s.printer p with
    online := true, rejects := 0, timer := (s.printer p).timer.map fun _ => 0
    sent := (s.printer p).sent.filter Option.isSome }
  have is : s.resetPrinter p = (withPrinter s p x).labelWork := by
    rw [withPrinter_eq]
    rfl
  have written : SameBut [.lbc] s (withPrinter s p x) ∧ (withPrinter s p x).printer p = x := by
    cases p <;> exact ⟨fun b hb => by cases b <;> first | rfl | simp at hb, rfl⟩
  have works := (withPrinter s p x).labelWork_works
  obtain ⟨-, -, -, printers, -⟩ := id works
  obtain ⟨timer, kept, -⟩ := printers p
  rw [is]
  refine ⟨works, (written.1.mono (by decide)).trans (withPrinter s p x).labelWork_sameBut, ?_⟩
  rw [kept, written.2]

/-! ### REPRINT -/

theorem reprintable_iff (n : BitVec 32) (e : Entry) : (e.seq == n && e.reprintable) = true ↔
    e.seq = n ∧ e.state = .closed ∧ (e.kind = some .roll ∨ e.kind = some .short) ∧
      (e.label = .missing ∨ e.label = .applied) := by
  simp [Entry.reprintable, and_assoc]

end

/-- Settles O54: the run released and the waiting cut looked at; the printer's reset; the label put into the queue. -/
theorem entriesAreReleasedAndReprinted : Obligations.EntriesAreReleasedAndReprinted := by
  intro s l tag take allowed
  refine ⟨fun n run rest log => ?_, fun b wrong => ⟨?_, fun n => ?_⟩, fun p => ?_⟩
  · intro goes reply released all stops
    have is : releaseRun s.rlg.log n = run := by
      rw [log]
      exact releaseRun_eq (fun e member => (releasable_iff n e).mpr (all e member))
        fun e head => mt (releasable_iff n e).mp (stops e head)
    obtain ⟨release, takes⟩ := State.takeRelease_eq log is
    have act : (releaseService n).act s = (s.takeRelease n, .done, .released run.length (rest.head?.map Entry.seq) rest.length) := by
      unfold releaseService
      dsimp only
      rw [is, release]
      rfl
    refine ⟨fun idle => ?_, fun j c some_ job planned waiting room can => ?_⟩
    · have still : s.takeRelease n = released := by
        rw [takes]
        split
        next => rfl
        next some_ =>
          refine State.cutLookedAt_idle ?_
          rcases idle with none_ | idle | idle
          · exact absurd none_ some_
          · exact .inl idle
          · exact .inr idle
      rw [still] at act
      exact answers_act (x := releaseService n) rfl take rfl allowed act rfl
    · rw [takes, if_neg some_] at act
      obtain ⟨fired, told, more, cut, tells, moving, ending⟩ := State.cutLookedAt_fires (s := released) job planned waiting room can
      have tells : Tells s released.cutLookedAt (told ++ more) := tells
      obtain ⟨t, runs, kept, replied⟩ := answers_tells (c := .releaseEntries l tag n) (x := releaseService n) rfl take rfl allowed
        act tells
      refine ⟨t, fired, told, more, runs, replied, cut, fun moves => ?_,
        fun ends stopped => returnedToReady_sameBut (ending ends stopped) kept⟩
      obtain ⟨still, nothing⟩ := moving moves
      rw [← still]
      exact ⟨kept, nothing⟩
  · have act : (printerResetService b).act s = badField s 1 := by
      unfold printerResetService
      dsimp only
      rw [printerOf_none wrong]
    exact answers_act (x := printerResetService b) (ns := []) rfl take rfl allowed act rfl
  · have act : (reprintService n b).act s = badField s 2 := by
      unfold reprintService
      dsimp only
      rw [printerOf_none wrong]
    exact answers_act (x := reprintService n b) rfl take rfl allowed act rfl
  · intro b
    have is : printerOf b = some p := printerOf_some p
    refine ⟨?_, fun n => ?_⟩
    · obtain ⟨works, frame, online⟩ := s.resetPrinter_works p
      have act : (printerResetService b).act s = (s.resetPrinter p, .done, .printer true (s.readyLevel p)
          ((s.resetPrinter p).lbc.queue.countP fun x => x.printer == p)) := by
        have level : (s.resetPrinter p).readyLevel p = s.readyLevel p := by
          have pins : (s.resetPrinter p).pins = s.pins := frame.pins (by decide)
          cases p <;> simp only [State.readyLevel, pins]
        unfold printerResetService
        dsimp only
        rw [is]
        dsimp only
        rw [online, level]
        rfl
      obtain ⟨t, runs, kept, replied⟩ := answers_act (c := .printerReset l tag b) (x := printerResetService b) (ns := []) rfl take
        rfl allowed act (frame.lnk (by decide))
      rw [← kept.lbc (by decide)] at replied
      exact ⟨t, runs, frame_of_exec runs,
        channelWorks_congr works rfl rfl rfl rfl (kept.rlg (by decide)) (kept.lbc (by decide)), replied⟩
    · intro may
      refine ⟨fun none_ => ?_, fun before e after j job log here earlier => ⟨fun full => ?_, fun room => ?_⟩⟩
      · have nowhere : (s.rlg.log.find? fun e => e.seq == n && e.reprintable) = none :=
          List.find?_eq_none.mpr fun e member => mt (reprintable_iff n e).mp (none_ e member)
        have act : (reprintService n b).act s = refuse s .notFound := by
          unfold reprintService
          dsimp only
          rw [is]
          dsimp only
          rw [nowhere]
        exact answers_act (x := reprintService n b) rfl take rfl allowed act rfl
      all_goals
        have found : (s.rlg.log.find? fun e => e.seq == n && e.reprintable) = some e := by
          rw [log]
          exact find_split ((reprintable_iff n e).mpr here) fun y member => by
            simpa using mt (reprintable_iff n y).mp (earlier y member)
        have act : (reprintService n b).act s = if s.labelRoom then
            s.answerWithJob fun j => done (s.enqueueLabel j e p).labelWork (.queued (s.lbc.queue.length + 1))
            else refuse s .busy := by
          unfold reprintService
          dsimp only
          rw [is]
          dsimp only
          rw [found]
      · exact answers_act (x := reprintService n b) rfl take rfl allowed
          (act.trans (if_neg fun room => Nat.not_lt.mpr full (of_decide_eq_true room))) rfl
      · have act := act.trans ((if_pos (decide_eq_true room)).trans (State.answerWithJob_some job _))
        have work := (s.enqueueLabel j e p).labelWork_sameBut
        obtain ⟨t, runs, kept, replied⟩ := answers_act (c := .reprint l tag n b) (x := reprintService n b) (ns := []) rfl take rfl allowed
          act (work.lnk (by decide))
        refine ⟨t, runs, frame_of_exec runs, replied, ?_⟩
        obtain ⟨rfl, -⟩ := here
        refine channelWorks_congr (s.enqueueLabel j e p).labelWork_works rfl ?_ rfl rfl (kept.rlg (by decide)) (kept.lbc (by decide))
        unfold State.enqueueLabel
        rw [labelRecord_eq]
        rfl

end Sys2Proof.Machine
end

section
/-! PROOFS. LOAD_JOB: its eighty fields, and the record put in force (R180, R181). -/

namespace Sys2Proof.Machine
-- One thread elaborates the proofs of this part in their order.
set_option Elab.async false

section
variable (p : List Byte)

/-! ### The eighty fields (R180, 12.8) -/

theorem field_drop (skip offset width : Nat) : field (p.drop skip) offset width = field p (skip + offset) width := by
  unfold field slice
  rw [List.drop_drop]

/-- Field n of a LOAD_JOB, counted through the widths, is where 12.8 lays it. -/
theorem jobField_eq {n : Nat} (low : 4 ≤ n) (high : n ≤ 80) : jobField (jobNumbers p) n = jobValue p n := by
  let widths := (List.range 77).map fun i => jobWidth (i + 4)
  have read := splitFields_getD widths (p.drop 24) (n - 4) (by simp [widths]; omega)
  rw [field_drop] at read
  refine read.trans ?_
  unfold jobValue
  split
  case h_78 => exact False.elim (by grind)
  all_goals rfl

theorem jobOf_eq : jobOf p = jobSpelled p := by
  unfold jobOf gateOf
  simp (disch := decide) only [jobField_eq]
  rfl

/-! ### The checks, field by field (R180) -/

/-- A check of the list fails exactly where its field does. -/
def FieldCheck (check : Nat × Bool) : Prop := check.2 = false ↔ JobFieldFails p check.1

theorem isPrescale_eq_false_iff {x : Nat} : isPrescale x = false ↔ x ≠ 1 ∧ x ≠ 4 ∧ x ≠ 16 := by
  simp [isPrescale, and_assoc]

theorem isText_eq_false_iff {l : List Byte} : l.all isText = false ↔ ∃ b ∈ l, outOf 0x20 0x7E b.toNat := by
  simp only [List.all_eq_false, isText, Bool.not_eq_true, within_eq_false_iff, outOf]

theorem jobChecks_numbers : (jobChecks p).map Prod.fst = List.range' 1 80 := by
  simp only [jobChecks, gateChecks, List.map_append, List.map_cons, List.map_nil]
  decide

theorem upTo_eq_false_iff {hi x : Nat} : within 0 hi x = false ↔ hi < x := by
  simp only [within_eq_false_iff, Nat.not_lt_zero, false_or]

theorem less_eq_false_iff {x y : Nat} : decide (x < y) = false ↔ y ≤ x := by
  rw [decide_eq_false_iff_not, Nat.not_lt]

theorem gateChecks_fieldCheck {n : Nat} (gate : n = 12 ∨ n = 16 ∨ n = 20 ∨ n = 24) :
    ∀ c ∈ gateChecks (jobField (jobNumbers p)) n, FieldCheck p c := by
  unfold gateChecks
  rcases gate with rfl | rfl | rfl | rfl <;> simp (disch := decide) only [List.forall_mem_cons, jobField_eq] <;>
    exact ⟨upTo_eq_false_iff, upTo_eq_false_iff, upTo_eq_false_iff, upTo_eq_false_iff, nofun⟩

/-- A drop repeat has an even length (R180, field 6). -/
theorem matchCheck_eq_false_iff {m L : Nat} : (within 0 1 m && (m != 1 || L % 2 == 0)) = false ↔
    1 < m ∨ (m = 1 ∧ L % 2 = 1) := by
  simp only [Bool.and_eq_false_iff, upTo_eq_false_iff, Bool.or_eq_false_iff, bne_eq_false_iff_eq, beq_eq_false_iff_ne]
  omega

/-- The knife lies past the nip, and within the track (R180, field 30). -/
theorem cutCheck_eq_false_iff {L cut nip : Nat} :
    (within L 3000000 cut && decide (cut ≤ 254 * L) && decide (nip < cut)) = false ↔
      (cut < L ∨ 3000000 < cut) ∨ 254 * L < cut ∨ cut ≤ nip := by
  simp only [Bool.and_eq_false_iff, within_eq_false_iff, decide_eq_false_iff_not, Nat.not_le, Nat.not_lt, or_assoc]

theorem twoChecks_eq_false_iff {a b c d : Nat} : (decide (a < b) && decide (c < d)) = false ↔ b ≤ a ∨ d ≤ c := by
  simp only [Bool.and_eq_false_iff, less_eq_false_iff]

/-- The transfer distance is shorter than the shortest roll (R180, field 68). -/
theorem transferCheck_eq_false_iff {lo hi x a b : Nat} : (within lo hi x && decide (a < b)) = false ↔
    (x < lo ∨ hi < x) ∨ b ≤ a := by
  simp only [Bool.and_eq_false_iff, within_eq_false_iff, less_eq_false_iff]

theorem jobChecks_fieldCheck : ∀ c ∈ jobChecks p, FieldCheck p c := by
  unfold jobChecks
  simp only [List.forall_mem_append]
  refine ⟨⟨⟨⟨⟨⟨?_, gateChecks_fieldCheck p (by decide)⟩, gateChecks_fieldCheck p (by decide)⟩,
    gateChecks_fieldCheck p (by decide)⟩, gateChecks_fieldCheck p (by decide)⟩, ?_⟩, ?_⟩
  all_goals simp (disch := decide) only [List.forall_mem_cons, jobField_eq]
  · exact ⟨isText_eq_false_iff, isText_eq_false_iff, isText_eq_false_iff, within_eq_false_iff, within_eq_false_iff,
      matchCheck_eq_false_iff, within_eq_false_iff, upTo_eq_false_iff, within_eq_false_iff, within_eq_false_iff,
      within_eq_false_iff, nofun⟩
  · exact ⟨upTo_eq_false_iff, upTo_eq_false_iff, cutCheck_eq_false_iff, upTo_eq_false_iff, upTo_eq_false_iff,
      upTo_eq_false_iff, within_eq_false_iff, less_eq_false_iff, less_eq_false_iff, within_eq_false_iff, within_eq_false_iff,
      within_eq_false_iff, upTo_eq_false_iff, upTo_eq_false_iff, within_eq_false_iff, within_eq_false_iff,
      within_eq_false_iff, within_eq_false_iff, within_eq_false_iff, within_eq_false_iff, within_eq_false_iff,
      upTo_eq_false_iff, upTo_eq_false_iff, upTo_eq_false_iff, upTo_eq_false_iff, upTo_eq_false_iff, upTo_eq_false_iff,
      isPrescale_eq_false_iff, nofun⟩
  · exact ⟨within_eq_false_iff, twoChecks_eq_false_iff, within_eq_false_iff, within_eq_false_iff, within_eq_false_iff,
      within_eq_false_iff, within_eq_false_iff, within_eq_false_iff, within_eq_false_iff, upTo_eq_false_iff,
      less_eq_false_iff, within_eq_false_iff, transferCheck_eq_false_iff, upTo_eq_false_iff, upTo_eq_false_iff,
      upTo_eq_false_iff, upTo_eq_false_iff, upTo_eq_false_iff, upTo_eq_false_iff, isPrescale_eq_false_iff,
      upTo_eq_false_iff, upTo_eq_false_iff, upTo_eq_false_iff, upTo_eq_false_iff, upTo_eq_false_iff, nofun⟩

theorem jobFieldFails_number {n : Nat} (fails : JobFieldFails p n) : n ∈ List.range' 1 80 := by
  unfold JobFieldFails at fails
  dsimp only at fails
  split at fails
  all_goals first | exact fails.elim | decide

theorem mem_jobChecks_iff {n : Nat} : (n, false) ∈ jobChecks p ↔ JobFieldFails p n := by
  refine ⟨fun member => (jobChecks_fieldCheck p _ member).mp rfl, fun fails => ?_⟩
  have number := jobFieldFails_number p fails
  rw [← jobChecks_numbers p] at number
  obtain ⟨⟨m, ok⟩, member, is⟩ := List.mem_map.mp number
  have is : m = n := is
  subst is
  have failing : ok = false := (jobChecks_fieldCheck p _ member).mpr fails
  rw [← failing]
  exact member

theorem jobChecks_ordered : (jobChecks p).Pairwise fun a b => a.1 < b.1 := by
  have numbers : ((jobChecks p).map Prod.fst).Pairwise (· < ·) := by
    rw [jobChecks_numbers]
    exact List.pairwise_lt_range'
  exact List.pairwise_map.mp numbers

theorem jobFails_of_fails {n : Nat} (fails : JobFieldFails p n) (least : ∀ m, m < n → ¬JobFieldFails p m) :
    jobFails p = some n :=
  firstFailing_eq_some (jobChecks_ordered p) ((mem_jobChecks_iff p).mpr fails)
    fun m less member => least m less ((mem_jobChecks_iff p).mp member)

theorem jobFails_of_passes (passes : ∀ n, ¬JobFieldFails p n) : jobFails p = none :=
  firstFailing_eq_none fun n member => passes n ((mem_jobChecks_iff p).mp member)

end

end Sys2Proof.Machine
end

section
/-! PROOFS. LOAD_JOB puts its record in force: the batch table at the new limit, and every block (R26, R74, R96, R155, R181). -/

namespace Sys2Proof.Machine
-- One thread elaborates the proofs of this part in their order.
set_option Elab.async false

section
variable {s t u : State} {j : Job}

/-! ### The batch table at a new limit (R155) -/

/-- A batch entry at a limit: an OPEN one at or above it is CLOSED (R154, R155). -/
def limitedEntry (limit : Nat) (e : BatchEntry) : BatchEntry :=
  match e.batch with
  | some x => if x.isOpen = true ∧ limit ≤ x.count then { e with batch := some { x with isOpen := false }, changed := true }
      else e
  | none => e

theorem Bat.full_iff {b : Bat} {i : Fin 32} {limit : Nat} : b.full i limit = true ↔
    ∃ x, b.entries[i].batch = some x ∧ x.isOpen = true ∧ limit ≤ x.count := by
  simp [Bat.full, Option.any_eq_true]

theorem Bat.applyLimit_spec (b : Bat) (i : Fin 32) (limit : Nat) :
    b.applyLimit i limit = { b with entries := (b.applyLimit i limit).entries, lineBatch := (b.applyLimit i limit).lineBatch } ∧
      (∀ k : Fin 32, (b.applyLimit i limit).entries[k] = if k = i then limitedEntry limit b.entries[k] else b.entries[k]) ∧
      (b.applyLimit i limit).lineBatch = if b.lineBatch = some i ∧ b.full i limit = true then none else b.lineBatch := by
  by_cases full : b.full i limit = true
  · obtain ⟨x, held, isOpen, reached⟩ := Bat.full_iff.mp full
    have is : b.applyLimit i limit = _ := (if_pos full).trans (Bat.close_open held isOpen)
    rw [is]
    refine ⟨rfl, fun k => ?_, ?_⟩
    · refine (Bat.entries_put b i k _).trans ?_
      by_cases same : k = i
      · subst same
        rw [if_pos rfl, if_pos rfl]
        unfold limitedEntry
        rw [held]
        exact (if_pos ⟨isOpen, reached⟩).symm
      · rw [if_neg same, if_neg same]
    · simp only [full, and_true]
  · have is : b.applyLimit i limit = b := if_neg full
    rw [is]
    refine ⟨rfl, fun k => ?_, by rw [if_neg fun h => full h.2]⟩
    by_cases same : k = i
    · subst same
      rw [if_pos rfl]
      unfold limitedEntry
      cases held : b.entries[k].batch with
      | none => rfl
      | some x => exact (if_neg fun h => full (Bat.full_iff.mpr ⟨x, held, h⟩)).symm
    · rw [if_neg same]

/-- The limit applied to a list of entries, each once (R155). -/
theorem Bat.limited_spec (limit : Nat) {l : List (Fin 32)} (once : l.Nodup) : ∀ b : Bat,
    let c := l.foldl (fun b i => b.applyLimit i limit) b
    c = { b with entries := c.entries, lineBatch := c.lineBatch } ∧
      (∀ k : Fin 32, c.entries[k] = if k ∈ l then limitedEntry limit b.entries[k] else b.entries[k]) ∧
      c.lineBatch = if (∃ i ∈ l, b.lineBatch = some i ∧ b.full i limit = true) then none else b.lineBatch := by
  induction l with
  | nil => exact fun b => ⟨rfl, fun k => by simp, by simp⟩
  | cons i l ih =>
    intro b
    obtain ⟨fresh, rest⟩ := List.nodup_cons.mp once
    obtain ⟨one, entries, line⟩ := b.applyLimit_spec i limit
    obtain ⟨all, entries', line'⟩ := ih rest (b.applyLimit i limit)
    rw [List.foldl_cons]
    refine ⟨?_, fun k => ?_, ?_⟩
    · have next : (b.applyLimit i limit).nextCode = b.nextCode := (congrArg Bat.nextCode one).trans rfl
      have last : (b.applyLimit i limit).lastAssign = b.lastAssign := (congrArg Bat.lastAssign one).trans rfl
      have overflows : (b.applyLimit i limit).overflows = b.overflows := (congrArg Bat.overflows one).trans rfl
      rw [next, last, overflows] at all
      exact all
    · rw [entries', entries]
      by_cases same : k = i
      · subst same
        simp [fresh]
      · simp [same]
    · by_cases here : b.lineBatch = some i ∧ b.full i limit = true
      · have gone : (b.applyLimit i limit).lineBatch = none := line.trans (if_pos here)
        rw [line', gone, ite_self]
        exact (if_pos ⟨i, List.mem_cons_self, here⟩).symm
      · have kept : (b.applyLimit i limit).lineBatch = b.lineBatch := line.trans (if_neg here)
        have others : ∀ m ∈ l, (b.applyLimit i limit).full m limit = b.full m limit := fun m member => by
          unfold Bat.full
          rw [entries, if_neg fun is : m = i => fresh (is ▸ member)]
        have same : (∃ m ∈ l, b.lineBatch = some m ∧ (b.applyLimit i limit).full m limit = true) ↔
            ∃ m ∈ i :: l, b.lineBatch = some m ∧ b.full m limit = true := by
          refine ⟨fun ⟨m, member, is, full⟩ => ⟨m, List.mem_cons_of_mem _ member, is, others m member ▸ full⟩,
            fun ⟨m, among, is, full⟩ => ?_⟩
          rcases List.mem_cons.mp among with rfl | member
          · exact absurd ⟨is, full⟩ here
          · exact ⟨m, member, is, (others m member).symm ▸ full⟩
        rw [line', kept]
        simp only [same]

/-- The batch table with the limit applied to every entry. -/
def limitedBat (limit : Nat) (b : Bat) : Bat := (List.finRange 32).foldl (fun b i => b.applyLimit i limit) b

/-- What a job that is put in force makes of the batches (R155, R157, R158). -/
theorem State.batchLoad_eq (s : State) (j : Job) : s.batchLoad j = { s with
    bat := limitedBat j.rollsPerBatch s.bat
    shu := if (limitedBat j.rollsPerBatch s.bat).lineBatch = none then shadeTold s.shu none else s.shu
    lnk := s.lnk.raised (if ∃ i, s.bat.full i j.rollsPerBatch = true then [.batchChanged] else []) } := by
  have iff_ : ((List.finRange 32).any fun i => s.bat.full i j.rollsPerBatch) = true ↔
      ∃ i, s.bat.full i j.rollsPerBatch = true := by
    simp only [List.any_eq_true, List.mem_finRange, true_and]
  unfold State.batchLoad limitedBat
  simp only [← iff_]
  generalize ((List.finRange 32).any fun i => s.bat.full i j.rollsPerBatch) = closes
  generalize (List.finRange 32).foldl (fun b i => b.applyLimit i j.rollsPerBatch) s.bat = b
  simp only [State.reportLineBatch_eq]
  cases closes <;> cases line : b.lineBatch <;> simp [line, State.raiseNotice, Lnk.raised]

/-! ### The record in force -/

/-- The state with the record of a LOAD_JOB in force, before the batches and the line (R26, R74, R96, R114, R147, R181). -/
def jobTaken (s : State) (j : Job) : State :=
  { s with
    lsc := { s.lsc with job := some j, holdMask := some j.mask }
    rlp := Rlp.reset
    msc := { s.msc.atBoundary with gates := j.gates }
    rlg := { s.rlg with nextRoll := j.firstRoll }
    emb := s.emb.atLoad j
    wnd := { s.wnd with pwm := s.wnd.pwm.configure j.torquePeriod j.torquePrescale } }

/-- The line is READY with a job in force: a LIFTED nip stays. -/
theorem State.setLineState_lifted (job : s.lsc.job = some j) (lifted : s.emb.nip = .lifted) :
    s.setLineState .ready = { s with
      lsc := { s.lsc with lineState := .ready }
      lnk := s.lnk.raised (if s.lsc.lineState = .ready then [] else [.lineState]) } := by
  by_cases ready : s.lsc.lineState = .ready
  · rw [State.setLineState_same ready, if_pos ready]
    show s = { s with lsc := { s.lsc with lineState := .ready } }
    rw [← ready]
  · let v := ({ s with lsc := { s.lsc with lineState := .ready } } : State).raiseNotice .lineState
    have stays : v.evaluateNip = v := by
      rw [State.evaluateNip_eq (show v.lsc.job = some j from job), closePermitted_of_line (by exact nofun)]
      have same : evaluated j false v.emb = v.emb := by
        unfold evaluated
        rw [show v.emb.nip = .lifted from lifted]
      rw [same]
    rw [if_neg ready]
    exact (if_neg ready).trans stays

/-- The notices that a LOAD_JOB tells (R158, R189). -/
def loadTold (s : State) (j : Job) : List Notice :=
  (if ∃ i, s.bat.full i j.rollsPerBatch = true then [.batchChanged] else []) ++
    (if s.lsc.lineState = .ready then [] else [.lineState])

theorem State.takeJob_eq (s : State) (j : Job) : s.takeJob j = { jobTaken s j with
    lsc := { s.lsc with job := some j, holdMask := some j.mask, lineState := .ready }
    bat := limitedBat j.rollsPerBatch s.bat
    shu := if (limitedBat j.rollsPerBatch s.bat).lineBatch = none then shadeTold s.shu none else s.shu
    lnk := s.lnk.raised (loadTold s j) } := by
  have is : s.takeJob j = ((jobTaken s j).batchLoad j).setLineState .ready := rfl
  have bat : (jobTaken s j).bat = s.bat := rfl
  have shu : (jobTaken s j).shu = s.shu := rfl
  rw [is, State.batchLoad_eq, bat, shu]
  unfold loadTold
  generalize limitedBat j.rollsPerBatch s.bat = b
  generalize (if ∃ i, s.bat.full i j.rollsPerBatch = true then [Notice.batchChanged] else []) = told
  refine (State.setLineState_lifted (j := j) rfl rfl).trans ?_
  rw [← Lnk.raised_append]
  rfl

end

/-- Settles O57: the fields are checked in their order, then the record is put in force block by block. -/
theorem loadJobPutsAJobInForce : Obligations.LoadJobPutsAJobInForce := by
  intro s l tag p take allowed length j free closes
  have fits : (loadJobService p).fits = true := by
    show (p.length == 173) = true
    rw [length]
    rfl
  refine ⟨fun other => ?_, fun n open_ fails least => ?_, fun open_ passes => ?_⟩
  · exact answers_act (x := loadJobService p) rfl take fits allowed (if_neg (by simpa [free] using other)) rfl
  · have act : (loadJobService p).act s = badField s n := by
      refine (if_pos (by simpa [free] using open_)).trans ?_
      rw [jobFails_of_fails p fails least]
    exact answers_act (x := loadJobService p) rfl take fits allowed act rfl
  · have act : (loadJobService p).act s = done (s.takeJob j) .empty := by
      refine (if_pos (by simpa [free] using open_)).trans ?_
      rw [jobFails_of_passes p passes, jobOf_eq]
    obtain ⟨t, runs, frame, replied⟩ := answers_act (c := .loadJob l tag p) (x := loadJobService p) (ns := loadTold s j) rfl take fits
      allowed act (by rw [State.takeJob_eq])
    have taken := s.takeJob_eq j
    obtain ⟨all, entries, line⟩ := Bat.limited_spec j.rollsPerBatch (List.nodup_finRange 32) s.bat
    have bat : t.bat = limitedBat j.rollsPerBatch s.bat := by rw [frame.bat (by decide), taken]
    have shu : t.shu = if t.bat.lineBatch = none then shadeTold s.shu none else s.shu := by
      rw [bat, frame.shu (by decide), taken]
    have line : t.bat.lineBatch = if (∃ i ∈ List.finRange 32, s.bat.lineBatch = some i ∧ s.bat.full i j.rollsPerBatch = true)
        then none else s.bat.lineBatch := by
      rw [bat]
      exact line
    have full (i : Fin 32) : s.bat.full i j.rollsPerBatch = true ↔ closes i := Bat.full_iff
    refine ⟨t, loadTold s j, runs, replied, fun n => ?_, frame_of_exec runs, ?_, fun i => ?_, ?_, ?_, ?_, ?_, ?_,
      fun i is closed => ?_, fun i is stays => ?_, fun none_ => ?_, fun i => ?_⟩
    · unfold loadTold
      simp only [full, List.mem_append]
      rcases open_ with line | line <;> simp [line, or_comm, and_comm, closes]
    · rw [frame.lsc (by decide), taken]
    · have rlp : t.rlp = Rlp.reset := by
        rw [frame.rlp (by decide), taken]
        rfl
      unfold State.station
      rw [rlp]
      simp only [Rlp.reset, Fin.getElem_fin, Vector.getElem_replicate]
      rfl
    · rw [frame.msc (by decide), taken]
      rfl
    · rw [frame.rlg (by decide), taken]
      rfl
    · rw [frame.emb (by decide), taken]
      rfl
    · rw [frame.wnd (by decide), taken]
      rfl
    · rw [bat]
      exact all
    · have gone : t.bat.lineBatch = none := line.trans (if_pos ⟨i, List.mem_finRange i, is, (full i).mpr closed⟩)
      exact ⟨gone, shu.trans (if_pos gone)⟩
    · have kept : t.bat.lineBatch = some i := by
        rw [line, if_neg, is]
        rintro ⟨m, -, is', closed⟩
        cases is.symm.trans is'
        exact stays ((full i).mp closed)
      exact ⟨kept, shu.trans (if_neg (by rw [kept]; exact nofun))⟩
    · have absent : t.bat.lineBatch = none := by rw [line, none_, ite_self]
      exact ⟨absent, fun told => (shu.trans (if_pos absent)).trans (if_pos told)⟩
    · rw [bat]
      exact (entries i).trans (if_pos (List.mem_finRange i))

end Sys2Proof.Machine
end

section
/-! PROOFS. The station checks of START (R42). -/

namespace Sys2Proof.Machine
-- One thread elaborates the proofs of this part in their order.
set_option Elab.async false

section
variable {s : State} {j : Job} {n k : Nat}

/-! ### The first of all stations -/

theorem finRange_split {m : Nat} (i : Fin m) : ∃ before after,
    List.finRange m = before ++ i :: after ∧ ∀ k ∈ before, k < i := by
  obtain ⟨before, after, is⟩ := List.append_of_mem (List.mem_finRange i)
  have sorted : (List.finRange m).Pairwise (· < ·) := List.pairwise_lt_finRange m
  rw [is] at sorted
  exact ⟨before, after, is, fun k member => (List.pairwise_append.mp sorted).2.2 k member i List.mem_cons_self⟩

theorem findSome_finRange {m : Nat} {α : Type} {f : Fin m → Option α} {i : Fin m} {a : α} (here : f i = some a)
    (before : ∀ k, k < i → f k = none) : (List.finRange m).findSome? f = some a := by
  obtain ⟨l, r, is, less⟩ := finRange_split i
  exact List.findSome?_eq_some_iff.mpr ⟨l, i, r, is, here, fun x member => before x (less x member)⟩

/-! ### The four checks -/

theorem check1_some (fails : StationCheckFails s j 1 k) : s.check1 = some k := by
  have sorted : ((List.finRange 8).filter fun i => (s.station i).desc == .reference).Pairwise (· < ·) :=
    (List.pairwise_lt_finRange 8).filter _
  have mem (i : StationId) : i ∈ ((List.finRange 8).filter fun i => (s.station i).desc == .reference) ↔
      (s.station i).desc = .reference := by
    simp [List.mem_filter]
  unfold State.check1
  generalize (List.finRange 8).filter (fun i => (s.station i).desc == .reference) = refs at *
  have cases_ : (k = 255 ∧ ∀ i, (s.station i).desc ≠ .reference) ∨ ∃ i i' : StationId, i < i' ∧ k = i'.val ∧
      (s.station i).desc = .reference ∧ (s.station i').desc = .reference ∧
        ∀ m, m < i' → m ≠ i → (s.station m).desc ≠ .reference := by
    simpa [StationCheckFails] using fails
  rcases cases_ with ⟨rfl, none_⟩ | ⟨i, i', less, rfl, here, here', between⟩
  · have empty : refs = [] := List.eq_nil_iff_forall_not_mem.mpr fun i member => none_ i ((mem i).mp member)
    rw [empty]
  · have first := (mem i).mpr here
    have second := (mem i').mpr here'
    match refs, sorted, mem, first, second with
    | [], _, _, first, _ => cases first
    | [x], _, _, first, second =>
      rw [List.mem_singleton.mp first, List.mem_singleton.mp second] at less
      exact absurd less (Nat.lt_irrefl _)
    | x :: y :: rest, sorted, mem, first, second =>
      obtain ⟨low, sorted'⟩ := List.pairwise_cons.mp sorted
      obtain ⟨high, -⟩ := List.pairwise_cons.mp sorted'
      have xy : x < y := low y List.mem_cons_self
      have least : ∀ z, z ∈ x :: y :: rest → z ≠ x → y ≤ z := fun z member other => by
        rcases List.mem_cons.mp member with is | member
        · exact absurd is other
        · rcases List.mem_cons.mp member with is | member
          · exact Nat.le_of_eq (congrArg Fin.val is.symm)
          · exact Nat.le_of_lt (high z member)
      have lower : ∀ z, z ∈ x :: y :: rest → x ≤ z := fun z member => by
        rcases List.mem_cons.mp member with is | member
        · exact Nat.le_of_eq (congrArg Fin.val is.symm)
        · exact Nat.le_of_lt (low z member)
      have xRef := (mem x).mp List.mem_cons_self
      have yRef := (mem y).mp (List.mem_cons_of_mem _ List.mem_cons_self)
      have above : x < i' := Nat.lt_of_le_of_lt (lower i first) less
      have upper : y ≤ i' := least i' second fun is => Nat.lt_irrefl _ (is ▸ above)
      have same : i' = y := by
        refine Classical.byContradiction fun other => ?_
        have below : y < i' := Nat.lt_of_le_of_ne upper fun is => other (Fin.ext is.symm)
        have yi : y = i := by
          refine Classical.byContradiction fun ne => ?_
          exact between y below ne yRef
        have xi : x = i := by
          refine Classical.byContradiction fun ne => ?_
          exact between x (Nat.lt_trans xy below) ne xRef
        rw [xi, yi] at xy
        exact Nat.lt_irrefl _ xy
      rw [same]

theorem check1_none (passes : ∀ k, ¬StationCheckFails s j 1 k) : s.check1 = none := by
  have sorted : ((List.finRange 8).filter fun i => (s.station i).desc == .reference).Pairwise (· < ·) :=
    (List.pairwise_lt_finRange 8).filter _
  have mem (i : StationId) : i ∈ ((List.finRange 8).filter fun i => (s.station i).desc == .reference) ↔
      (s.station i).desc = .reference := by
    simp [List.mem_filter]
  unfold State.check1
  generalize (List.finRange 8).filter (fun i => (s.station i).desc == .reference) = refs at *
  match refs, sorted, mem with
  | [], _, mem =>
    refine absurd (.inl ⟨rfl, rfl, fun i is => ?_⟩) (passes 255)
    cases (mem i).mpr is
  | [x], _, _ => rfl
  | x :: y :: rest, sorted, mem =>
    obtain ⟨low, sorted'⟩ := List.pairwise_cons.mp sorted
    obtain ⟨high, -⟩ := List.pairwise_cons.mp sorted'
    refine absurd (.inr (.inl ⟨rfl, x, y, low y List.mem_cons_self, rfl, (mem x).mp List.mem_cons_self,
      (mem y).mp (List.mem_cons_of_mem _ List.mem_cons_self), fun m less other is => ?_⟩)) (passes y.val)
    rcases List.mem_cons.mp ((mem m).mpr is) with is | member
    · exact other is
    · rcases List.mem_cons.mp member with is | member
      · exact absurd less (by rw [is]; exact Nat.lt_irrefl _)
      · exact Nat.lt_asymm less (high m member)

/-- An INDIRECT station whose target is not RESIDENT (R42, check 2). -/
def orphan (s : State) (i : StationId) : Bool :=
  match (s.station i).desc with
  | .indirect d => !(s.station d.target).isResident
  | _ => false

theorem orphan_iff {i : StationId} : orphan s i = true ↔
    ∃ d, (s.station i).desc = .indirect d ∧ (s.station d.target).isResident = false := by
  unfold orphan
  cases (s.station i).desc <;> simp

theorem check2_eq (s : State) : s.check2 = ((List.finRange 8).find? (orphan s)).map Fin.val := rfl

theorem outside_iff {i : StationId} : ((s.station i).offset?.any fun o => !j.windowFits o) = true ↔
    ∃ d, (s.station i).desc = .resident d ∧
      ¬(j.wRef + 2 * j.wMark < d.offset ∧ d.offset + 2 * j.wMark + j.wRef < j.L) := by
  unfold Station.offset?
  cases (s.station i).desc <;> simp [Job.windowFits]
  omega

/-- Two stations too close, in their order (R42, check 4). -/
theorem close_iff {i k : StationId} : (decide (i < k) && s.tooClose j i k) = true ↔
    i < k ∧ ∃ d d', (s.station i).desc = .resident d ∧ (s.station k).desc = .resident d' ∧
      d.offset ≤ d'.offset + 2 * j.wMark ∧ d'.offset ≤ d.offset + 2 * j.wMark := by
  unfold State.tooClose Station.offset?
  cases (s.station i).desc <;> cases (s.station k).desc <;> simp
  intro _
  omega

/-! ### The checks in their order -/

/-- Station k is the first with a property. -/
def FirstWith (q : StationId → Prop) (k : Nat) : Prop := ∃ i, k = i.val ∧ q i ∧ ∀ m, m < i → ¬q m

section
variable {p : StationId → Bool} {q : StationId → Prop}

theorem first_some (iff_ : ∀ i, p i = true ↔ q i) (first : FirstWith q k) :
    ((List.finRange 8).find? p).map Fin.val = some k := by
  obtain ⟨i, rfl, here, before⟩ := first
  rw [find_finRange ((iff_ i).mpr here) fun m less => Bool.eq_false_iff.mpr (mt (iff_ m).mp (before m less))]
  rfl

theorem first_none (iff_ : ∀ i, p i = true ↔ q i) (none_ : ∀ k, ¬FirstWith q k) :
    ((List.finRange 8).find? p).map Fin.val = none := by
  cases found : (List.finRange 8).find? p with
  | none => rfl
  | some i =>
    obtain ⟨here, before⟩ := find_finRange_iff.mp found
    refine absurd ⟨i, rfl, (iff_ i).mp here, fun m less is => ?_⟩ (none_ i.val)
    rw [← iff_, before m less] at is
    cases is

end

/-- Two stations that lie too close, the first such in ascending order (R42, check 4). -/
def FirstClose (s : State) (j : Job) (k : Nat) : Prop :=
  ∃ i i' : StationId, k = i'.val ∧ (decide (i < i') && s.tooClose j i i') = true ∧
    (∀ m m' : StationId, m < i → ¬(decide (m < m') && s.tooClose j m m') = true) ∧
    ∀ m, m < i' → ¬(decide (i < m) && s.tooClose j i m) = true

theorem check4_some (first : FirstClose s j k) : s.check4 j = some k := by
  obtain ⟨i, i', rfl, here, before, before'⟩ := first
  have found : ((List.finRange 8).find? fun m => decide (i < m) && s.tooClose j i m) = some i' :=
    find_finRange here fun m less => by simpa using before' m less
  have first := findSome_finRange
    (f := fun i => (List.finRange 8).find? fun m => decide (i < m) && s.tooClose j i m) found
    fun m less => find_finRange_none fun m' => Bool.eq_false_iff.mpr (before m m' less)
  exact congrArg (Option.map Fin.val) first

theorem check4_none (none_ : ∀ k, ¬FirstClose s j k) : s.check4 j = none := by
  unfold State.check4
  cases found : (List.finRange 8).findSome? fun i => (List.finRange 8).find? fun k => decide (i < k) && s.tooClose j i k with
  | none => rfl
  | some i' =>
    obtain ⟨l, i, r, is, pair, before⟩ := List.findSome?_eq_some_iff.mp found
    obtain ⟨here, before'⟩ := find_finRange_iff.mp pair
    refine absurd ⟨i, i', rfl, here, fun m m' less => ?_, fun m less => by simp [before' m less]⟩ (none_ i'.val)
    have sorted : (List.finRange 8).Pairwise (· < ·) := List.pairwise_lt_finRange 8
    have member := List.mem_finRange m
    rw [is] at sorted member
    have early : m ∈ l := by
      rcases List.mem_append.mp member with early | late
      · exact early
      · rcases List.mem_cons.mp late with same | late
        · exact absurd less (same ▸ Nat.lt_irrefl _)
        · exact absurd less (Nat.lt_asymm ((List.pairwise_cons.mp (List.pairwise_append.mp sorted).2.1).1 m late))
    exact List.find?_eq_none.mp (before m early) m' (List.mem_finRange m')

theorem stationFails_two (k : Nat) : StationCheckFails s j 2 k ↔ FirstWith (fun i =>
    ∃ d, (s.station i).desc = .indirect d ∧ (s.station d.target).isResident = false) k := by
  simp [StationCheckFails, FirstWith]

theorem stationFails_three (k : Nat) : StationCheckFails s j 3 k ↔ FirstWith (fun i =>
    ∃ d, (s.station i).desc = .resident d ∧
      ¬(j.wRef + 2 * j.wMark < d.offset ∧ d.offset + 2 * j.wMark + j.wRef < j.L)) k := by
  simp [StationCheckFails, FirstWith]

theorem stationFails_four (k : Nat) : StationCheckFails s j 4 k ↔ FirstClose s j k := by
  simp only [StationCheckFails, FirstClose, close_iff]
  simp

theorem stationFails_number (fails : StationCheckFails s j n k) : n = 1 ∨ n = 2 ∨ n = 3 ∨ n = 4 := by
  rcases fails with ⟨is, -⟩ | ⟨is, -⟩ | ⟨is, -⟩ | ⟨is, -⟩ | ⟨is, -⟩ <;> simp [is]

theorem check2_some (fails : StationCheckFails s j 2 k) : s.check2 = some k :=
  first_some (fun _ => orphan_iff) ((stationFails_two k).mp fails)

theorem check2_none (passes : ∀ k, ¬StationCheckFails s j 2 k) : s.check2 = none :=
  first_none (fun _ => orphan_iff) fun k first => passes k ((stationFails_two k).mpr first)

theorem check3_some (fails : StationCheckFails s j 3 k) : s.check3 j = some k :=
  first_some (fun _ => outside_iff) ((stationFails_three k).mp fails)

theorem check3_none (passes : ∀ k, ¬StationCheckFails s j 3 k) : s.check3 j = none :=
  first_none (fun _ => outside_iff) fun k first => passes k ((stationFails_three k).mpr first)

/-- The first failing check, with the station it names (R42). -/
theorem stationChecks_some (fails : StationCheckFails s j n k) (least : ∀ m k', m < n → ¬StationCheckFails s j m k') :
    s.stationChecks j = some (n, k) := by
  unfold State.stationChecks
  rcases stationFails_number fails with rfl | rfl | rfl | rfl
  · rw [check1_some fails]
  · rw [check1_none fun k' => least 1 k' (by decide), check2_some fails]
  · rw [check1_none fun k' => least 1 k' (by decide), check2_none fun k' => least 2 k' (by decide), check3_some fails]
  · rw [check1_none fun k' => least 1 k' (by decide), check2_none fun k' => least 2 k' (by decide),
      check3_none fun k' => least 3 k' (by decide), check4_some ((stationFails_four k).mp fails)]
    rfl

theorem stationChecks_none (passes : ∀ n k, ¬StationCheckFails s j n k) : s.stationChecks j = none := by
  unfold State.stationChecks
  rw [check1_none (passes 1), check2_none (passes 2), check3_none (passes 3),
    check4_none fun k first => passes 4 k ((stationFails_four k).mpr first)]
  rfl

end

end Sys2Proof.Machine
end

section
/-! PROOFS. START: the blocks at their START values, the lead-in, the opening occasion and the four conditions examined
(O58). -/

namespace Sys2Proof.Machine
-- One thread elaborates the proofs of this part in their order.
set_option Elab.async false

section
variable {s t u v : State} {j : Job} {l : LinkId} {tag : Byte} {c : HoldCause} {cs : List HoldCause}

/-! ### The offsets taken at START (R43) -/

/-- The greatest offset of a list, 0 without one. -/
def greatestOffset (os : List (Option Nat)) (from_ : Nat) : Nat := os.foldl (fun n x => max n (x.getD 0)) from_

theorem greatestOffset_spec (os : List (Option Nat)) (n : Nat) : n ≤ greatestOffset os n ∧
    (∀ o, some o ∈ os → o ≤ greatestOffset os n) ∧ (greatestOffset os n = n ∨ some (greatestOffset os n) ∈ os) := by
  induction os generalizing n with
  | nil => exact ⟨Nat.le_refl _, nofun, .inl rfl⟩
  | cons x os ih =>
    obtain ⟨above, bound, attained⟩ := ih (max n (x.getD 0))
    change _ ≤ greatestOffset os (max n (x.getD 0)) ∧ (∀ o, _ → o ≤ greatestOffset os (max n (x.getD 0))) ∧
      (greatestOffset os (max n (x.getD 0)) = n ∨ some (greatestOffset os (max n (x.getD 0))) ∈ x :: os)
    refine ⟨Nat.le_trans (Nat.le_max_left _ _) above, fun o member => ?_, ?_⟩
    · rcases List.mem_cons.mp member with rfl | later
      · exact Nat.le_trans (Nat.le_max_right n o) above
      · exact bound o later
    · rcases attained with stays | later
      · rw [stays]
        cases x with
        | none => exact .inl (Nat.max_eq_left (Nat.zero_le n))
        | some o =>
          refine (Nat.le_total o n).imp Nat.max_eq_left fun below => ?_
          have is : max n o = o := Nat.max_eq_right below
          rw [show max n ((some o).getD 0) = o from is]
          exact List.mem_cons_self
      · exact .inr (List.mem_cons_of_mem _ later)

theorem Station.atStart_offset (x : Station) : x.atStart.offset? = x.offset? := by
  unfold Station.atStart
  split <;> rfl

theorem Station.offset_some {x : Station} {o : Nat} : x.offset? = some o ↔ ∃ d, x.desc = .resident d ∧ d.offset = o := by
  unfold Station.offset?
  cases x.desc <;> simp

theorem Station.offset_none {x : Station} (other : x.isResident = false) : x.offset? = none := by
  unfold Station.isResident at other
  unfold Station.offset?
  cases is : x.desc <;> simp [is] at other ⊢

/-- The scanner at START (R26, R43). -/
def startedMsc (s : State) : Msc := ((s.mapStations Station.atStart).scannerStart).msc

theorem startedMsc_offset (i : StationId) : (startedMsc s).offsets[i] = (s.station i).offset? := by
  rw [← Station.atStart_offset, ← s.mapStations_station Station.atStart]
  simp [startedMsc, State.scannerStart, State.station]

theorem startedMsc_oMax : (∀ (i : StationId) o, (s.station i).offset? = some o → o ≤ (startedMsc s).oMax) ∧
    ((startedMsc s).oMax = 0 ∨ ∃ i : StationId, (s.station i).offset? = some (startedMsc s).oMax) := by
  have is : (startedMsc s).oMax = greatestOffset (startedMsc s).offsets.toList 0 := rfl
  obtain ⟨-, bound, attained⟩ := greatestOffset_spec (startedMsc s).offsets.toList 0
  rw [← is] at bound attained
  refine ⟨fun i o here => bound o ?_, attained.imp id fun member => ?_⟩
  · rw [← here, ← startedMsc_offset]
    exact Vector.mem_toList_iff.mpr (Vector.getElem_mem i.isLt)
  · obtain ⟨n, less, here⟩ := Vector.mem_iff_getElem.mp (Vector.mem_toList_iff.mp member)
    exact ⟨⟨n, less⟩, (startedMsc_offset ⟨n, less⟩).symm.trans here⟩

/-! ### The blocks at START (R118, R182) -/

/-- The lead-in's planned cut, no point being known (R118, R119). -/
def leadInPlan (j : Job) (earliest : Count) : CutPlan :=
  ⟨if j.cutMode = .length then .known earliest none else .fromFloor earliest, .roll, false⟩

/-- The winder at START with its lead-in (R114, R118). -/
def startedWnd (s : State) (j : Job) : Wnd :=
  let start := back s.wpu.h j.dCut
  { s.wnd with
    active := some ⟨s.rlg.nextSeq, start, .leadIn, none⟩, divert := true, lastCut := some start
    eMin := some (fwd start j.dTr), planned := some (leadInPlan j (fwd start j.dTr)), plan := none, search := none
    points := [], lastWinding := none, refusals := 0, lastRefusal := none, overlaps := 0, overlength := false
    torqueMark := 0, pwm := { s.wnd.pwm with setDuty := 0, duty := 0 } }

/-- The lead-in's entry (R134, R135). -/
def leadInEntry (s : State) (j : Job) : Entry :=
  Entry.fresh s.rlg.nextSeq (back s.wpu.h j.dCut) .leadIn none s.trk.eventLost

/-- LOG_SPACE where the log then holds 28 entries or more (R147). -/
def logSpaceTold (s : State) : List Notice := if 28 ≤ s.rlg.log.length + 1 then [.logSpace] else []

/-- The state once every block has its START values and the lead-in is open (R182). -/
def startedBlocks (s : State) (j : Job) : State :=
  { s with
    wpu := { s.wpu with faultCount := 0 }
    rlp := (s.mapStations Station.atStart).rlp
    msc := startedMsc s
    emb := s.emb.atStart
    shu := s.shu.atStart
    bat := s.bat.atStart
    wnd := startedWnd s j
    rlg := { s.rlg with log := s.rlg.log ++ [leadInEntry s j], nextSeq := s.rlg.nextSeq + 1 }
    lnk := s.lnk.raised (logSpaceTold s) }

theorem State.firstPoint_of_none (none_ : s.wnd.points = []) (y : Count) :
    s.firstPoint j y = if j.cutMode = .length then .known y none else .fromFloor y := by
  unfold State.firstPoint
  rw [none_]
  cases j.cutMode <;> rfl

theorem startBlocks_eq (s : State) (j : Job) : s.startBlocks j = startedBlocks s j := by
  let a : State := { (s.mapStations Station.atStart).scannerStart with
    wpu := { s.wpu with faultCount := 0 }, emb := s.emb.atStart, shu := s.shu.atStart, bat := s.bat.atStart }
  let b : State := { a with wnd := { a.wnd with
    lastWinding := none, plan := none, search := none, points := [], refusals := 0, lastRefusal := none, overlaps := 0,
    overlength := false, torqueMark := 0, pwm := a.wnd.pwm.setTo 0 } }
  let c : State := b.openSegment (back s.wpu.h j.dCut) none .leadIn
  have opened : c = _ := b.openSegment_eq (back s.wpu.h j.dCut) none .leadIn
  let d : State := { c with wnd := { c.wnd with
    lastCut := some (back s.wpu.h j.dCut), eMin := some (fwd (back s.wpu.h j.dCut) j.dTr) } }
  have points : d.wnd.points = [] := by
    show c.wnd.points = []
    rw [opened]
  have is : s.startBlocks j = { d with wnd := { d.wnd with
    planned := some ⟨d.firstPoint j (fwd (back s.wpu.h j.dCut) j.dTr), .roll, false⟩ } } := rfl
  rw [is, State.firstPoint_of_none points]
  show ({ c with wnd := { c.wnd with
    lastCut := _, eMin := _, planned := some (leadInPlan j (fwd (back s.wpu.h j.dCut) j.dTr)) } } : State) = _
  rw [opened]
  rfl

/-! ### The four conditions examined (R182) -/

/-- Raised causes leave the conditions as they are; that of HOST is its latch. -/
theorem conditions_kept (frame : SameBut [.lsc, .emb, .lnk] s t) {d : HoldCause} (other : d ≠ .host) :
    (conditionsOf t).has d = (conditionsOf s).has d := by
  have wpu := frame.wpu (by decide)
  have msc := frame.msc (by decide)
  have rlp := frame.rlp (by decide)
  have wnd := frame.wnd (by decide)
  have trk := frame.trk (by decide)
  have shu := frame.shu (by decide)
  have lbc := frame.lbc (by decide)
  cases d with
  | stationLost => exact decide_eq_decide.mpr (by unfold State.station; rw [rlp])
  | host => exact absurd rfl other
  | _ => simp [conditionsOf, Causes.has, wpu, msc, wnd, trk, shu, lbc]

theorem Lsc.raised_hold {k : Lsc} (hold : k.lineState = .hold) : (k.raised c).lineState = .hold := by
  unfold Lsc.raised
  (repeat' split) <;> simp [hold] at *

theorem Lsc.foldl_raised_hold {k : Lsc} (hold : k.lineState = .hold) : (cs.foldl Lsc.raised k).lineState = .hold := by
  induction cs generalizing k with
  | nil => exact hold
  | cons c cs ih => exact ih (Lsc.raised_hold hold)

theorem Lsc.raised_goesOn {k : Lsc} (runs : ¬((k.holdMask.any fun m => m.has c) = true ∧ k.lineState = .run)) :
    (k.raised c).lineState = k.lineState := by
  unfold Lsc.raised
  rw [if_neg runs]
  (repeat' split) <;> rfl

theorem State.foldl_raiseCause_lsc (u : State) : (cs.foldl State.raiseCause u).lsc = cs.foldl Lsc.raised u.lsc := by
  induction cs generalizing u with
  | nil => rfl
  | cons c cs ih => rw [List.foldl_cons, List.foldl_cons, ih, State.raiseCause_lsc]

/-- What raised causes leave (R78, R183): a line that they stop lifts the nip. -/
theorem State.foldl_raiseCause_spec (job : s.lsc.job = some j)
    (settled : s.lsc.lineState = .hold → evaluated j false s.emb = s.emb) :
    let t := cs.foldl State.raiseCause s
    SameBut [.lsc, .emb, .lnk] s t ∧ t.emb = (if t.lsc.lineState = .hold then evaluated j false s.emb else s.emb) ∧
      ∃ told, Tells s t told ∧ ∀ n ∈ told, n = .lineState := by
  induction cs generalizing s with
  | nil =>
    refine ⟨SameBut.refl _ s, ?_, [], .nothing rfl, nofun⟩
    show s.emb = if s.lsc.lineState = .hold then evaluated j false s.emb else s.emb
    split
    next hold => exact (settled hold).symm
    next => rfl
  | cons c cs ih =>
    have step : SameBut [.lsc, .emb, .lnk] s (s.raiseCause c) := (s.raiseCause_affects c).1.mono (by decide)
    have job' : (s.raiseCause c).lsc.job = some j := by rw [State.raiseCause_lsc, Lsc.raised_job, job]
    have here : Tells s (s.raiseCause c) (causeTold s c) := .of_raised (s.raiseCause_spec c).2
    have only : ∀ n ∈ causeTold s c, n = .lineState := fun n member => by
      unfold causeTold at member
      split at member
      · exact List.mem_singleton.mp member
      · cases member
    have emb := State.raiseCause_emb_of_job job c
    have lsc := State.raiseCause_lsc s c
    have finish : (s.raiseCause c).lsc.lineState = .hold →
        (cs.foldl State.raiseCause (s.raiseCause c)).lsc.lineState = .hold := fun hold => by
      rw [State.foldl_raiseCause_lsc]
      exact Lsc.foldl_raised_hold hold
    by_cases stops : (s.lsc.holdMask.any fun m => m.has c) = true ∧ s.lsc.lineState = .run
    · rw [if_pos stops] at emb
      have hold : (s.raiseCause c).lsc.lineState = .hold := by rw [lsc, Lsc.raised_stops stops]
      obtain ⟨frame, emb', told, tells, only'⟩ := ih job' fun _ => by rw [emb, evaluated_evaluated]
      refine ⟨step.trans frame, ?_, _, here.trans tells, fun n member => ?_⟩
      · rw [List.foldl_cons, emb', if_pos (finish hold), if_pos (finish hold), emb, evaluated_evaluated]
      · exact (List.mem_append.mp member).elim (only n) (only' n)
    · rw [if_neg stops] at emb
      have line : (s.raiseCause c).lsc.lineState = s.lsc.lineState := by rw [lsc, Lsc.raised_goesOn stops]
      obtain ⟨frame, emb', told, tells, only'⟩ := ih job' fun hold => by rw [emb, settled (line ▸ hold)]
      refine ⟨step.trans frame, ?_, _, here.trans tells, fun n member => ?_⟩
      · rw [List.foldl_cons, emb', emb]
      · exact (List.mem_append.mp member).elim (only n) (only' n)

/-- To examine conditions is to raise those that are present (R182). -/
theorem State.foldl_examine (u : State) (others : .host ∉ cs) :
    cs.foldl State.examine u = (cs.filter (conditionsOf u).has).foldl State.raiseCause u := by
  induction cs generalizing u with
  | nil => rfl
  | cons c cs ih =>
    have later : HoldCause.host ∉ cs := fun member => others (List.mem_cons_of_mem c member)
    rw [List.foldl_cons, ih _ later]
    have step : u.examine c = if (conditionsOf u).has c = true then u.raiseCause c else u := by
      unfold State.examine
      rw [State.conditions_eq]
    by_cases present : (conditionsOf u).has c = true
    · have frame : SameBut [.lsc, .emb, .lnk] u (u.raiseCause c) := (u.raiseCause_affects c).1.mono (by decide)
      rw [step, if_pos present, List.filter_cons_of_pos present, List.foldl_cons]
      have same : cs.filter (conditionsOf (u.raiseCause c)).has = cs.filter (conditionsOf u).has :=
        List.filter_congr fun d member => conditions_kept frame fun is => later (is ▸ member)
      rw [same]
    · rw [step, if_neg present, List.filter_cons_of_neg present]

/-! ### The opening occasion at START (R17) -/

/-- With no event in the list, or an idle defect line, the occasion reaches the events, the nip and the notices alone. -/
theorem occasionTaken_empty {told : List Notice} (taken : OccasionTaken j u v told)
    (none_ : u.pins.defectLine = true → u.trk.events = []) : SameBut [.trk, .emb, .lnk] u v := by
  by_cases opens : (u.pins.defectLine && u.running && !u.reverse && !(u.trk.events.any WebEvent.isOpen)) = true
  · have empty : u.trk.events = [] := none_ (by simp at opens; exact opens.1.1.1)
    obtain ⟨⟨-, w, before, after, is, -, -, trk, -, enters, judged⟩, frame⟩ := (taken.2 opens).1 (by simp [empty])
    obtain ⟨rfl, rfl⟩ : before = [] ∧ after = [] := by simpa [empty] using is
    rw [State.judgeSplices_unjudged (.inr fun e member => by
      rw [trk] at member
      rw [List.mem_singleton.mp member]
      nofun)] at judged
    intro b outside
    cases b with
    | wnd => exact (judged.wnd (by decide)).trans (enters.wnd (by decide))
    | trk | emb | lnk => simp at outside
    | _ => exact frame _ (by simp)
  · rw [(taken.1 (by simpa using opens)).1]
    exact SameBut.refl _ u

/-! ### The run that starts -/

/-- The state in which the line enters RUN (R182). -/
def permitted (s : State) (j : Job) : State :=
  { startedBlocks s j with lsc := { s.lsc with runPermit := true } }

theorem permitted_frame (s : State) (j : Job) :
    SameBut [.wpu, .msc, .rlp, .emb, .shu, .wnd, .rlg, .bat, .lsc, .lnk] s (permitted s j) := by
  intro b outside
  cases b <;> first | rfl | simp at outside

/-- The four causes whose conditions START examines (R182). -/
def examinedCauses : List HoldCause := [.encoder, .overspeed, .headOffline, .printerOffline]

theorem takeStart_eq (s : State) (j : Job) :
    s.takeStart j = examinedCauses.foldl State.examine (((permitted s j).setLineState .run).openingOccasion j) := by
  unfold State.takeStart
  rw [startBlocks_eq]
  rfl

/-- The line enters RUN: the blocks at their START values, the nip judged (R78, R96, R182). -/
theorem enteredRun_spec (ready : s.lsc.lineState = .ready) (job : s.lsc.job = some j) :
    let u := (permitted s j).setLineState .run
    SameBut [.lsc, .emb, .lnk] (permitted s j) u ∧ u.lsc = { s.lsc with lineState := .run, runPermit := true } ∧
      u.emb = evaluated j (j.embossOn && !s.trk.eventLost && decide (j.vMinEmboss ≤ s.wpu.v)) s.emb.atStart ∧
      Tells s u (logSpaceTold s ++ [.lineState]) := by
  have leaves : (permitted s j).lsc.lineState ≠ .run := by
    rw [show (permitted s j).lsc.lineState = .ready from ready]
    nofun
  obtain ⟨frame, lsc, tells, emb⟩ := State.setLineState_spec leaves
  have emb := emb j job
  have before : Tells s (permitted s j) (logSpaceTold s) := .of_raised rfl
  refine ⟨frame, lsc, ?_, before.trans tells⟩
  have may : ClosePermitted ((permitted s j).setLineState .run) j s.emb.atStart =
      (j.embossOn && !s.trk.eventLost && decide (j.vMinEmboss ≤ s.wpu.v)) := by
    unfold ClosePermitted
    rw [lsc, frame.trk (by decide), frame.wpu (by decide)]
    show (true && j.embossOn && !false && !false && !s.trk.eventLost && decide (j.vMinEmboss ≤ s.wpu.v)) = _
    rw [Bool.true_and, Bool.not_false, Bool.and_true, Bool.and_true]
  exact emb.trans (congrArg (fun b => evaluated j b s.emb.atStart) may)

/-- A START that is taken: the line in RUN, the opening occasion, the conditions examined (R17, R182). -/
theorem takeStart_spec (ready : s.lsc.lineState = .ready) (job : s.lsc.job = some j)
    (none_ : s.pins.defectLine = true → s.trk.events = []) :
    let t := s.takeStart j
    let u := (permitted s j).setLineState .run
    ∃ v told repeated, OccasionTaken j u v told ∧ SameBut [.lsc, .emb, .lnk] v t ∧
      SameBut [.trk, .emb, .lsc, .lnk] (permitted s j) t ∧
      t.emb = (if t.lsc.lineState = .hold then evaluated j false v.emb else v.emb) ∧
      (∀ w : State, w.lsc = { s.lsc with lineState := .run, runPermit := true } →
        t.lsc = ((examinedCauses.filter (conditionsOf s).has).foldl State.raiseCause w).lsc) ∧
      Tells s t (logSpaceTold s ++ [.lineState] ++ told ++ repeated) ∧ ∀ n ∈ repeated, n = .lineState := by
  intro t u
  obtain ⟨entered, lsc, -, tells⟩ := enteredRun_spec ready job
  have job' : u.lsc.job = some j := by
    rw [show u.lsc = _ from lsc]
    exact job
  obtain ⟨told, taken, tells'⟩ := State.openingOccasion_spec job'
  let v := u.openingOccasion j
  have events : u.trk.events = s.trk.events := congrArg Trk.events (entered.trk (by decide))
  have pins : u.pins = s.pins := entered.pins (by decide)
  have opened : SameBut [.trk, .emb, .lnk] u v := occasionTaken_empty taken (by rw [events, pins]; exact none_)
  have lsc' : v.lsc = { s.lsc with lineState := .run, runPermit := true } := (opened.lsc (by decide)).trans lsc
  have is : t = (examinedCauses.filter (conditionsOf v).has).foldl State.raiseCause v :=
    (takeStart_eq s j).trans (State.foldl_examine v (by decide))
  obtain ⟨frame, emb, repeated, tells'', only⟩ := State.foldl_raiseCause_spec
    (cs := examinedCauses.filter (conditionsOf v).has) (s := v) (j := j) (by rw [lsc']; exact job)
    (by rw [lsc']; nofun)
  rw [← is] at frame emb tells''
  refine ⟨v, told, repeated, taken, frame,
    (entered.mono (by decide)).trans ((opened.mono (by decide)).trans (frame.mono (by decide))), emb, fun w given => ?_,
    (tells.trans tells').trans tells'', only⟩
  have conditions : examinedCauses.filter (conditionsOf v).has = examinedCauses.filter (conditionsOf s).has := by
    have wpu : v.wpu = { s.wpu with faultCount := 0 } := (opened.wpu (by decide)).trans (entered.wpu (by decide))
    have shu : v.shu = s.shu.atStart := (opened.shu (by decide)).trans (entered.shu (by decide))
    have lbc : v.lbc = s.lbc := (opened.lbc (by decide)).trans (entered.lbc (by decide))
    refine List.filter_congr fun d member => ?_
    simp only [examinedCauses, List.mem_cons, List.not_mem_nil, or_false] at member
    rcases member with rfl | rfl | rfl | rfl <;> simp [conditionsOf, Causes.has, wpu, shu, lbc, Shu.atStart]
  rw [is, conditions, State.foldl_raiseCause_lsc, State.foldl_raiseCause_lsc, lsc', given]

/-! ### The answer -/

theorem start_acts (ready : s.lsc.lineState = .ready) (job : s.lsc.job = some j) : startService.act s =
    match s.stationChecks j with
    | some c => (s, .param, .check c.1 c.2)
    | none =>
      if Config.logCap ≤ s.rlg.log.length then refuse s .busy
      else done (s.takeStart j) (.started (s.takeStart j).lsc.lineState (s.takeStart j).lsc.latched) :=
  (if_pos ready).trans (State.answerWithJob_some job _)

theorem startedMsc_eq (s : State) : startedMsc s = { s.msc with
    refState := .seeking, origin := none, prevEdge := none, missCount := 0, nextIndex := 0, capture := none
    closings := [], offsets := (startedMsc s).offsets, oMax := (startedMsc s).oMax } := rfl

end

/-- Settles O58: the checks in their order; a START that passes them leaves every block at its START values and the line in
RUN, then what the opening occasion and the four conditions make of it. -/
theorem startChecksAndStartsARun : Obligations.StartChecksAndStartsARun := by
  intro s l tag take allowed
  refine ⟨fun line => answers_act (x := startService) rfl take rfl allowed (if_neg line) rfl, fun j ready job =>
    ⟨fun n k fails least => ?_, fun passes full => ?_, fun passes room none_ => ?_⟩⟩
  · refine answers_act (x := startService) rfl take rfl allowed (ns := []) ?_ rfl
    rw [start_acts ready job, stationChecks_some fails least]
  · refine answers_act (x := startService) rfl take rfl allowed (ns := []) ?_ rfl
    rw [start_acts ready job, stationChecks_none passes]
    exact if_pos full
  · intro start
    obtain ⟨v, told, repeated, taken, examined, started, emb, lsc, tells, only⟩ := takeStart_spec ready job none_
    obtain ⟨entered, enteredLsc, enteredEmb, -⟩ := enteredRun_spec ready job
    have act : startService.act s =
        done (s.takeStart j) (.started (s.takeStart j).lsc.lineState (s.takeStart j).lsc.latched) := by
      rw [start_acts ready job, stationChecks_none passes]
      exact if_neg (Nat.not_le.mpr room)
    obtain ⟨t, runs, kept, replied⟩ := answers_tells (c := .start l tag) (x := startService) rfl take rfl allowed act tells
    have ends : t.lsc = (s.takeStart j).lsc := kept.lsc (by decide)
    have same : SameBut [.trk, .emb, .lsc, .lnk] (permitted s j) t := started.trans (kept.mono (by decide))
    have msc : t.msc = startedMsc s := same.msc (by decide)
    obtain ⟨bound, attained⟩ := startedMsc_oMax (s := s)
    rw [← ends] at replied
    refine ⟨t, _, runs, replied, frame_of_exec runs, ⟨_, v, told, ?_, ?_, enteredLsc, enteredEmb, taken,
      examined.trans (kept.mono (by decide)), ?_, fun n => ?_⟩, same.wpu (by decide), fun i => ?_,
      ⟨?_, fun i => ⟨?_, ?_⟩, ?_, ?_⟩,
      same.shu (by decide), same.bat (by decide), ⟨leadInEntry s j, same.rlg (by decide), rfl, rfl, rfl, rfl, rfl⟩,
      same.wnd (by decide), fun w given => ends.trans (lsc w given)⟩
    · exact (permitted_frame s j).trans (entered.mono (by decide))
    · exact entered.wpu (by decide)
    · rw [kept.emb (by decide), ends]
      exact emb
    · have logged : n ∈ logSpaceTold s ↔ n = .logSpace ∧ 28 ≤ s.rlg.log.length + 1 := by
        unfold logSpaceTold
        split
        next full => simp [full]
        next low => simp [low]
      simp only [List.mem_append, List.mem_singleton, logged]
      constructor
      · rintro (((space | line) | here) | again)
        · exact .inr (.inl space)
        · exact .inl line
        · exact .inr (.inr here)
        · exact .inl (only n again)
      · rintro (line | space | here)
        · exact .inl (.inl (.inr line))
        · exact .inl (.inl (.inl space))
        · exact .inl (.inr here)
    · have rlp : t.rlp = (s.mapStations Station.atStart).rlp := same.rlp (by decide)
      refine Eq.trans ?_ (s.mapStations_station Station.atStart i)
      exact congrArg (fun r : Rlp => r.stations[i]) rlp
    · rw [msc]
      exact startedMsc_eq s
    · intro d desc
      rw [msc, startedMsc_offset]
      exact Station.offset_some.mpr ⟨d, desc, rfl⟩
    · intro other
      rw [msc, startedMsc_offset]
      exact Station.offset_none other
    · intro i d desc
      rw [msc]
      exact bound i _ (Station.offset_some.mpr ⟨d, desc, rfl⟩)
    · rw [msc]
      refine attained.imp id fun ⟨i, here⟩ => ?_
      obtain ⟨d, desc, is⟩ := Station.offset_some.mp here
      exact ⟨i, d, desc, is⟩

end Sys2Proof.Machine
end
